-- ==== Sys2Proof/Word.lean ====
section
/-! DEFINITION. The word and index types of the TH-820. -/
namespace Sys2Proof

/-- One byte of a frame or of a management transaction (04 section 4.2, 10 section 10.1). -/
abbrev Byte := BitVec 8

/-- A 32-bit value: a field value of the management port, a status word of a REPORT (10:R171, 07:R117). -/
abbrev Word := BitVec 32

/-- The 32-bit identifier a radio unit gives in its JOIN (00 section 5, Tag). -/
abbrev Tag := BitVec 32

/-- A record's revision, 8 bits, wrapping from 255 to 0 (00 section 4.3). -/
abbrev Rev := BitVec 8

/-- Index of a reference entry (02 section 2.1). -/
abbrev RefIx := Fin 8

/-- Index of a site link port (04). -/
abbrev PortIx := Fin 8

/-- Index of a lease slot (07:R117). -/
abbrev LeaseIx := Fin 32

/-- Index of an admission slot (05:R85). -/
abbrev AdmIx := Fin 8

/-- Index of a timing output (08:R140). -/
abbrev OutIx := Fin 4

/-- Slot of the alarm table (09:R149). -/
abbrev SlotIx := Fin 48

/-- Index of an alarm line (09:R162). -/
abbrev LineIx := Fin 8

/-- A site time as one count of nanoseconds: seconds times 1,000,000,000 plus nanoseconds (00 section 4.1). -/
abbrev SiteNs := Nat

end Sys2Proof
end

