-- ==== Sys2Proof/Config.lean ====
section
/-! DEFINITION. The numbers the manual fixes for every part, and the one value it leaves open. -/
namespace Sys2Proof.Config

/-- Nanoseconds in a second. -/
def secNs : Nat := 1000000000

/-- Seconds of site time and the run counter lie below this: 2^48 (00 section 6). -/
def secMod : Nat := 281474976710656

/-- Site time as one count of ns lies below this: 2^48 seconds (01:R1). -/
def siteMod : Nat := 281474976710656000000000

/-- Half of `siteMod`: site times are compared on the circle of `siteMod` (log entry 5). -/
def siteHalf : Nat := 140737488355328000000000

/-- Half of `secMod`, for seconds compared in the same way (log entry 5). -/
def secHalf : Nat := 140737488355328

/-- The top of E and of h (01:R5, R6). -/
def eMax : Nat := 4294967295

/-- The frequency correction lies within plus and minus this many ppb (01:R5). -/
def freqMax : Int := 50000

/-- Locked time stops here (01:R5). -/
def lockedTimeMax : Nat := 86400

/-- Samples within the lock threshold that bring LOCKED (01:R12). -/
def lockRunTarget : Nat := 16

/-- Samples beyond four lock thresholds that end LOCKED (01:R12). -/
def unlockRunTarget : Nat := 4

/-- Limit of a step's amount as an alarm detail and as a STEP notice's value (01:R11, 07:R126). -/
def stepReportMax : Int := 2147483647

/-- One character of a label line in ns: ten bits at 115,200 bit/s (02:R28, log entry 37). -/
def labelCharNs : Nat := 86806

/-- A gap longer than this on a label line ends a frame and lets the next one begin, 500 µs in ns (02:R28). -/
def labelGapNs : Nat := 500000

/-- Characters in a label frame (02:R28). -/
def labelChars : Nat := 10

/-- Missing-sample limit and freshness limit, 1250 ms in ns (02:R27, R30). -/
def missingNs : Nat := 1250000000

/-- An edge sooner than this after the last accepted one is a GLITCH, 750 ms in ns (02:R30). -/
def glitchNs : Nat := 750000000

/-- Offsets beyond this magnitude are LABEL-MISMATCH while LOCKED (02:R31, R33). -/
def mismatchNs : Nat := 500000000

/-- Pulses in one LINE measurement window (02:R32). -/
def windowPulses : Nat := 10000000

/-- Fault score at lockout (02:R39). -/
def lockoutScore : Nat := 4

/-- Run seconds of continuous USABLE that lower the fault score by one (02:R41). -/
def decaySeconds : Nat := 900

/-- Limit of a stored last offset (02:R27). -/
def lastOffsetMax : Int := 9223372036854775807

/-- Limit of a stored last frequency offset (02:R27). -/
def lastFreqMax : Int := 2147483647

/-- Frames a transmit queue holds (04:R73). -/
def queueMax : Nat := 16

/-- One line symbol in ns (04:R67). -/
def symbolNs : Nat := 8

/-- Consecutive valid symbols that gain lock (04:R67). -/
def lockGainRun : Nat := 1024

/-- Consecutive symbols that are not valid and lose lock (04:R67). -/
def lockLossRun : Nat := 16

/-- The two IDLE symbols before a departure, in ns (04:R70). -/
def guardNs : Nat := 16

/-- Echo timer, 2 ms in ns (06:R107). -/
def echoNs : Nat := 2000000

/-- Live leases a port holds at most (05:R92). -/
def portLeasesMax : Nat := 4

/-- Live leases the table holds at most (05:R92). -/
def tableLeasesMax : Nat := 32

/-- A granted credit of 255 is unlimited (05:R85). -/
def unlimitedCredit : Nat := 255

/-- Renewal point of the credit (07:R123). -/
def renewalPoint : Nat := 8

/-- Largest compensation in ns (06:R110). -/
def compensationMax : Int := 100000

/-- A re-measure further off than this many ns is a delay jump (06:R113). -/
def jumpNs : Nat := 20

/-- Counts of an alarm record stop here (09:R149). -/
def countMax : Nat := 255

/-- FREE VALUE (log entry 6): what the run counter reads after the run second that follows 2^48-1. 01:R2 gives its range and
no next value. The argument is the oscillator instant, so every such run second has a value of its own. -/
opaque runCounterPastTop : Nat → BitVec 48

end Sys2Proof.Config
end

