-- ==== Sys2Proof/Syntax.lean ====
section
/-! DEFINITION. The commands of the TH-820, one constructor of `Instr` per row of spec/opcode_table.json, and their operands.

Every command but RESET_N carries `dt`, the oscillator nanoseconds elapsed since the command before it (log entry 2). A command of
a lane carries the symbols its receiver sees before the command's own: those of its frame; the valid one of LANE_LOCK_GAINED; the one
that is not valid of LANE_LOCK_LOST (04:R67, R68, log entry 36). -/
namespace Sys2Proof

/-- Polarity of a pulse edge (02:R26, field edge). -/
inductive Edge where
  | rising | falling
  deriving DecidableEq, Repr

/-- The two LINE entries, 4 and 5 (02 section 2.1). -/
inductive LineInput where
  | four | five
  deriving DecidableEq, Repr

/-- The reference entry a LINE input is (02 section 2.1). -/
def LineInput.entry : LineInput → RefIx
  | .four => 4
  | .five => 5

/-- One character on a label line: its eight data bits, and whether its stop bit was correct (02:R28). -/
structure LabelChar where
  byte : Byte
  stopOk : Bool
  deriving DecidableEq, Repr

/-- A character that follows another on a label line, `wait` oscillator ns after the end of that one (02:R28, log entry 37). -/
structure LineChar where
  wait : Nat
  char : LabelChar
  deriving DecidableEq, Repr

/-- The body of a JOIN as received (04 section 4.2). -/
structure JoinBody where
  tag : Tag
  wanted : Byte
  offer : Byte
  turnaround : BitVec 16
  deriving DecidableEq, Repr

/-- The body of a REPORT as received; its word count is the length of `words` (04 section 4.2). -/
structure ReportBody where
  lease : Byte
  severity : Byte
  words : List Word
  deriving DecidableEq, Repr

/-- The body of a PEER-MARK as received; the difference is signed (04 section 4.2). -/
structure PeerMarkBody where
  lease : Byte
  seconds : BitVec 48
  valid : Byte
  difference : BitVec 32
  deriving DecidableEq, Repr

/-- The body of an ECHO-BACK as received (04 section 4.2). -/
structure EchoBackBody where
  lease : Byte
  number : Byte
  deriving DecidableEq, Repr

/-- The six kinds of frame a hub sends (04 section 4.2). -/
inductive HubKind where
  | accept | wait | refuse | mark | echo | notice
  deriving DecidableEq, Repr

/-- The symbols of a lane (04 section 4.1). -/
inductive LineSymbol where
  | idle | frameStart | frameEnd
  | boundary (lease : LeaseIx)
  | data (b : Byte)
  deriving DecidableEq, Repr

/-- What a receiver sees in one symbol time of LRXn: a line symbol, or none where it is not a valid one (04:R67). -/
abbrev RxSymbol := Option LineSymbol

/-- A lane, by its port, with the symbols its receiver sees before a command's own (04:R67, log entry 36). -/
structure Lane where
  port : PortIx
  heard : List RxSymbol
  deriving DecidableEq, Repr

/-- A lane and the symbols its receiver sees, the last of them a valid one (04:R67). -/
structure LaneSymbol where
  port : PortIx
  heard : List RxSymbol
  last : LineSymbol
  deriving DecidableEq, Repr

/-- A frame of a hub as received: its kind and its body (04 section 4.2). -/
structure HubFrame where
  kind : HubKind
  body : List Byte
  deriving DecidableEq, Repr

/-- A frame laid out as its kind: kind byte known, L the length of that kind (04 section 4.2, R68). -/
inductive LaneFrame where
  | join (body : JoinBody)
  | renew (lease : Byte)
  | leave (lease : Byte)
  | report (body : ReportBody)
  | peerMark (body : PeerMarkBody)
  | echoBack (body : EchoBackBody)
  | hub (kind : HubKind) (body : List Byte)
  deriving DecidableEq, Repr

/-- The blocks that take a room announcement (09:R158). -/
inductive Block where
  | timebase | referenceUnit | leaseController | ports | outputs
  deriving DecidableEq, Repr

/-- The ten tables of the management port (10:R168). -/
inductive Table where
  | timebase | reference | admission | lease | port | output | alarm | alarmKind | alarmLine | alarmUnit
  deriving DecidableEq, Repr

/-- One field of a field list: id and value (10:R171). -/
structure Field where
  id : Byte
  value : Word
  deriving DecidableEq, Repr

/-- A request transaction as sent, less its kind and table, which the command's name or operands give (10:R166).
`count` is byte 14, `fields` the fields sent when it is 12 or less, `clocked` the bytes clocked before CS_N rose. -/
structure Request where
  form : Byte
  group : Byte
  key : BitVec 64
  revision : Rev
  count : Byte
  fields : List Field
  clocked : Nat
  deriving DecidableEq, Repr

/-- How far a request is carried by the command that names it (log entry 13): `whole`, the transaction and its effect in one
event; `taken`, the transaction only, so that the request is in execution afterwards; `acts`, the effect of that request. -/
inductive Stage where
  | whole | taken | acts
  deriving DecidableEq, Repr

/-- The commands. -/
inductive Instr where
  | resetN
  | resetNRelease (dt : Nat)
  | runSecond (dt : Nat)
  | siteSecondBoundary (dt : Nat)
  | referenceEdge (dt : Nat) (entry : Fin 4) (edge : Edge)
  | labelFrame (dt : Nat) (entry : Fin 4) (first : LabelChar) (rest : List LineChar)
  | linePulse (dt : Nat) (line : LineInput)
  | assistMeasurement (dt : Nat)
  | timebaseSample (dt : Nat)
  | missingSampleTimerExpiry (dt : Nat) (entry : RefIx)
  | holdOffExpiry (dt : Nat) (entry : RefIx)
  | faultScoreDecay (dt : Nat) (entry : RefIx)
  | revertiveSwitch (dt : Nat)
  | laneLockGained (dt : Nat) (symbol : LaneSymbol)
  | laneLockLost (dt : Nat) (lane : Lane)
  | join (dt : Nat) (lane : Lane) (body : JoinBody)
  | renew (dt : Nat) (lane : Lane) (lease : Byte)
  | leave (dt : Nat) (lane : Lane) (lease : Byte)
  | report (dt : Nat) (lane : Lane) (body : ReportBody)
  | peerMark (dt : Nat) (lane : Lane) (body : PeerMarkBody)
  | echoBack (dt : Nat) (lane : Lane) (lease number : Byte)
  | hubFrameReceived (dt : Nat) (lane : Lane) (frame : HubFrame)
  | frameDeparture (dt : Nat) (port : PortIx)
  | markDeparture (dt : Nat) (port : PortIx)
  | echoDeparture (dt : Nat) (port : PortIx)
  | echoTimerExpiry (dt : Nat) (port : PortIx)
  | boundarySymbolEmission (dt : Nat) (port : PortIx)
  | routineBatchDue (dt : Nat) (port : PortIx)
  | approvalDeadlineExpiry (dt : Nat) (lease : LeaseIx)
  | outputRisingEdge (dt : Nat) (out : OutIx)
  | outputFall (dt : Nat) (out : OutIx)
  | roomAnnouncement (dt : Nat) (block : Block)
  | statusPoll (dt : Nat) (first : Byte) (extra : Nat)
  | answerTransaction (dt : Nat) (clocked : Nat)
  | unknownRequest (dt : Nat) (kind table : Byte) (req : Request) (stage : Stage)
  | look (dt : Nat) (table : Table) (req : Request) (stage : Stage)
  | next (dt : Nat) (table : Table) (req : Request) (stage : Stage)
  | changeTimebase (dt : Nat) (req : Request) (stage : Stage)
  | changeReference (dt : Nat) (req : Request) (stage : Stage)
  | changeAdmission (dt : Nat) (req : Request) (stage : Stage)
  | changeLease (dt : Nat) (req : Request) (stage : Stage)
  | changePort (dt : Nat) (req : Request) (stage : Stage)
  | changeOutput (dt : Nat) (req : Request) (stage : Stage)
  | changeAlarmKind (dt : Nat) (req : Request) (stage : Stage)
  | changeAlarmUnit (dt : Nat) (req : Request) (stage : Stage)
  | changeAlarmLine (dt : Nat) (req : Request) (stage : Stage)
  | create (dt : Nat) (req : Request) (stage : Stage)
  | retireAdmission (dt : Nat) (req : Request) (stage : Stage)
  | retireLease (dt : Nat) (req : Request) (stage : Stage)
  | approve (dt : Nat) (req : Request) (stage : Stage)
  | deny (dt : Nat) (req : Request) (stage : Stage)
  | suspend (dt : Nat) (req : Request) (stage : Stage)
  | resume (dt : Nat) (req : Request) (stage : Stage)
  | measure (dt : Nat) (req : Request) (stage : Stage)
  | ack (dt : Nat) (req : Request) (stage : Stage)
  | ackAll (dt : Nat) (req : Request) (stage : Stage)
  | clearLockout (dt : Nat) (req : Request) (stage : Stage)
  | force (dt : Nat) (req : Request) (stage : Stage)
  | release (dt : Nat) (req : Request) (stage : Stage)
  | reopen (dt : Nat) (req : Request) (stage : Stage)
  | close (dt : Nat) (req : Request) (stage : Stage)
  | closeSetup (dt : Nat) (table : Byte) (req : Request) (stage : Stage)
  | restart (dt : Nat) (table : Byte) (req : Request) (stage : Stage)
  | status (dt : Nat) (table : Byte) (req : Request) (stage : Stage)
  deriving DecidableEq, Repr

end Sys2Proof
end

