-- ==== Sys2Proof/Decode.lean ====
section
/-! DEFINITION. From bits to commands. The table gives no row any bits, so `decodeTableWord` answers none. What the manual lays out
in bytes is read here: the check of labels and frames, label frames, lane frames with their coding, management transactions. -/
namespace Sys2Proof

/-- The command a word of the table's bits spells: the table gives no row any bits. -/
def decodeTableWord (_nbits _w : Nat) : Option Instr := none

/-! ### The check (02 section 2.2, 04 section 4.2) -/

/-- One bit into the check: generator x^16 + x^12 + x^5 + 1 (02 section 2.2). -/
def crcBit (r : BitVec 16) (b : Bool) : BitVec 16 :=
  if r.msb == b then r <<< 1 else (r <<< 1) ^^^ 0x1021#16

/-- One byte into the check, most significant bit first (02 section 2.2). -/
def crcByte (r : BitVec 16) (x : Byte) : BitVec 16 :=
  [7, 6, 5, 4, 3, 2, 1, 0].foldl (fun acc k => crcBit acc (x.getLsbD k)) r

/-- The check over bytes, preset to all ones, without final inversion (02 section 2.2). -/
def crc16 (bs : List Byte) : BitVec 16 := bs.foldl crcByte 0xFFFF#16

/-- Bytes read most significant first (02 section 2.2, 04 section 4.2). -/
def beNat (bs : List Byte) : Nat := bs.foldl (fun acc b => acc * 256 + b.toNat) 0

/-- `n` bytes of a number, most significant first (04 section 4.2, 10 section 10.1). -/
def beBytes : Nat → Nat → List Byte
  | 0, _ => []
  | n + 1, v => beBytes n (v / 256) ++ [BitVec.ofNat 8 v]

/-! ### Label frames (02:R28) -/

/-- The status (VALID or not) and seconds of a label frame's ten bytes, if it is laid out and checked as a label (02:R28). -/
def labelOfBytes : List Byte → Option (Bool × BitVec 48)
  | [m, st, s5, s4, s3, s2, s1, s0, c1, c0] =>
    if m = 0x5C#8 && (st = 0#8 || st = 1#8) && crc16 [m, st, s5, s4, s3, s2, s1, s0] = BitVec.ofNat 16 (beNat [c1, c0]) then
      some (st = 1#8, BitVec.ofNat 48 (beNat [s5, s4, s3, s2, s1, s0]))
    else none
  | _ => none

/-- The label the ten characters of a frame give: ten characters, each with a correct stop bit (02:R28). -/
def labelOfChars (cs : List LabelChar) : Option (Bool × BitVec 48) :=
  if cs.all fun x => x.stopOk then labelOfBytes (cs.map fun x => x.byte) else none

/-! ### Lane frames (04:R68) -/

/-- Status words of a REPORT, four bytes each (04 section 4.2). -/
def wordsOfBytes : List Byte → List Word
  | a :: b :: c :: d :: rest => BitVec.ofNat 32 (beNat [a, b, c, d]) :: wordsOfBytes rest
  | _ => []

/-- The code of each hub kind (04 section 4.2). -/
def HubKind.code : HubKind → Byte
  | .accept => 0x21 | .wait => 0x22 | .refuse => 0x23 | .mark => 0x24 | .echo => 0x25 | .notice => 0x26

/-- The hub kind with a code, and its body length (04 section 4.2). -/
def hubKindOf (kind : Nat) : Option (HubKind × Nat) :=
  match kind with
  | 0x21 => some (.accept, 7)
  | 0x22 => some (.wait, 4)
  | 0x23 => some (.refuse, 5)
  | 0x24 => some (.mark, 13)
  | 0x25 => some (.echo, 2)
  | 0x26 => some (.notice, 6)
  | _ => none

/-- The frame of a radio unit that a kind and a body give, if L is the length of that kind (04:R68). -/
def radioFrame (kind : Nat) (body : List Byte) : Option LaneFrame :=
  match kind, body with
  | 0x11, [t3, t2, t1, t0, w, o, u1, u0] =>
    some (.join ⟨BitVec.ofNat 32 (beNat [t3, t2, t1, t0]), w, o, BitVec.ofNat 16 (beNat [u1, u0])⟩)
  | 0x12, [l] => some (.renew l)
  | 0x13, [l] => some (.leave l)
  | 0x14, [l, n] => some (.echoBack ⟨l, n⟩)
  | 0x15, l :: sev :: k :: ws =>
    if k.toNat ≤ 6 && ws.length = 4 * k.toNat then some (.report ⟨l, sev, wordsOfBytes ws⟩) else none
  | 0x16, [l, s5, s4, s3, s2, s1, s0, v, d3, d2, d1, d0] =>
    some (.peerMark
      ⟨l, BitVec.ofNat 48 (beNat [s5, s4, s3, s2, s1, s0]), v, BitVec.ofNat 32 (beNat [d3, d2, d1, d0])⟩)
  | _, _ => none

/-- The frame that a kind and a body give (04:R68). -/
def frameOfBody (kind : Byte) (body : List Byte) : Option LaneFrame :=
  match hubKindOf kind.toNat with
  | some (k, len) => if body.length = len then some (.hub k body) else none
  | none => radioFrame kind.toNat body

/-- The frame that the data symbols between FRAME-START and FRAME-END give; none for one that is discarded (04:R68). -/
def frameOfData : List Byte → Option LaneFrame
  | kind :: len :: rest =>
    let body := rest.take len.toNat
    if rest.length = len.toNat + 2 && crc16 (kind :: len :: body) = BitVec.ofNat 16 (beNat (rest.drop len.toNat)) then
      frameOfBody kind body
    else none
  | _ => none

/-! ### The coding of a frame (04 section 4.2) -/

/-- What the check of a frame is computed over: kind, L and body. -/
def frameChecked (kind : Byte) (body : List Byte) : List Byte := kind :: BitVec.ofNat 8 body.length :: body

/-- The data symbols of a frame: kind, L, body, check. -/
def frameData (kind : Byte) (body : List Byte) : List Byte :=
  frameChecked kind body ++ beBytes 2 (crc16 (frameChecked kind body)).toNat

/-- The symbols of a frame. -/
def frameLine (kind : Byte) (body : List Byte) : List LineSymbol :=
  .frameStart :: (frameData kind body).map LineSymbol.data ++ [.frameEnd]

/-- The kind byte of a frame. -/
def LaneFrame.kind : LaneFrame → Byte
  | .join _ => 0x11
  | .renew _ => 0x12
  | .leave _ => 0x13
  | .echoBack _ => 0x14
  | .report _ => 0x15
  | .peerMark _ => 0x16
  | .hub kind _ => kind.code

/-- The body of a frame, each field most significant byte first. -/
def LaneFrame.body : LaneFrame → List Byte
  | .join b => beBytes 4 b.tag.toNat ++ b.wanted :: b.offer :: beBytes 2 b.turnaround.toNat
  | .renew l | .leave l => [l]
  | .echoBack b => [b.lease, b.number]
  | .report b => b.lease :: b.severity :: BitVec.ofNat 8 b.words.length :: b.words.flatMap fun w => beBytes 4 w.toNat
  | .peerMark b => b.lease :: beBytes 6 b.seconds.toNat ++ b.valid :: beBytes 4 b.difference.toNat
  | .hub _ body => body

/-- The symbols of a frame as its sender codes it. -/
def LaneFrame.line (f : LaneFrame) : List LineSymbol := frameLine f.kind f.body

/-- The frame has the length of its kind: at most six words in a REPORT, and a hub kind's L. -/
def LaneFrame.fits : LaneFrame → Bool
  | .report b => b.words.length ≤ 6
  | .hub kind body => hubKindOf kind.code.toNat = some (kind, body.length)
  | .join _ | .renew _ | .leave _ | .echoBack _ | .peerMark _ => true

/-! ### Management transactions (10:R165, R166, R168) -/

/-- The table with a code (10:R168). -/
def Table.ofCode (c : Nat) : Option Table :=
  match c with
  | 1 => some .timebase | 2 => some .reference | 3 => some .admission | 4 => some .lease | 5 => some .port
  | 6 => some .output | 7 => some .alarm | 8 => some .alarmKind | 9 => some .alarmLine | 10 => some .alarmUnit
  | _ => none

/-- The code of a table (10:R168). -/
def Table.code : Table → Nat
  | .timebase => 1 | .reference => 2 | .admission => 3 | .lease => 4 | .port => 5
  | .output => 6 | .alarm => 7 | .alarmKind => 8 | .alarmLine => 9 | .alarmUnit => 10

/-! ### What the port knows (10:R168, R170) -/

/-- Key forms (10:R170). -/
def formIndex : Byte := 0
def formAlarmKey : Byte := 1
def formAttention : Byte := 2
def formStartKey : Byte := 3
def formStartAttention : Byte := 4

/-- Kinds that name no record by key: ACK-ALL, RELEASE, CLOSE-SETUP, RESTART, STATUS (10:R170). -/
def keyless (kind : Byte) : Bool :=
  kind = 0x0C#8 || kind = 0x0F#8 || kind = 0x12#8 || kind = 0x13#8 || kind = 0x14#8

/-- The kind takes the table (10:R168). -/
def tableTaken (kind : Nat) (t : Option Table) : Bool :=
  match kind, t with
  | 0x01, some _ => true
  | 0x02, some t => t ≠ .timebase && t ≠ .alarmUnit
  | 0x03, some t => t ≠ .alarm
  | 0x04, some t => t = .admission
  | 0x05, some t => t = .admission || t = .lease
  | 0x06, some t | 0x07, some t | 0x08, some t | 0x09, some t | 0x0A, some t => t = .lease
  | 0x0B, some t | 0x0C, some t => t = .alarm
  | 0x0D, some t | 0x0E, some t => t = .reference
  | 0x0F, some t => t = .timebase
  | 0x10, some t | 0x11, some t => t = .port
  | 0x12, _ | 0x13, _ | 0x14, _ => true
  | _, _ => false

/-- The kind takes the key form on the table (10:R170). -/
def formTaken (kind : Byte) (t : Option Table) (form : Byte) : Bool :=
  if keyless kind then true
  else if kind = 0x0B#8 then form = formAlarmKey
  else if kind = 0x01#8 then form = formIndex || (t = some .alarm && form = formAlarmKey)
  else if kind = 0x02#8 then
    form = formIndex || form = formStartKey ||
      (t = some .alarm && (form = formAlarmKey || form = formAttention || form = formStartAttention))
  else form = formIndex

/-- The first check of 10:R169: kind, table, key form and field group are known. -/
def requestKnown (kind table : Byte) (req : Request) : Bool :=
  tableTaken kind.toNat (Table.ofCode table.toNat) && formTaken kind (Table.ofCode table.toNat) req.form &&
    req.group.toNat ≤ 1

/-- The length of a request in bytes (10:R166). -/
def requestLength (req : Request) : Nat := if req.count.toNat ≤ 12 then 15 + 5 * req.count.toNat else 15

/-- The fields of a request, five bytes each (10:R166). -/
def fieldsOfBytes : List Byte → List Field
  | i :: a :: b :: c :: d :: rest => ⟨i, BitVec.ofNat 32 (beNat [a, b, c, d])⟩ :: fieldsOfBytes rest
  | _ => []

/-- The command of a request with the given kind and table bytes; one that fails the first check of 10:R169 (kind, table, key form,
field group) is UNKNOWN_REQUEST. -/
def requestCommand (dt : Nat) (kind table : Byte) (req : Request) (stage : Stage) : Instr :=
  if requestKnown kind table req = false then .unknownRequest dt kind table req stage
  else match kind.toNat, Table.ofCode table.toNat with
  | 0x01, some t => .look dt t req stage
  | 0x02, some .timebase | 0x02, some .alarmUnit => .unknownRequest dt kind table req stage
  | 0x02, some t => .next dt t req stage
  | 0x03, some .timebase => .changeTimebase dt req stage
  | 0x03, some .reference => .changeReference dt req stage
  | 0x03, some .admission => .changeAdmission dt req stage
  | 0x03, some .lease => .changeLease dt req stage
  | 0x03, some .port => .changePort dt req stage
  | 0x03, some .output => .changeOutput dt req stage
  | 0x03, some .alarmKind => .changeAlarmKind dt req stage
  | 0x03, some .alarmLine => .changeAlarmLine dt req stage
  | 0x03, some .alarmUnit => .changeAlarmUnit dt req stage
  | 0x04, some .admission => .create dt req stage
  | 0x05, some .admission => .retireAdmission dt req stage
  | 0x05, some .lease => .retireLease dt req stage
  | 0x06, some .lease => .approve dt req stage
  | 0x07, some .lease => .deny dt req stage
  | 0x08, some .lease => .suspend dt req stage
  | 0x09, some .lease => .resume dt req stage
  | 0x0A, some .lease => .measure dt req stage
  | 0x0B, some .alarm => .ack dt req stage
  | 0x0C, some .alarm => .ackAll dt req stage
  | 0x0D, some .reference => .clearLockout dt req stage
  | 0x0E, some .reference => .force dt req stage
  | 0x0F, some .timebase => .release dt req stage
  | 0x10, some .port => .reopen dt req stage
  | 0x11, some .port => .close dt req stage
  | 0x12, _ => .closeSetup dt table req stage
  | 0x13, _ => .restart dt table req stage
  | 0x14, _ => .status dt table req stage
  | _, _ => .unknownRequest dt kind table req stage

/-- The request of a transaction's bytes after the transaction byte, `n` bytes being clocked in all; a transaction too short to
hold a request's fixed part is cut (10:R166). -/
def requestOfBytes (n : Nat) : List Byte → Byte × Byte × Request
  | k :: t :: form :: group :: k0 :: k1 :: k2 :: k3 :: k4 :: k5 :: k6 :: k7 :: rev :: count :: rest =>
    (k, t,
      { form := form
        group := group
        key := BitVec.ofNat 64 (beNat [k0, k1, k2, k3, k4, k5, k6, k7])
        revision := rev
        count := count
        fields := if count.toNat ≤ 12 then (fieldsOfBytes rest).take count.toNat else []
        clocked := n })
  | _ => (0, 0, { form := 0, group := 0, key := 0, revision := 0, count := 0, fields := [], clocked := n })

/-- The command of a whole transaction, by its MOSI bytes (10:R165, R166, R167). -/
def transactionCommand (dt : Nat) (stage : Stage) : List Byte → Option Instr
  | [] => none
  | b :: rest =>
    if b = 1#8 then
      let r := requestOfBytes (rest.length + 1) rest
      some (requestCommand dt r.1 r.2.1 r.2.2 stage)
    else if b = 2#8 then some (.answerTransaction dt (rest.length + 1))
    else some (.statusPoll dt b rest.length)

end Sys2Proof
end

