-- ==== Sys2Proof/Machine/State.lean ====
section
/-! DEFINITION. The state of the TH-820 as plain data, its reset value, and the reasons a step can stop.

Tables are vectors: their indices are the manual's. A record's optional field is an `Option`, none for "absent" (00 section 4.3). -/
namespace Sys2Proof.Machine

/-! ### Named values -/

/-- Timebase states (01 section 1.4). -/
inductive TbState where
  | freeRun | acquiring | locked | holdover | assisted | spent
  deriving DecidableEq, Repr

/-- An accuracy class that can be required, granted or set as a minimum (00 section 4.2). -/
inductive Grade where
  | a | b | c | d
  deriving DecidableEq, Repr

/-- The site class: A to D, or NONE, worse than D (00 section 4.2). -/
inductive SiteClass where
  | a | b | c | d | none
  deriving DecidableEq, Repr

/-- Step policy (01:R4). -/
inductive StepPolicy where
  | stepAny | slewWhileServing
  deriving DecidableEq, Repr

/-- States of a reference entry (02:R26). -/
inductive RefState where
  | disabled | qualifying | usable | faulted | lockedOut
  deriving DecidableEq, Repr

/-- Fault causes, in the order of 02:R26. -/
inductive FaultCause where
  | missing | glitch | labelMissing | labelMismatch | reported | frequency | wander | outvoted | sourceLost
  deriving DecidableEq, Repr

/-- States of a port (04:R75). -/
inductive PortState where
  | closed | down | opened | conflict
  deriving DecidableEq, Repr

/-- States of a lease (07:R117). -/
inductive LeaseState where
  | pending | measuring | inService | suspended
  deriving DecidableEq, Repr

/-- The two PEER entries (02 section 2.1). -/
inductive Peer where
  | six | seven
  deriving DecidableEq, Repr

/-- What became of a radio unit's offer of its own time (07:R117). -/
inductive Offer where
  | none | refused | bound (peer : Peer)
  deriving DecidableEq, Repr

/-- Suspend causes, in the order of 07:R117. -/
inductive SuspendCause where
  | unreachable | unstablePath | conflict | source | host
  deriving DecidableEq, Repr

/-- Severities; NONE is an absent severity (09:R149, 07:R117). -/
inductive Severity where
  | warning | minor | major | critical
  deriving DecidableEq, Repr

/-- Refusal reasons of a JOIN, in the order of 04 section 4.2. -/
inductive RefuseReason where
  | denied | full | portFull | duplicate | approvalTimeout | host | notServing
  deriving DecidableEq, Repr

/-- Notice kinds (04 section 4.2). -/
inductive NoticeKind where
  | renewDue | degraded | restored | step | suspended | retired
  deriving DecidableEq, Repr

/-- Decisions of an admission entry (05:R85). -/
inductive Decision where
  | auto | ask | deny
  deriving DecidableEq, Repr

/-- Output states (08:R140). -/
inductive OutState where
  | off | running | squelched
  deriving DecidableEq, Repr

/-- The level of a pin. -/
inductive Level where
  | high | low
  deriving DecidableEq, Repr

/-- Alarm kinds in the order of the alarm kind table (09:R151). -/
inductive AlarmKind where
  | refFaulted | refLockedOut | holdover | holdoverSpent | freeRun | selectionChanged | timeStepped | leasePending
  | leaseDegraded | leaseSuspended | delayJump | unitReported | leaseExpired | joinRefused | duplicateTag
  | leaseTableFull | portDown | portConflict | outputSquelched | alarmOverflow
  deriving DecidableEq, Repr

/-- States of an alarm record (09:R149). -/
inductive AlarmState where
  | activeNew | activeSeen | clearedUnseen
  deriving DecidableEq, Repr

/-- Sources of an alarm line (09:R162). -/
inductive LineSource where
  | severityAtLeast | kindActive | timebaseIn | classWorseThan | referenceSelected | constant
  deriving DecidableEq, Repr

/-- Polarity of an alarm line (09:R162). -/
inductive Polarity where
  | activeHigh | activeLow
  deriving DecidableEq, Repr

/-- Origin of an echo batch (06:R102). -/
inductive Origin where
  | injected | measuring | routine
  deriving DecidableEq, Repr

/-! ### Timebase -/

/-- The timebase record: stored fields (01:R4), running values (01:R5, 03:R58), and the model's own `siteFrac`, `nextSecond`. -/
structure Timebase where
  state : TbState
  siteClass : SiteClass
  selected : Option RefIx
  forced : Option RefIx
  assist : Option LineInput
  revertive : Bool
  waitToRestore : Nat
  stepPolicy : StepPolicy
  stepThreshold : Nat
  slewLimit : Nat
  lockThreshold : Nat
  wanderLimit : Nat
  minLockTime : Nat
  thrA : Nat
  thrB : Nat
  thrC : Nat
  thrD : Nat
  g0 : Nat
  aging : Nat
  assistedRate : Nat
  rev : Rev
  siteTime : SiteNs
  /-- Part of the present ns already run, in 10^-9 ns (log entry 4). -/
  siteFrac : Nat
  runCounter : Nat
  /-- E; none is UNKNOWN (01:R6). -/
  e : Option Nat
  freqCorr : Int
  lockRun : Nat
  unlockRun : Nat
  lockedTime : Nat
  h : Option Nat
  lastBoundary : Nat
  /-- The second whose start site time reaches next (01:R3, log entry 25). -/
  nextSecond : Nat
  stepNumber : BitVec 8
  /-- Restore candidate (03:R58). -/
  restore : Option RefIx
  deriving DecidableEq, Repr

/-! ### Reference entries -/

/-- What is captured as a FRAME-START arrives or is sent: site time and the step number (04:R68, R70). -/
structure Capture where
  site : SiteNs
  step : BitVec 8
  deriving DecidableEq, Repr

/-- A label frame being received: the oscillator instant at which its first character began, and its characters (02:R28). -/
structure LabelRun where
  startedAt : Nat
  chars : List LabelChar
  deriving DecidableEq, Repr

/-- A label receiver: the oscillator instant at which the last character on its line ended (after reset, that of the reset), and the
frame being received; none from the tenth character to the next gap (02:R28, log entry 37). -/
structure LabelReceiver where
  quietSince : Nat
  frame : Option LabelRun
  deriving DecidableEq, Repr

/-- A stored last offset: its value, the oscillator instant it was formed at, its step mark (02:R27). -/
structure Offset where
  value : Int
  formedAt : Nat
  step : BitVec 8
  deriving DecidableEq, Repr

/-- A pending label: seconds and status (02:R27, R29). -/
structure Label where
  seconds : BitVec 48
  valid : Bool
  deriving DecidableEq, Repr

/-- An open LINE measurement window (02:R32). -/
structure LineWindow where
  openedSite : SiteNs
  openedStep : BitVec 8
  pulses : Nat
  deriving DecidableEq, Repr

/-- A reference entry: stored fields (02:R26), running values (02:R27) and the values its rules keep (02:R28 to R32, R41). -/
structure RefEntry where
  state : RefState
  enabled : Bool
  priority : Nat
  declaredError : Nat
  inputDelay : Int
  edge : Edge
  qualifyTarget : Nat
  holdOff : Nat
  freqLimit : Nat
  faultCause : Option FaultCause
  faultScore : Nat
  usableSince : Option Nat
  boundLease : Option LeaseIx
  rev : Rev
  progress : Nat
  holdOffRemaining : Option Nat
  lastOffset : Option Offset
  lastFreq : Option Int
  pendingLabel : Option Label
  /-- Oscillator instant of the previous accepted edge (02:R30). -/
  prevEdge : Option Nat
  /-- Consecutive accepted edges without a label (02:R31). -/
  labelLess : Nat
  /-- Oscillator instant at which the missing-sample timer last started; none while it is stopped (02:R30, R32, R34). -/
  missingSince : Option Nat
  /-- Run seconds the decay clock has run; none while it is stopped (02:R41). -/
  decayClock : Option Nat
  window : Option LineWindow
  /-- Oscillator instant at which the entry left DISABLED (02:R28). -/
  listenSince : Option Nat
  /-- The entry's label receiver, used by the pulse entries 0 to 3 (02:R28). -/
  receiver : LabelReceiver
  deriving DecidableEq, Repr

/-! ### Ports and scanners -/

/-- The frames a hub sends (04 section 4.2). -/
inductive Frame where
  | accept (tag : Tag) (lease : LeaseIx) (cls : Grade) (credit : Nat)
  | wait (tag : Tag)
  | refuse (tag : Tag) (reason : RefuseReason)
  | mark (lease : LeaseIx) (seconds : Nat) (compensation : Nat) (siteClass : SiteClass) (degraded holdover : Bool)
  | echo (lease : LeaseIx) (number : BitVec 2)
  | notice (lease : LeaseIx) (kind : NoticeKind) (value : Int)
  deriving DecidableEq, Repr

/-- A scheduled boundary symbol (04:R71). -/
structure SymbolEntry where
  lease : LeaseIx
  instant : SiteNs
  seconds : Nat
  step : BitVec 8
  deriving DecidableEq, Repr

/-- What a transmitter sends besides IDLE (04:R67). -/
inductive TxItem where
  | frame (f : Frame)
  | symbol (lease : LeaseIx)
  deriving DecidableEq, Repr

/-- The item the transmitter last began, and the oscillator instant at which it ends or was ended (04:R70, R72, R74). -/
structure Tx where
  item : TxItem
  endsAt : Nat
  deriving DecidableEq, Repr

/-- A departure report of a port (04:R70). -/
inductive DepartureReport where
  | mark (lease : LeaseIx) (seconds : Nat)
  | echo (lease : LeaseIx) (number : BitVec 2) (sent : Capture)
  deriving DecidableEq, Repr

/-- Standing of the echo in flight (06:R102). `refused` is the echo whose offer found the queue full: it is DEPARTED at once
and draws no ECHO-BACK (06:R106). `timer` is the oscillator instant at which the echo timer started. -/
inductive EchoStanding where
  | waiting
  | departed (t1 : SiteNs) (mark : BitVec 8) (timer : Nat)
  | refused (timer : Nat)
  deriving DecidableEq, Repr

/-- A batch in flight: its lease, origin, samples held, consecutive timeouts and echo in flight (06:R102, R106). -/
structure Batch where
  lease : LeaseIx
  origin : Origin
  samples : List Int
  timeouts : Nat
  number : BitVec 2
  standing : EchoStanding
  deriving DecidableEq, Repr

/-- The running values of a port's scanner (06:R102). -/
structure Scanner where
  injection : Option LeaseIx
  batch : Option Batch
  roundRobin : Option LeaseIx
  lastRoutine : Option Nat
  deriving DecidableEq, Repr

/-- A port record with its queue, schedule, transmitter, reports and scanner (04:R75, R70, R71, R73). -/
structure Port where
  state : PortState
  linkUp : Bool
  asymmetry : Int
  spreadLimit : Nat
  scanInterval : Nat
  liveLeases : Nat
  rev : Rev
  queue : List Frame
  schedule : List SymbolEntry
  tx : Option Tx
  reports : List DepartureReport
  scanner : Scanner
  deriving DecidableEq, Repr

/-! ### Lane receivers -/

/-- A frame being assembled: what was captured at its FRAME-START, and its data symbols so far (04:R68). -/
structure RxFrame where
  captured : Capture
  data : List Byte
  deriving DecidableEq, Repr

/-- The receiver of a lane; whether it has lock is its port's link up (04:R67). `run` counts consecutive symbols: valid ones without
lock, ones that are not valid with it. `frame` is the frame being assembled, `none` between frames (04:R68). -/
structure LaneReceiver where
  run : Nat
  frame : Option RxFrame
  deriving DecidableEq, Repr

/-! ### Leases and admission -/

/-- A notice in a notice slot (07:R122). -/
structure Notice where
  kind : NoticeKind
  value : Int
  deriving DecidableEq, Repr

/-- A report slot (07:R117); an absent severity is NONE. -/
structure ReportSlot where
  severity : Option Severity
  words : List Word
  sequence : BitVec 3
  deriving DecidableEq, Repr

/-- A lease's last symbol record (04:R72). -/
structure SymbolRecord where
  seconds : Nat
  step : BitVec 8
  deriving DecidableEq, Repr

/-- The last suspension of a lease by the scanner or a conflict, the model's own record of it: the slot's revision before and after
the event, and the oscillator's count at it (06:R114, 07:R135, log entry 41). -/
structure SuspensionMark where
  before : Rev
  after : Rev
  osc : Nat
  deriving DecidableEq, Repr

/-- A live lease (07:R117); `delayJump` is the re-measure cause, `symbol` the last symbol record the port keeps for it, `mark` the
model's own. -/
structure Lease where
  state : LeaseState
  tag : Tag
  port : PortIx
  required : Grade
  grantedCredit : Nat
  turnaround : Nat
  compensation : Option Nat
  lastMeasured : Option Nat
  rejected : Nat
  delayJump : Bool
  offer : Offer
  suspendCause : Option SuspendCause
  deadline : Option Nat
  admission : AdmIx
  report : ReportSlot
  credit : Option Nat
  notice : Option Notice
  symbol : Option SymbolRecord
  mark : Option SuspensionMark
  deriving DecidableEq, Repr

/-- A lease slot: free, or a live lease; the revision runs on (07:R117). -/
structure LeaseSlot where
  rev : Rev
  lease : Option Lease
  deriving DecidableEq, Repr

/-- A live admission entry (05:R85); bit p of `ports` is port p. -/
structure Admission where
  tagValue : Tag
  tagMask : Tag
  ports : BitVec 8
  decision : Decision
  bestClass : Grade
  grantedCredit : Nat
  offerAllowed : Bool
  approvalWait : Nat
  deriving DecidableEq, Repr

/-- An admission slot (05:R85). -/
structure AdmissionSlot where
  rev : Rev
  entry : Option Admission
  deriving DecidableEq, Repr

/-! ### Outputs -/

/-- A pulse plan: pulses per second, phase offset and width (08:R140). -/
structure Plan where
  n : Nat
  phase : Nat
  width : Nat
  deriving DecidableEq, Repr

/-- An output record (08:R140); `line` is also the level of TOUTn. `passed` is the model's own: the stored plan and the site time
of an instant the output took while SQUELCHED, producing nothing, kept while site time stands there (08:R145, log entry 48). -/
structure Output where
  state : OutState
  enabled : Bool
  n : Nat
  phase : Nat
  width : Nat
  minClass : Grade
  rev : Rev
  line : Level
  nextEdge : Option SiteNs
  fallRemaining : Option Nat
  plan : Option Plan
  changeWaiting : Bool
  passed : Option (Plan × SiteNs)
  deriving DecidableEq, Repr

/-! ### Alarm unit -/

/-- What an alarm record's detail says (09:R151). -/
inductive Detail where
  | cause (c : FaultCause)
  | suspended (c : SuspendCause)
  | index (i : Nat)
  | stepNs (n : Int)
  | sequence (n : Nat)
  | reason (r : RefuseReason)
  | tag (t : Tag)
  | kind (k : AlarmKind)
  deriving DecidableEq, Repr

/-- An alarm record (09:R149); its subject type is fixed by its kind (09:R150). -/
structure AlarmRecord where
  state : AlarmState
  kind : AlarmKind
  subject : Nat
  tag : Option Tag
  severity : Severity
  detail : Option Detail
  count : Nat
  firstRaised : Nat
  lastChanged : Nat
  deriving DecidableEq, Repr

/-- A slot of the alarm table (09:R149). -/
structure AlarmSlot where
  rev : Rev
  record : Option AlarmRecord
  deriving DecidableEq, Repr

/-- A record of the alarm kind table; UNIT-REPORTED's severity is absent (09:R151). -/
structure KindRecord where
  severity : Option Severity
  rev : Rev
  deriving DecidableEq, Repr

/-- An alarm line record and its pin (09:R162, R163); the argument is kept as the value written (log entry 15). -/
structure AlarmLine where
  source : LineSource
  argument : Word
  includeAcked : Bool
  polarity : Polarity
  rev : Rev
  active : Bool
  pin : Level
  deriving DecidableEq, Repr

/-- The alarm unit: table, kinds, unit record, lines, the pin ATTN_N, and the room announcements not yet taken (09). -/
structure AlarmUnit where
  slots : Vector AlarmSlot 48
  kinds : Vector KindRecord 20
  threshold : Severity
  thresholdRev : Rev
  attn : Bool
  attnN : Level
  lines : Vector AlarmLine 8
  rooms : List Block
  deriving DecidableEq, Repr

/-! ### Management port -/

/-- Answer codes (10:R167). -/
inductive AnswerCode where
  | done | noSuch | stale | wrongState | full | badField | setupClosed | unknownRequest | notReady
  deriving DecidableEq, Repr

/-- An answer (10:R167), less its status byte. -/
structure Answer where
  code : AnswerCode
  kind : Byte
  table : Byte
  form : Byte
  group : Byte
  key : BitVec 64
  revision : Rev
  fields : List Field
  deriving DecidableEq, Repr

/-- The request in execution: kind and table codes and the request (10:R165). -/
structure Executing where
  kind : Byte
  table : Byte
  req : Request
  deriving DecidableEq, Repr

/-- The setup state (10:R165). -/
inductive Setup where
  | opened | closed
  deriving DecidableEq, Repr

/-- The management port's state (10:R165), the bytes MISO carried in the last transaction, and the oscillator's count when the last
request was taken (the model's own, log entry 41). -/
structure Mgmt where
  executing : Option Executing
  lastAnswer : Option Answer
  setup : Setup
  miso : List Byte
  takenAt : Nat
  deriving DecidableEq, Repr

/-! ### On the way to the timebase, and the clock -/

/-- A sample offered to the timebase (01 section 1.5). -/
structure Sample where
  entry : RefIx
  offset : Int
  step : BitVec 8
  deriving DecidableEq, Repr

/-- A frequency measurement offered to the timebase (01:R19). -/
structure Measurement where
  line : LineInput
  freq : Int
  deriving DecidableEq, Repr

/-- Samples and measurements not yet taken by the timebase, oldest first (log entry 7). -/
structure Wires where
  samples : List Sample
  measurements : List Measurement
  deriving DecidableEq, Repr

/-- The oscillator since reset in ns, and the instant of the next run second (01:R1, R2). -/
structure Clock where
  osc : Nat
  nextRunAt : Nat
  deriving DecidableEq, Repr

/-! ### The state -/

/-- The whole part, and the queue of commands waiting. -/
structure State where
  clock : Clock
  tb : Timebase
  wires : Wires
  refs : Vector RefEntry 8
  ports : Vector Port 8
  lanes : Vector LaneReceiver 8
  leases : Vector LeaseSlot 32
  admission : Vector AdmissionSlot 8
  outs : Vector Output 4
  alarm : AlarmUnit
  mgmt : Mgmt
  /-- RESET_N is held low (10:R177). -/
  resetLow : Bool
  pending : List Instr
  deriving DecidableEq, Repr

/-- Reasons to stop with a fault: none. The spec names no condition in which the part stops, so nothing raises one. -/
inductive Fault where
  deriving DecidableEq, Repr

/-- Reasons to refuse a command. -/
inductive Refusal where
  /-- Raised by the arm of `exec` for a command that has no meaning yet; safe. No arm raises it. -/
  | notModelled (mnemonic : String)
  deriving DecidableEq, Repr

/-! ### Reset values -/

/-- The timebase after reset (01:R4, R5, R25). -/
def Timebase.reset : Timebase where
  state := .freeRun
  siteClass := .none
  selected := none
  forced := none
  assist := none
  revertive := false
  waitToRestore := 300
  stepPolicy := .slewWhileServing
  stepThreshold := 1000
  slewLimit := 100
  lockThreshold := 50
  wanderLimit := 500
  minLockTime := 300
  thrA := 100
  thrB := 350
  thrC := 1100
  thrD := 5000
  g0 := 1
  aging := 1800
  assistedRate := 1
  rev := 0
  siteTime := 0
  siteFrac := 0
  runCounter := 0
  e := none
  freqCorr := 0
  lockRun := 0
  unlockRun := 0
  lockedTime := 0
  h := none
  lastBoundary := 0
  nextSecond := 1
  stepNumber := 0
  restore := none

/-- A reference entry after reset with the given default declared error (02:R26, R27, R50). -/
def RefEntry.reset (declared : Nat) : RefEntry where
  state := .disabled
  enabled := false
  priority := 8
  declaredError := declared
  inputDelay := 0
  edge := .rising
  qualifyTarget := 30
  holdOff := 60
  freqLimit := 50
  faultCause := none
  faultScore := 0
  usableSince := none
  boundLease := none
  rev := 0
  progress := 0
  holdOffRemaining := none
  lastOffset := none
  lastFreq := none
  pendingLabel := none
  prevEdge := none
  labelLess := 0
  missingSince := none
  decayClock := none
  window := none
  listenSince := none
  receiver := ⟨0, none⟩

/-- The eight entries after reset: SAT, SAT, NET, BLDG, LINE, LINE, PEER, PEER (02 section 2.1, 02:R26). -/
def RefEntry.resetAll : Vector RefEntry 8 :=
  #v[.reset 40, .reset 40, .reset 150, .reset 100, .reset 0, .reset 0, .reset 60, .reset 60]

/-- A scanner after reset (06:R102). -/
def Scanner.reset : Scanner where
  injection := none
  batch := none
  roundRobin := none
  lastRoutine := none

/-- A port after reset (04:R75, R84). -/
def Port.reset : Port where
  state := .closed
  linkUp := false
  asymmetry := 0
  spreadLimit := 50
  scanInterval := 10
  liveLeases := 0
  rev := 0
  queue := []
  schedule := []
  tx := none
  reports := []
  scanner := .reset

/-- A lane receiver that has counted nothing and assembles no frame: after reset, where the port's link up is no (04:R67, R84), and
after every gain and loss of lock. -/
def LaneReceiver.idle : LaneReceiver where
  run := 0
  frame := none

/-- An output after reset (08:R148). -/
def Output.reset : Output where
  state := .off
  enabled := false
  n := 1
  phase := 0
  width := 100000000
  minClass := .d
  rev := 0
  line := .low
  nextEdge := none
  fallRemaining := none
  plan := none
  changeWaiting := false
  passed := none

/-- A kind record with its default severity (09:R151). -/
def KindRecord.reset (s : Option Severity) : KindRecord where
  severity := s
  rev := 0

/-- The alarm kind table after reset, in the order of `AlarmKind` (09:R151). -/
def KindRecord.resetAll : Vector KindRecord 20 :=
  #v[.reset (some .minor), .reset (some .major), .reset (some .major), .reset (some .critical), .reset (some .critical),
     .reset (some .warning), .reset (some .warning), .reset (some .warning), .reset (some .minor), .reset (some .major),
     .reset (some .minor), .reset none, .reset (some .minor), .reset (some .warning), .reset (some .minor),
     .reset (some .minor), .reset (some .major), .reset (some .critical), .reset (some .minor), .reset (some .major)]

/-- An alarm line after reset: CONSTANT INACTIVE, ACTIVE-LOW, so driven high (09:R162, R164). INACTIVE is 1 (10:R171). -/
def AlarmLine.reset : AlarmLine where
  source := .constant
  argument := 1
  includeAcked := false
  polarity := .activeLow
  rev := 0
  active := false
  pin := .high

/-- The alarm unit after reset (09:R164). -/
def AlarmUnit.reset : AlarmUnit where
  slots := Vector.replicate 48 ⟨0, none⟩
  kinds := KindRecord.resetAll
  threshold := .minor
  thresholdRev := 0
  attn := false
  attnN := .high
  lines := Vector.replicate 8 .reset
  rooms := []

/-- The management port after reset (10:R165). -/
def Mgmt.reset : Mgmt where
  executing := none
  lastAnswer := none
  setup := .opened
  miso := []
  takenAt := 0

/-- The part right after reset, with RESET_N high and no command waiting. -/
def State.reset : State where
  clock := ⟨0, 1000000000⟩
  tb := .reset
  wires := ⟨[], []⟩
  refs := RefEntry.resetAll
  ports := Vector.replicate 8 .reset
  lanes := Vector.replicate 8 .idle
  leases := Vector.replicate 32 ⟨0, none⟩
  admission := Vector.replicate 8 ⟨0, none⟩
  outs := Vector.replicate 4 .reset
  alarm := .reset
  mgmt := .reset
  resetLow := false
  pending := []

end Sys2Proof.Machine
end

