-- ==== Sys2Proof/Machine/Ops.lean ====
section
/-! DEFINITION. Named operations: reading and writing the tables, the passing of time, arithmetic of site time, walking indices. -/
namespace Sys2Proof.Machine
open Sys2Proof

/-! ### One writer per part of the state -/

def State.setClock (s : State) (c : Clock) : State := { s with clock := c }
def State.setTb (s : State) (t : Timebase) : State := { s with tb := t }
def State.setWires (s : State) (w : Wires) : State := { s with wires := w }
def State.setRef (s : State) (i : RefIx) (e : RefEntry) : State := { s with refs := s.refs.set i e }
def State.setPort (s : State) (p : PortIx) (r : Port) : State := { s with ports := s.ports.set p r }
def State.setLane (s : State) (p : PortIx) (r : LaneReceiver) : State := { s with lanes := s.lanes.set p r }
def State.setLeaseSlot (s : State) (l : LeaseIx) (x : LeaseSlot) : State := { s with leases := s.leases.set l x }
def State.setAdmission (s : State) (i : AdmIx) (x : AdmissionSlot) : State := { s with admission := s.admission.set i x }
def State.setOut (s : State) (i : OutIx) (o : Output) : State := { s with outs := s.outs.set i o }
def State.setAlarm (s : State) (a : AlarmUnit) : State := { s with alarm := a }
def State.setMgmt (s : State) (m : Mgmt) : State := { s with mgmt := m }

/-! ### Readers -/

def State.ref (s : State) (i : RefIx) : RefEntry := s.refs[i]
def State.port (s : State) (p : PortIx) : Port := s.ports[p]
def State.lane (s : State) (p : PortIx) : LaneReceiver := s.lanes[p]
def State.slot (s : State) (l : LeaseIx) : LeaseSlot := s.leases[l]
/-- The live lease in a slot, if any (07:R117). -/
def State.lease (s : State) (l : LeaseIx) : Option Lease := (s.slot l).lease
def State.admissionSlot (s : State) (i : AdmIx) : AdmissionSlot := s.admission[i]
def State.out (s : State) (i : OutIx) : Output := s.outs[i]

/-- Whole seconds of site time (00 section 4.1). -/
def State.siteSec (s : State) : Nat := s.tb.siteTime / Config.secNs
/-- Nanoseconds of site time (00 section 4.1). -/
def State.siteNanos (s : State) : Nat := s.tb.siteTime % Config.secNs
/-- A capture: site time and step number as they stand (02:R30, 04:R68, R70). -/
def State.capture (s : State) : Capture := ⟨s.tb.siteTime, s.tb.stepNumber⟩
/-- Setup is closed (10:R175). -/
def State.setupClosed (s : State) : Bool := s.mgmt.setup = .closed

/-! ### Writers that change one record -/

def State.updTb (s : State) (f : Timebase → Timebase) : State := s.setTb (f s.tb)
def State.updRef (s : State) (i : RefIx) (f : RefEntry → RefEntry) : State := s.setRef i (f (s.ref i))
def State.updPort (s : State) (p : PortIx) (f : Port → Port) : State := s.setPort p (f (s.port p))
def State.updOut (s : State) (i : OutIx) (f : Output → Output) : State := s.setOut i (f (s.out i))
def State.updScanner (s : State) (p : PortIx) (f : Scanner → Scanner) : State :=
  s.updPort p fun r => { r with scanner := f r.scanner }
/-- Change a live lease without advancing its revision: running values, or changes whose revision the caller advances. -/
def State.updLease (s : State) (l : LeaseIx) (f : Lease → Lease) : State :=
  s.setLeaseSlot l { s.slot l with lease := (s.slot l).lease.map f }
/-- Change stored fields of a live lease: its slot's revision advances by one (07:R117). -/
def State.moveLease (s : State) (l : LeaseIx) (f : Lease → Lease) : State :=
  s.setLeaseSlot l ⟨(s.slot l).rev + 1, (s.slot l).lease.map f⟩

/-- Advance a port's revision by `n` (04:R75). -/
def State.bumpPort (s : State) (p : PortIx) (n : Rev) : State := s.updPort p fun r => { r with rev := r.rev + n }
/-- Advance the timebase record's revision by `n` (01:R4). -/
def State.bumpTb (s : State) (n : Rev) : State := s.updTb fun t => { t with rev := t.rev + n }

/-- 1 when a stored field changed, 0 when it did not: one revision advance per stored field changed (01:R4, 03:R61). -/
def changed {α : Type} [DecidableEq α] (old new : α) : Rev := if old = new then 0 else 1

/-! ### Walking a table in index order -/

/-- Apply `f` for every index, lowest first. -/
def forAll {n : Nat} (f : Fin n → State → State) (s : State) : State :=
  (List.finRange n).foldl (fun t i => f i t) s

/-- The lowest index that satisfies `p`. -/
def lowest {n : Nat} (p : Fin n → Bool) : Option (Fin n) := (List.finRange n).find? p

/-- How many indices satisfy `p`. -/
def countIx {n : Nat} (p : Fin n → Bool) : Nat := (List.finRange n).countP p

/-- Read a number as an index below `n`, if it is one. -/
def toIx (n : Nat) (v : Nat) : Option (Fin n) := if h : v < n then some ⟨v, h⟩ else none

/-! ### Site time -/

/-- `now` has reached or passed `instant`, on the circle of 2^48 seconds (log entry 5). -/
def reached (now instant : SiteNs) : Bool :=
  (now + Config.siteMod - instant) % Config.siteMod < Config.siteHalf

/-- How far `now` is past `instant`, on the circle. -/
def past (now instant : SiteNs) : Nat := (now + Config.siteMod - instant) % Config.siteMod

/-- `b` less `a` as a signed number of ns, on the circle (06:R108, log entry 5). -/
def siteDiff (b a : SiteNs) : Int :=
  if past b a < Config.siteHalf then (past b a : Int) else (past b a : Int) - Config.siteMod

/-- Site time moved by `d` ns at once: below 0 s 0 ns gives 0, beyond the top is taken modulo 2^48 seconds (01:R1). -/
def moveSite (t : SiteNs) (d : Int) : SiteNs :=
  if (t : Int) + d < 0 then 0 else ((t : Int) + d).toNat % Config.siteMod

/-- The second of the next boundary: the one whose start site time reaches next, or the one after it when the last boundary second
names that one already, after a slew back across it (01:R3, log entry 25). -/
def Timebase.boundarySecond (t : Timebase) : Nat :=
  if t.nextSecond = t.lastBoundary then (t.nextSecond + 1) % Config.secMod else t.nextSecond

/-- Site time has reached the second of the next boundary (01:R3; seconds compared on their circle, log entry 5). -/
def Timebase.secondReached (t : Timebase) : Bool :=
  (t.siteTime / Config.secNs + Config.secMod - t.boundarySecond) % Config.secMod < Config.secHalf

/-- A signed value limited to plus and minus `m`. -/
def clampInt (m v : Int) : Int := max (-m) (min m v)

/-! ### The passing of time -/

/-- Oscillator time `dt` in units of 10^-9 ns of site time, with what was left over before (01:R1: a second of the oscillator
advances site time by 1,000,000,000 ns plus the frequency correction). -/
def Timebase.advanceUnits (t : Timebase) (dt : Nat) : Nat :=
  dt * ((Config.secNs : Int) + t.freqCorr).toNat + t.siteFrac

/-- Whole ns by which site time advances in `dt` ns of the oscillator (01:R1). -/
def Timebase.advanceNs (t : Timebase) (dt : Nat) : Nat := t.advanceUnits dt / Config.secNs

/-- The timebase after `dt` ns of the oscillator: site time alone advances (01:R1). -/
def Timebase.elapse (t : Timebase) (dt : Nat) : Timebase :=
  { t with
    siteTime := (t.siteTime + t.advanceNs dt) % Config.siteMod
    siteFrac := t.advanceUnits dt % Config.secNs }

/-- An output after site time's own advance by `adv` ns: fall remaining counts down (08:R142), to 0 where OUTPUT_FALL is yet to come
(log entry 56), and an instant taken while SQUELCHED is past once site time has moved on (log entry 48). -/
def Output.elapse (o : Output) (adv : Nat) : Output :=
  { o with
    fallRemaining := o.fallRemaining.map fun r => r - adv
    passed := if adv = 0 then o.passed else none }

/-- `dt` ns of the oscillator pass: the oscillator, site time and fall remaining run; nothing else does by itself. -/
def State.elapse (s : State) (dt : Nat) : State :=
  let adv := s.tb.advanceNs dt
  { s with
    clock := { s.clock with osc := s.clock.osc + dt }
    tb := s.tb.elapse dt
    outs := #v[(s.out 0).elapse adv, (s.out 1).elapse adv, (s.out 2).elapse adv, (s.out 3).elapse adv] }

end Sys2Proof.Machine
end

