-- ==== Sys2Proof/Machine/Flags.lean ====
section
/-! DEFINITION. Conditions derived from the state: classes met, standings, candidates' fitness, severities, ATTN and alarm line
levels. None of them writes a record except `State.settle`, which drives ATTN, the lines and their pins. -/
namespace Sys2Proof.Machine
open Sys2Proof

/-! ### Accuracy classes (00 section 4.2) -/

/-- Place in the order A, B, C, D. -/
def Grade.rank : Grade → Nat
  | .a => 0 | .b => 1 | .c => 2 | .d => 3

/-- Place in the order A, B, C, D, NONE. -/
def SiteClass.rank : SiteClass → Nat
  | .a => 0 | .b => 1 | .c => 2 | .d => 3 | .none => 4

/-- The site class is at least as good as the class `g`. -/
def SiteClass.meets (cls : SiteClass) (g : Grade) : Bool := cls.rank ≤ g.rank

/-- The looser of two classes: the later in the order A, B, C, D. -/
def Grade.looser (x y : Grade) : Grade := if x.rank ≤ y.rank then y else x

/-- The class with a given place in the order, NONE for 4 and above. -/
def SiteClass.ofRank : Nat → SiteClass
  | 0 => .a | 1 => .b | 2 => .c | 3 => .d | _ => .none

/-- The class of an E against the class table (01:R7). -/
def Timebase.classOf (t : Timebase) : SiteClass :=
  match t.e with
  | none => .none
  | some e => if e ≤ t.thrA then .a else if e ≤ t.thrB then .b else if e ≤ t.thrC then .c else if e ≤ t.thrD then .d else .none

/-- E is known and above threshold D (01:R15, R17). -/
def Timebase.spentE (t : Timebase) : Bool :=
  match t.e with
  | none => false
  | some e => t.thrD < e

/-- HOLDOVER, ASSISTED or SPENT (01 section 1.6). -/
def TbState.inHoldover : TbState → Bool
  | .holdover | .assisted | .spent => true
  | .freeRun | .acquiring | .locked => false

/-! ### Reference entries -/

/-- Phase-capable: all but the LINE entries 4 and 5 (02 section 2.1). -/
def phaseCapable (i : RefIx) : Bool := i ≠ 4 && i ≠ 5

/-- The reference entry of a PEER (02 section 2.1). -/
def Peer.entry : Peer → RefIx
  | .six => 6
  | .seven => 7

/-- QUALIFYING or USABLE: the entry takes samples and can fault (02:R38). -/
def RefEntry.live (e : RefEntry) : Bool := e.state = .qualifying || e.state = .usable

/-- A last offset is fresh: formed within 1250 ms of oscillator time, with the present step number (02:R27). -/
def State.fresh (s : State) (o : Offset) : Bool :=
  s.clock.osc ≤ o.formedAt + Config.missingNs && o.step = s.tb.stepNumber

/-- The missing-sample timer has reached 1250 ms (02:R30, R32, R34). -/
def State.missingDue (s : State) (e : RefEntry) : Bool :=
  match e.missingSince with
  | none => false
  | some t => t + Config.missingNs ≤ s.clock.osc

/-- The missing-sample timer has passed 1250 ms: its expiry lies in the past (log entry 3). -/
def State.missingOverdue (s : State) (e : RefEntry) : Bool :=
  match e.missingSince with
  | none => false
  | some t => t + Config.missingNs < s.clock.osc

/-- A candidate for selection (03:R51). -/
def State.candidate (s : State) (i : RefIx) : Bool :=
  (s.ref i).state = .usable && phaseCapable i && 1 ≤ (s.ref i).priority

/-- `i` ranks better than `j`: priority, then declared error, then index (03:R51). -/
def State.ranksBetter (s : State) (i j : RefIx) : Bool :=
  let a := s.ref i
  let b := s.ref j
  a.priority < b.priority ||
    (a.priority = b.priority && (a.declaredError < b.declaredError || (a.declaredError = b.declaredError && i < j)))

/-- The best-ranked candidate (03:R51). -/
def State.bestCandidate (s : State) : Option RefIx :=
  (List.finRange 8).foldl
    (fun best i =>
      if s.candidate i then
        match best with
        | none => some i
        | some b => if s.ranksBetter i b then some i else some b
      else best)
    none

/-- A LINE entry that may be the assist reference: USABLE with a priority of 1 or more (01:R18). -/
def State.assistable (s : State) (l : LineInput) : Bool :=
  (s.ref l.entry).state = .usable && 1 ≤ (s.ref l.entry).priority

/-- The best LINE entry for assist: lower priority number, then lower index (01:R18). -/
def State.bestLine (s : State) : Option LineInput :=
  match s.assistable .four, s.assistable .five with
  | true, true => if (s.ref 5).priority < (s.ref 4).priority then some .five else some .four
  | true, false => some .four
  | false, true => some .five
  | false, false => none

/-- The restore candidate as 03:R58 works it out. -/
def State.restoreNow (s : State) : Option RefIx :=
  match s.tb.revertive, s.tb.forced, s.tb.selected, s.bestCandidate with
  | true, none, some cur, some best => if s.ranksBetter best cur then some best else none
  | _, _, _, _ => none

/-- The run second at which a switch to entry `i` falls due, a plain sum (03:R58, log entry 46). -/
def State.restoreDue (s : State) (i : RefIx) : Nat := ((s.ref i).usableSince.getD 0) + s.tb.waitToRestore

/-! ### Leases -/

/-- The lease in slot `l` is live, in state `st`. -/
def State.leaseIn (s : State) (l : LeaseIx) (st : LeaseState) : Bool :=
  match s.lease l with
  | none => false
  | some x => x.state = st

/-- The lease in slot `l` is IN-SERVICE. -/
def State.inService (s : State) (l : LeaseIx) : Bool := s.leaseIn l .inService

/-- Some lease is IN-SERVICE (01:R10). -/
def State.serving (s : State) : Bool := (List.finRange 32).any fun l => s.inService l

/-- The lease in slot `l` is live and its port is `p`. -/
def State.leaseOn (s : State) (l : LeaseIx) (p : PortIx) : Bool :=
  match s.lease l with
  | none => false
  | some x => x.port = p

/-- The lease in slot `l` is live on port `p` in state `st`. -/
def State.leaseOnIn (s : State) (l : LeaseIx) (p : PortIx) (st : LeaseState) : Bool := s.leaseOn l p && s.leaseIn l st

/-- Live leases in the table (07:R117). -/
def State.liveCount (s : State) : Nat := countIx fun l : LeaseIx => (s.lease l).isSome

/-- Live leases on a port (05:R92). -/
def State.liveOn (s : State) (p : PortIx) : Nat := countIx fun l : LeaseIx => s.leaseOn l p

/-- The slot holds a live lease. -/
def State.leaseLive (s : State) (l : LeaseIx) : Bool := (s.lease l).isSome

/-- A lease's standing: SERVED (true), DEGRADED (false), or absent (07:R119). -/
def Lease.standing (x : Lease) (cls : SiteClass) : Option Bool :=
  if x.state = .inService then some (cls.meets x.required) else none

/-! ### Alarm severities, kinds, ATTN and lines (09) -/

/-- Codes of severities: WARNING 1 to CRITICAL 4 (10:R170). -/
def Severity.code : Severity → Nat
  | .warning => 1 | .minor => 2 | .major => 3 | .critical => 4

/-- The severity with a code (10:R170). -/
def Severity.ofCode : Nat → Option Severity
  | 1 => some .warning | 2 => some .minor | 3 => some .major | 4 => some .critical | _ => none

/-- Position of a kind in the alarm kind table, from 0 (09:R151). -/
def AlarmKind.index : AlarmKind → Fin 20
  | .refFaulted => 0 | .refLockedOut => 1 | .holdover => 2 | .holdoverSpent => 3 | .freeRun => 4
  | .selectionChanged => 5 | .timeStepped => 6 | .leasePending => 7 | .leaseDegraded => 8 | .leaseSuspended => 9
  | .delayJump => 10 | .unitReported => 11 | .leaseExpired => 12 | .joinRefused => 13 | .duplicateTag => 14
  | .leaseTableFull => 15 | .portDown => 16 | .portConflict => 17 | .outputSquelched => 18 | .alarmOverflow => 19

/-- The kinds in table order (09:R151). -/
def AlarmKind.all : List AlarmKind :=
  [.refFaulted, .refLockedOut, .holdover, .holdoverSpent, .freeRun, .selectionChanged, .timeStepped, .leasePending,
   .leaseDegraded, .leaseSuspended, .delayJump, .unitReported, .leaseExpired, .joinRefused, .duplicateTag,
   .leaseTableFull, .portDown, .portConflict, .outputSquelched, .alarmOverflow]

/-- The kind at a position (09:R151). -/
def AlarmKind.ofIndex (n : Nat) : Option AlarmKind := AlarmKind.all[n]?

/-- Momentary kinds; the others are level kinds (09:R151). -/
def AlarmKind.momentary : AlarmKind → Bool
  | .selectionChanged | .timeStepped | .leaseExpired | .joinRefused | .duplicateTag => true
  | _ => false

/-- Subject type codes: DEVICE 0, TIMEBASE 1, REFERENCE 2, LEASE 3, PORT 4, OUTPUT 5 (10:R170), fixed by kind (09:R151). -/
def AlarmKind.subjectType : AlarmKind → Nat
  | .refFaulted | .refLockedOut => 2
  | .holdover | .holdoverSpent | .freeRun | .selectionChanged | .timeStepped => 1
  | .leasePending | .leaseDegraded | .leaseSuspended | .delayJump | .unitReported | .leaseExpired => 3
  | .joinRefused | .duplicateTag | .portDown | .portConflict => 4
  | .leaseTableFull | .alarmOverflow => 0
  | .outputSquelched => 5

/-- ACTIVE-NEW or ACTIVE-SEEN. -/
def AlarmState.active : AlarmState → Bool
  | .activeNew | .activeSeen => true
  | .clearedUnseen => false

/-- ACTIVE-NEW or CLEARED-UNSEEN: not yet seen by the board processor. -/
def AlarmState.unseen : AlarmState → Bool
  | .activeNew | .clearedUnseen => true
  | .activeSeen => false

/-- Some record of the table satisfies `p`. -/
def AlarmUnit.anyRecord (a : AlarmUnit) (p : AlarmRecord → Bool) : Bool :=
  (List.finRange 48).any fun i =>
    match a.slots[i].record with
    | none => false
    | some r => p r

/-- Records held (09:R160). -/
def AlarmUnit.recordsHeld (a : AlarmUnit) : Nat := countIx fun i : SlotIx => a.slots[i].record.isSome

/-- The condition of ATTN: an unseen record at or above the threshold (09:R161). -/
def AlarmUnit.attnNow (a : AlarmUnit) : Bool :=
  a.anyRecord fun r => r.state.unseen && a.threshold.code ≤ r.severity.code

/-- A record that a SEVERITY-AT-LEAST or KIND-ACTIVE line counts (09:R162). -/
def AlarmLine.counts (l : AlarmLine) (r : AlarmRecord) : Bool :=
  r.state = .activeNew || (r.state = .activeSeen && l.includeAcked)

/-- Position of a timebase state in its range (10:R171). -/
def TbState.index : TbState → Nat
  | .freeRun => 0 | .acquiring => 1 | .locked => 2 | .holdover => 3 | .assisted => 4 | .spent => 5

/-- Code of a class that can be required: A 1 to D 4 (04 section 4.2). -/
def Grade.code : Grade → Nat
  | .a => 1 | .b => 2 | .c => 3 | .d => 4

/-- The class with a code 1 to 4 (04 section 4.2). -/
def Grade.ofCode : Nat → Option Grade
  | 1 => some .a | 2 => some .b | 3 => some .c | 4 => some .d | _ => none

/-- Code of a site class: NONE 0, A 1 to D 4 (04 section 4.2). -/
def SiteClass.code : SiteClass → Nat
  | .none => 0 | .a => 1 | .b => 2 | .c => 3 | .d => 4

/-- The condition of an alarm line for ACTIVE (09:R162). -/
def State.lineNow (s : State) (l : AlarmLine) : Bool :=
  let v := l.argument.toNat
  match l.source with
  | .severityAtLeast => s.alarm.anyRecord fun r => l.counts r && v ≤ r.severity.code
  | .kindActive => s.alarm.anyRecord fun r => l.counts r && r.kind.index.val = v
  | .timebaseIn => l.argument.getLsbD s.tb.state.index
  | .classWorseThan =>
    match Grade.ofCode v with
    | none => false
    | some g => !s.tb.siteClass.meets g
  | .referenceSelected =>
    match s.tb.selected with
    | none => false
    | some i => i.val = v
  | .constant => v = 0

/-- The level a line's pin is driven to (09:R163). -/
def AlarmLine.pinFor (l : AlarmLine) (active : Bool) : Level :=
  match active, l.polarity with
  | true, .activeHigh | false, .activeLow => .high
  | true, .activeLow | false, .activeHigh => .low

/-- A line evaluated again, with its pin driven (09:R163). -/
def State.lineDriven (s : State) (l : AlarmLine) : AlarmLine :=
  { l with active := s.lineNow l, pin := l.pinFor (s.lineNow l) }

/-- ATTN, ATTN_N, and every alarm line with its pin, as they stand at the end of an event (09:R161, R163). Every command ends
with it. -/
def State.settle (s : State) : State :=
  let a := s.alarm
  s.setAlarm { a with
    attn := a.attnNow
    attnN := if a.attnNow then .low else .high
    lines := #v[s.lineDriven a.lines[0], s.lineDriven a.lines[1], s.lineDriven a.lines[2], s.lineDriven a.lines[3],
                s.lineDriven a.lines[4], s.lineDriven a.lines[5], s.lineDriven a.lines[6], s.lineDriven a.lines[7]] }

/-- An event of the part: `dt` ns pass, the event acts, ATTN and the lines settle. While RESET_N is held low the part is held
at its values after reset, and nothing acts or runs (10:R177). -/
def event (dt : Nat) (f : State → State) (s : State) : Host.Outcome State Fault Refusal :=
  .next (if s.resetLow then s else (f (s.elapse dt)).settle)

end Sys2Proof.Machine
end

