-- ==== Sys2Proof/Machine/Alarm.lean ====
section
/-! DEFINITION. The alarm table: raising, displacement and overflow, clearing, acknowledging, room events (09). -/
namespace Sys2Proof.Machine
open Sys2Proof

/-- What a raise gives: key (kind and subject index), tag for a LEASE subject, detail, and the severity a report carries
(09:R150, R151, R152). -/
structure Raise where
  kind : AlarmKind
  subject : Nat
  tag : Option Tag := none
  detail : Option Detail := none
  severity : Option Severity := none
  deriving DecidableEq, Repr

/-- The record holds the key (09:R150). -/
def AlarmRecord.hasKey (r : AlarmRecord) (k : AlarmKind) (subject : Nat) : Bool := r.kind = k && r.subject = subject

/-- The slot that holds the record of a key (09:R150). -/
def AlarmUnit.find (a : AlarmUnit) (k : AlarmKind) (subject : Nat) : Option SlotIx :=
  lowest fun i =>
    match a.slots[i].record with
    | none => false
    | some r => r.hasKey k subject

def AlarmUnit.setSlot (a : AlarmUnit) (i : SlotIx) (x : AlarmSlot) : AlarmUnit := { a with slots := a.slots.set i x }

/-- The severity a raise gives its record: the report's own, else the kind table's (09:R151). -/
def AlarmUnit.severityOf (a : AlarmUnit) (r : Raise) : Severity :=
  match r.severity, a.kinds[r.kind.index].severity with
  | some v, _ => v
  | none, some v => v
  | none, none => .warning

/-- The state of a record just raised (09:R152, R153). -/
def AlarmKind.raisedState (k : AlarmKind) : AlarmState := if k.momentary then .clearedUnseen else .activeNew

/-- A record created by a raise (09:R153). -/
def AlarmUnit.created (a : AlarmUnit) (sec : Nat) (r : Raise) : AlarmRecord where
  state := r.kind.raisedState
  kind := r.kind
  subject := r.subject
  tag := r.tag
  severity := a.severityOf r
  detail := r.detail
  count := 1
  firstRaised := sec
  lastChanged := sec

/-- A record raised again (09:R152). -/
def AlarmUnit.raisedAgain (a : AlarmUnit) (sec : Nat) (r : Raise) (old : AlarmRecord) : AlarmRecord :=
  { old with
    state := r.kind.raisedState
    tag := r.tag
    severity := a.severityOf r
    detail := r.detail
    count := min Config.countMax (old.count + 1)
    lastChanged := sec }

/-- The lowest free general slot (09:R153). -/
def AlarmUnit.freeGeneral (a : AlarmUnit) : Option SlotIx := lowest fun i => i ≠ 0 && a.slots[i].record.isNone

/-- Last changed of slot `i`, if its record may give way to one of severity `v` (09:R153). -/
def AlarmUnit.givesWay (a : AlarmUnit) (v : Severity) (i : SlotIx) : Option Nat :=
  match a.slots[i].record with
  | none => none
  | some r => if i ≠ 0 && r.state = .clearedUnseen && r.severity.code ≤ v.code then some r.lastChanged else none

/-- The slot to displace: earliest last changed, then lowest slot (09:R153). Site seconds are compared as plain numbers here, not
across the wrap (log entry 5). -/
def AlarmUnit.displaced (a : AlarmUnit) (v : Severity) : Option SlotIx :=
  ((List.finRange 48).foldl
    (fun best i =>
      match best, a.givesWay v i with
      | best, none => best
      | none, some t => some (i, t)
      | some (j, u), some t => if t < u then some (i, t) else some (j, u))
    none).map Prod.fst

/-- Put a record into a slot: its revision advances by `n`. -/
def AlarmUnit.store (a : AlarmUnit) (i : SlotIx) (n : Rev) (r : AlarmRecord) : AlarmUnit :=
  a.setSlot i ⟨a.slots[i].rev + n, some r⟩

/-- The overflow record is raised in slot 0 with the kind lost (09:R154). -/
def AlarmUnit.raiseOverflow (a : AlarmUnit) (sec : Nat) (lost : AlarmKind) : AlarmUnit :=
  let r : Raise := { kind := .alarmOverflow, subject := 0, detail := some (.kind lost) }
  match a.slots[(0 : SlotIx)].record with
  | none => a.store 0 1 (a.created sec r)
  | some old => a.store 0 1 (a.raisedAgain sec r old)

/-- A raise at the alarm unit, at site second `sec` (09:R152, R153, R154). -/
def AlarmUnit.raise (a : AlarmUnit) (sec : Nat) (r : Raise) : AlarmUnit :=
  match a.find r.kind r.subject with
  | some i =>
    match a.slots[i].record with
    | none => a
    | some old => a.store i 1 (a.raisedAgain sec r old)
  | none =>
    match a.freeGeneral with
    | some i => a.store i 1 (a.created sec r)
    | none =>
      match a.displaced (a.severityOf r) with
      | some i => a.store i 2 (a.created sec r)
      | none => a.raiseOverflow sec r.kind

/-- The overflow record is ACTIVE-NEW or ACTIVE-SEEN (09:R158). -/
def AlarmUnit.overflowActive (a : AlarmUnit) : Bool :=
  match a.slots[(0 : SlotIx)].record with
  | none => false
  | some r => r.state.active

/-- The blocks that take a room announcement, in the order announced (09:R158). -/
def Block.all : List Block := [.timebase, .referenceUnit, .leaseController, .ports, .outputs]

/-- Clear the overflow record under 09:R155. -/
def AlarmUnit.clearOverflow (a : AlarmUnit) (sec : Nat) : AlarmUnit :=
  match a.slots[(0 : SlotIx)].record with
  | none => a
  | some r =>
    match r.state with
    | .activeNew => a.store 0 1 { r with state := .clearedUnseen, lastChanged := sec }
    | .activeSeen => a.setSlot 0 ⟨a.slots[(0 : SlotIx)].rev + 1, none⟩
    | .clearedUnseen => a

/-- Retire the record of a slot. Freeing a general slot while the overflow record is ACTIVE is a room event: that record is
cleared and room is announced to every block (09:R158). -/
def AlarmUnit.freeSlot (a : AlarmUnit) (sec : Nat) (i : SlotIx) : AlarmUnit :=
  let b := a.setSlot i ⟨a.slots[i].rev + 1, none⟩
  if i ≠ 0 && b.overflowActive then
    let d := b.clearOverflow sec
    { d with rooms := d.rooms ++ Block.all }
  else b

/-- A clear of a key (09:R155). -/
def AlarmUnit.clear (a : AlarmUnit) (sec : Nat) (k : AlarmKind) (subject : Nat) : AlarmUnit :=
  match a.find k subject with
  | none => a
  | some i =>
    match a.slots[i].record with
    | none => a
    | some r =>
      match r.state with
      | .activeNew => a.store i 1 { r with state := .clearedUnseen, lastChanged := sec }
      | .activeSeen => a.freeSlot sec i
      | .clearedUnseen => a

/-- An acknowledgement of the record in a slot (09:R156, R157). -/
def AlarmUnit.ackSlot (a : AlarmUnit) (sec : Nat) (i : SlotIx) : AlarmUnit :=
  match a.slots[i].record with
  | none => a
  | some r =>
    match r.state with
    | .activeNew => a.store i 1 { r with state := .activeSeen, lastChanged := sec }
    | .clearedUnseen => a.freeSlot sec i
    | .activeSeen => a

/-- The slots in state `st` as the walk of ACK-ALL finds them: its acknowledged (ACTIVE-NEW) or retired (CLEARED-UNSEEN). -/
def AlarmUnit.inState (a : AlarmUnit) (st : AlarmState) (i : SlotIx) : Bool :=
  match a.slots[i].record with
  | none => false
  | some r => r.state = st

/-- ACK-ALL: the table after the walk, the records acknowledged, the records retired (09:R157). -/
def AlarmUnit.ackAll (a : AlarmUnit) (sec : Nat) : AlarmUnit × Nat × Nat :=
  (List.finRange 48).foldl
    (fun acc i =>
      (acc.1.ackSlot sec i,
       acc.2.1 + (if acc.1.inState .activeNew i then 1 else 0),
       acc.2.2 + (if acc.1.inState .clearedUnseen i then 1 else 0)))
    (a, 0, 0)

/-- The slot holds a record whose subject is lease slot `l` (05:R93). -/
def AlarmUnit.namesLease (a : AlarmUnit) (l : LeaseIx) (i : SlotIx) : Bool :=
  match a.slots[i].record with
  | none => false
  | some r => r.kind.subjectType = 3 && r.subject = l.val

/-- Retire every record that names lease slot `l`, in slot order (05:R93). -/
def AlarmUnit.retireLeaseRecords (a : AlarmUnit) (sec : Nat) (l : LeaseIx) : AlarmUnit :=
  (List.finRange 48).foldl (fun b i => if b.namesLease l i then b.freeSlot sec i else b) a

/-! ### At the state -/

/-- A raise, at the present site second. -/
def State.raise (s : State) (r : Raise) : State := s.setAlarm (s.alarm.raise s.siteSec r)

/-- A clear, at the present site second. -/
def State.clearAlarm (s : State) (k : AlarmKind) (subject : Nat) : State := s.setAlarm (s.alarm.clear s.siteSec k subject)

/-- A raise whose subject is the live lease in slot `l`, with its tag (09:R150). -/
def State.raiseLease (s : State) (l : LeaseIx) (k : AlarmKind) (d : Option Detail) : State :=
  match s.lease l with
  | none => s
  | some x => s.raise { kind := k, subject := l.val, tag := some x.tag, detail := d }

end Sys2Proof.Machine
end

