-- ==== Sys2Proof/Machine/Queue.lean ====
section
/-! DEFINITION. The transmit queue of a port, its schedule, and the notices of leases (04:R73, R74, R71; 07:R122). -/
namespace Sys2Proof.Machine
open Sys2Proof

/-- What the offerer of a frame is told (04:R73). -/
inductive Offered where
  | queued | full | notOpen
  deriving DecidableEq, Repr

/-- How a port in its present state takes a frame (04:R73). -/
def Port.offering (r : Port) : Offered :=
  if r.state = .opened then (if r.queue.length < Config.queueMax then .queued else .full) else .notOpen

/-- The port after a frame was offered to it (04:R73). -/
def Port.offer (r : Port) (f : Frame) : Port :=
  match r.offering with
  | .queued => { r with queue := r.queue ++ [f] }
  | .full | .notOpen => r

/-- A frame offered to a port's queue; an offerer that needs the answer reads `Port.offering` first. -/
def State.offer (s : State) (p : PortIx) (f : Frame) : State := s.updPort p fun r => r.offer f

/-! ### Notices (07:R122) -/

/-- What waits in a notice slot after a new notice found the queue full (07:R122). -/
def Notice.merge (old : Option Notice) (new : Notice) : Notice :=
  match old with
  | none => new
  | some o =>
    if o.kind = .step && new.kind = .step then ⟨.step, clampInt Config.stepReportMax (o.value + new.value)⟩ else new

/-- A notice put to the lease in slot `l` (07:R122). -/
def State.putNotice (s : State) (l : LeaseIx) (kind : NoticeKind) (value : Int) : State :=
  match s.lease l with
  | none => s
  | some x =>
    match (s.port x.port).offering with
    | .queued => s.offer x.port (.notice l kind value)
    | .full => s.updLease l fun y => { y with notice := some (Notice.merge y.notice ⟨kind, value⟩) }
    | .notOpen => s

/-- Offer again the notice that waits for lease `l`, if it is on port `p` (07:R122). -/
def State.offerWaiting (s : State) (p : PortIx) (l : LeaseIx) : State :=
  match s.lease l with
  | none => s
  | some x =>
    match x.notice with
    | none => s
    | some n =>
      if x.port = p && (s.port p).offering = .queued then
        (s.offer p (.notice l n.kind n.value)).updLease l fun y => { y with notice := none }
      else s

/-- Room in a port's queue: the waiting notices of its leases are offered, in index order (04:R73, 07:R122). -/
def State.roomInQueue (s : State) (p : PortIx) : State := forAll (fun l t => t.offerWaiting p l) s

/-! ### Removal (04:R74) and the schedule (04:R71) -/

/-- A MARK, ECHO or NOTICE that carries lease id `l` (04:R74). -/
def Frame.carries (l : LeaseIx) : Frame → Bool
  | .mark m .. => m = l
  | .echo m _ => m = l
  | .notice m _ _ => m = l
  | .accept .. | .wait _ | .refuse .. => false

/-- A MARK that carries lease id `l` (04:R74). -/
def Frame.marks (l : LeaseIx) : Frame → Bool
  | .mark m .. => m = l
  | .accept .. | .wait _ | .refuse .. | .echo .. | .notice .. => false

/-- Remove the queued frames that satisfy `drop`. A queue that held 16 frames and loses one has room (04:R73, R74, log entry 12). -/
def State.removeFrames (s : State) (p : PortIx) (drop : Frame → Bool) : State :=
  let r := s.port p
  let kept := r.queue.filter fun f => !drop f
  let t := s.setPort p { r with queue := kept }
  if r.state = .opened && r.queue.length = Config.queueMax && kept.length < Config.queueMax then t.roomInQueue p else t

/-- Drop the scheduled boundary symbols of lease `l` on port `p` (04:R71). -/
def State.dropSchedule (s : State) (p : PortIx) (l : LeaseIx) : State :=
  s.updPort p fun r => { r with schedule := r.schedule.filter fun e => e.lease ≠ l }

/-- Drop every scheduled boundary symbol, at a step (04:R71). -/
def State.dropAllSchedules (s : State) : State := forAll (fun p t => t.updPort p fun r => { r with schedule := [] }) s

/-- The lease leaves IN-SERVICE: its MARKs leave the queue, its symbols the schedule, its symbol record goes (04:R71, R72, R74). -/
def State.stopMarks (s : State) (l : LeaseIx) : State :=
  match s.lease l with
  | none => s
  | some x => ((s.removeFrames x.port (Frame.marks l)).dropSchedule x.port l).updLease l fun y => { y with symbol := none }

/-- The lease is retired: its MARK, ECHO and NOTICE frames leave the queue, its symbols the schedule (07:R133). The notice that
waits in its own slot is discarded with it and takes none of the room made (04:R74, 07:R122). -/
def State.stopAllFrames (s : State) (l : LeaseIx) : State :=
  match s.lease l with
  | none => s
  | some x =>
    let t := s.updLease l fun y => { y with notice := none }
    ((t.removeFrames x.port (Frame.carries l)).dropSchedule x.port l).updLease l fun y => { y with symbol := none }

/-- What is in transmission when the port leaves OPEN: a frame is ended with IDLE at once, a boundary symbol is one symbol and ends
as begun (04:R74, log entry 29). -/
def Tx.cut (x : Tx) (osc : Nat) : Tx :=
  match x.item with
  | .frame _ => { x with endsAt := min x.endsAt osc }
  | .symbol _ => x

/-- The port leaves OPEN: queue and schedule are emptied, a frame in transmission ends with IDLE (04:R74, R78). -/
def Port.silence (r : Port) (osc : Nat) : Port := { r with queue := [], schedule := [], tx := r.tx.map fun x => x.cut osc }

end Sys2Proof.Machine
end

