-- ==== Sys2Proof/Machine/Scanner.lean ====
section
/-! DEFINITION. The delay scanner: choosing the next lease, sending echoes, abandoning a batch (06:R103 to R107, R114, R115). -/
namespace Sys2Proof.Machine
open Sys2Proof

/-- Send an echo of the batch in flight: it waits in the queue, or is refused by a full one and times out (06:R106). -/
def State.sendEcho (s : State) (p : PortIx) (number : BitVec 2) : State :=
  match (s.port p).scanner.batch with
  | none => s
  | some b =>
    let standing : EchoStanding :=
      if (s.port p).offering = .queued then .waiting else .refused s.clock.osc
    (s.offer p (.echo b.lease number)).updScanner p fun c =>
      { c with batch := some { b with number := number, standing := standing } }

/-- Start a batch: samples and timeouts 0, first echo numbered 0 (06:R106). -/
def State.startBatch (s : State) (p : PortIx) (l : LeaseIx) (origin : Origin) : State :=
  (s.updScanner p fun c => { c with batch := some ⟨l, origin, [], 0, 0, .waiting⟩ }).sendEcho p 0

/-- A routine batch is due on the port (06:R104); the due second is a plain sum (log entry 46). -/
def State.routineDue (s : State) (p : PortIx) : Bool :=
  match (s.port p).scanner.lastRoutine with
  | none => true
  | some t => t + (s.port p).scanInterval ≤ s.tb.runCounter

/-- The lowest lease of a port in a state (06:R103). -/
def State.lowestIn (s : State) (p : PortIx) (st : LeaseState) : Option LeaseIx := lowest fun l => s.leaseOnIn l p st

/-- The next IN-SERVICE lease of the port in the round-robin (06:R104). -/
def State.nextRoutine (s : State) (p : PortIx) : Option LeaseIx :=
  match (s.port p).scanner.roundRobin with
  | none => s.lowestIn p .inService
  | some k => (lowest fun l : LeaseIx => k < l && s.leaseOnIn l p .inService).or (s.lowestIn p .inService)

/-- Start a routine batch, if one is due and a lease is in service (06:R104). -/
def State.startRoutine (s : State) (p : PortIx) : State :=
  match s.nextRoutine p with
  | none => s
  | some l =>
    if s.routineDue p then
      (s.updScanner p fun c => { c with roundRobin := some l, lastRoutine := some s.tb.runCounter }).startBatch p l .routine
    else s

/-- A choice of the scanner, when its port is OPEN and no batch is in flight (06:R103). -/
def State.choose (s : State) (p : PortIx) : State :=
  let r := s.port p
  if r.state = .opened && r.scanner.batch.isNone then
    match r.scanner.injection with
    | some l => (s.updScanner p fun c => { c with injection := none }).startBatch p l .injected
    | none =>
      match s.lowestIn p .measuring with
      | some l => s.startBatch p l .measuring
      | none => s.startRoutine p
  else s

/-- The batch in flight on port `p` is for lease `l`. -/
def State.batchFor (s : State) (p : PortIx) (l : LeaseIx) : Bool :=
  match (s.port p).scanner.batch with
  | none => false
  | some b => b.lease = l

/-- Abandon the batch of lease `l` on its port, if one is in flight (06:R114). -/
def State.abandonBatch (s : State) (l : LeaseIx) : State :=
  match s.lease l with
  | none => s
  | some x => if s.batchFor x.port l then s.updScanner x.port fun c => { c with batch := none } else s

/-- Empty an injection slot that names lease `l` (06:R105, R114). -/
def State.dropInjection (s : State) (l : LeaseIx) : State :=
  match s.lease l with
  | none => s
  | some x => s.updScanner x.port fun c => { c with injection := if c.injection = some l then none else c.injection }

/-- The scanner is told that its port has left OPEN (06:R115). -/
def State.stopScanner (s : State) (p : PortIx) : State := s.updScanner p fun _ => Scanner.reset

end Sys2Proof.Machine
end

