-- ==== Sys2Proof/Machine/Outputs.lean ====
section
/-! DEFINITION. Timing outputs: instants of a plan, states, edges, squelch and re-plan (08), and the commands OUTPUT_RISING_EDGE
and OUTPUT_FALL. -/
namespace Sys2Proof.Machine
open Sys2Proof

/-- The period of a plan in ns (08:R140). -/
def Plan.period (p : Plan) : Nat := Config.secNs / p.n

/-- The first instant of the plan at or after `t` (08:R142): site times whose ns, modulo the period, equal the phase offset. -/
def Plan.atOrAfter (p : Plan) (t : SiteNs) : SiteNs :=
  (t + (p.phase + p.period - t % p.period) % p.period) % Config.siteMod

/-- The first instant of the plan strictly after `t` (08:R144, R146). -/
def Plan.after (p : Plan) (t : SiteNs) : SiteNs := p.atOrAfter (t + 1)

/-- The stored N, phase offset and width (08:R140). -/
def Output.stored (o : Output) : Plan := ⟨o.n, o.phase, o.width⟩

/-- The next edge of an entry to RUNNING at site time `now`: the first instant at or after it (08:R141). -/
def Output.entryEdge (o : Output) (now : SiteNs) : SiteNs := o.stored.atOrAfter now

/-- The next edge of a release at site time `now` (08:R145): as at every entry; but when the instant at `now` was taken first, the
output being SQUELCHED still, the following instant (log entry 48: the order of the two is that of the queue). -/
def Output.releaseEdge (o : Output) (now : SiteNs) : SiteNs :=
  if o.passed = some (o.stored, now) then o.stored.after now else o.entryEdge now

/-- Entry to RUNNING, `first` being the next edge (08:R141). -/
def Output.toRunning (o : Output) (first : SiteNs) : Output :=
  { o with
    state := .running
    rev := o.rev + 1
    nextEdge := some first
    plan := some o.stored
    changeWaiting := false
    passed := none }

/-- Entry to OFF or SQUELCHED: the line goes LOW, a pulse in progress is cut, the plan goes (08:R141). -/
def Output.toStopped (o : Output) (st : OutState) : Output :=
  { o with
    state := st
    rev := o.rev + 1
    line := .low
    nextEdge := none
    fallRemaining := none
    plan := none
    changeWaiting := false
    passed := none }

/-- The state the enabled field and the site class give (08:R141). -/
def Output.dueState (o : Output) (cls : SiteClass) : OutState :=
  if o.enabled then (if cls.meets o.minClass then .running else .squelched) else .off

/-- The output moved to the state 08:R141 gives it, if it is in another; `first` is the next edge of an entry to RUNNING. -/
def Output.moved (o : Output) (cls : SiteClass) (first : SiteNs) : Output :=
  if o.state = o.dueState cls then o
  else match o.dueState cls with
    | .running => o.toRunning first
    | .squelched => o.toStopped .squelched
    | .off => o.toStopped .off

/-- Output `i` takes the state 08:R141 gives it, with OUTPUT-SQUELCHED raised or cleared at the move (08:R145, R147); `first` gives
the next edge of an entry to RUNNING at a site time. -/
def State.moveOutput (s : State) (i : OutIx) (first : Output → SiteNs → SiteNs) : State :=
  let was := (s.out i).state
  let t := s.updOut i fun o => o.moved s.tb.siteClass (first o s.tb.siteTime)
  let now := (t.out i).state
  if was ≠ .squelched && now = .squelched then t.raise { kind := .outputSquelched, subject := i.val }
  else if was = .squelched && now ≠ .squelched then t.clearAlarm .outputSquelched i.val
  else t

/-- A step of site time: each RUNNING output takes the first instant of its plan strictly after the new time (08:R144). -/
def Output.replan (o : Output) (now : SiteNs) : Output :=
  match o.state, o.plan with
  | .running, some p => { o with nextEdge := some (p.after now) }
  | _, _ => o

/-- Every output takes a step (08:R144). -/
def State.replanOutputs (s : State) : State := forAll (fun i t => t.updOut i fun o => o.replan t.tb.siteTime) s

/-- The line falls when fall remaining has reached 0 (08:R142). -/
def Output.fallen (o : Output) : Output :=
  if o.fallRemaining = some 0 then { o with line := .low, fallRemaining := none } else o

/-- The edge at instant `e` of a RUNNING output whose plan is `p` (08:R142, R146): passed over while the line is HIGH; else the
pulse rises, and a waiting change of plan is taken up. -/
def Output.edgeAt (o : Output) (e : SiteNs) (p : Plan) : Output :=
  match o.line, o.changeWaiting with
  | .high, _ => { o with nextEdge := some ((e + p.period) % Config.siteMod) }
  | .low, false =>
    { o with line := .high, fallRemaining := some p.width, nextEdge := some ((e + p.period) % Config.siteMod) }
  | .low, true =>
    { o with
      line := .high
      fallRemaining := some o.width
      nextEdge := some (o.stored.after e)
      plan := some o.stored
      changeWaiting := false }

/-- A RUNNING output at site time `now`: a rising edge, when site time has reached or passed the next edge; a fall already due comes
first (08:R142, R143, log entry 3). -/
def Output.edgeIfDue (o : Output) (now : SiteNs) : Output :=
  match o.nextEdge, o.plan with
  | some e, some p => if reached now e then o.fallen.edgeAt e p else o
  | _, _ => o

/-- A SQUELCHED output at site time `now`: an instant of its stored plan that falls there is taken, and produces nothing (08:R145,
log entry 48). -/
def Output.passIfInstant (o : Output) (now : SiteNs) : Output :=
  if o.entryEdge now = now then { o with passed := some (o.stored, now) } else o

/-- What an edge coming due at site time `now` does in each state (08:R141, R142, R145). -/
def Output.rising (o : Output) (now : SiteNs) : Output :=
  match o.state with
  | .running => o.edgeIfDue now
  | .squelched => o.passIfInstant now
  | .off => o

/-- OUTPUT_RISING_EDGE (08:R142, R143, R146). -/
def execOutputRisingEdge (dt : Nat) (i : OutIx) (s : State) : Host.Outcome State Fault Refusal :=
  event dt (fun t => t.updOut i fun o => o.rising t.tb.siteTime) s

/-- OUTPUT_FALL (08:R142). -/
def execOutputFall (dt : Nat) (i : OutIx) (s : State) : Host.Outcome State Fault Refusal :=
  event dt (fun t => t.updOut i Output.fallen) s

end Sys2Proof.Machine
end

