-- ==== Sys2Proof/Machine/Timebase.lean ====
section
/-! DEFINITION. The timebase: class changes, acquisition, selection and loss, holdover, steps and slews, run seconds (01, 03), and
the commands RUN_SECOND, TIMEBASE_SAMPLE, ASSIST_MEASUREMENT and REVERTIVE_SWITCH. -/
namespace Sys2Proof.Machine
open Sys2Proof

/-! ### Class changes (01:R7, 07:R125, 08:R145) -/

/-- An IN-SERVICE lease takes a class change event (07:R125). -/
def State.leaseAtClass (before after : SiteClass) (l : LeaseIx) (s : State) : State :=
  match s.lease l with
  | none => s
  | some x =>
    if x.state = .inService then
      match before.meets x.required, after.meets x.required with
      | true, false => (s.putNotice l .degraded after.code).raiseLease l .leaseDegraded none
      | false, true => (s.putNotice l .restored after.code).clearAlarm .leaseDegraded l.val
      | true, true | false, false => s
    else s

/-- One class change event: the field, then the leases in index order, then the outputs in index order (01:R7, 08:R147). -/
def State.crossClass (s : State) (after : SiteClass) : State :=
  let before := s.tb.siteClass
  let t := s.updTb fun b => { b with siteClass := after, rev := b.rev + 1 }
  forAll (fun i u => u.moveOutput i Output.releaseEdge) (forAll (State.leaseAtClass before after) t)

/-- The class one crossing from `cur` towards `target` (01:R7). -/
def SiteClass.toward (cur target : SiteClass) : SiteClass :=
  if cur.rank < target.rank then .ofRank (cur.rank + 1)
  else if target.rank < cur.rank then .ofRank (cur.rank - 1)
  else cur

/-- At most `n` crossings towards the class of E. -/
def State.crossings : Nat → State → State
  | 0, s => s
  | n + 1, s =>
    if s.tb.siteClass = s.tb.classOf then s else (s.crossClass (s.tb.siteClass.toward s.tb.classOf)).crossings n

/-- Site class derived again from E, one event per threshold crossed; there are four thresholds (01:R7). -/
def State.deriveClass (s : State) : State := s.crossings 4

/-! ### Acquisition and selection (01:R8, 03) -/

/-- Entry to ACQUIRING, the selected reference being `sel` afterwards (01:R8). -/
def Timebase.acquire (t : Timebase) (sel : Option RefIx) : Timebase :=
  { t with
    state := .acquiring
    selected := sel
    assist := none
    lockRun := 0
    unlockRun := 0
    lockedTime := 0
    h := none
    rev := t.rev + changed t.state .acquiring + changed t.selected sel + changed t.assist none }

/-- Clear the alarm of the state the timebase leaves (01:R8, R22). -/
def State.clearStateAlarm (s : State) (left : TbState) : State :=
  match left with
  | .holdover | .assisted => s.clearAlarm .holdover 0
  | .spent => s.clearAlarm .holdoverSpent 0
  | .freeRun => s.clearAlarm .freeRun 0
  | .acquiring | .locked => s

/-- SELECTION-CHANGED with the new index, or an absent detail (03:R65). -/
def State.raiseSelection (s : State) (i : Option RefIx) : State :=
  s.raise { kind := .selectionChanged, subject := 0, detail := i.map fun k => .index k.val }

/-- Select entry `i`, which is not the selected one (03:R53, R54, R59, R61). -/
def State.selectEntry (s : State) (i : RefIx) : State :=
  ((s.updTb fun t => t.acquire (some i)).raiseSelection (some i)).clearStateAlarm s.tb.state

/-- Store the restore candidate as it stands (03:R58). -/
def State.storeRestore (s : State) : State := s.updTb fun t => { t with restore := s.restoreNow }

/-- Take the revertive switch if its due second is reached, and work the restore candidate out again (03:R59). -/
def State.switchIfDue (s : State) : State :=
  match s.tb.restore with
  | none => s
  | some i => if s.restoreDue i ≤ s.tb.runCounter then (s.selectEntry i).storeRestore else s

/-- Work out the restore candidate, and switch at once if it is already due (03:R58, R59). -/
def State.reworkRestore (s : State) : State := s.storeRestore.switchIfDue

/-! ### Loss of the selected reference (03:R54, R55; 01:R15, R21) -/

/-- The holdover state E and the assist reference give (01:R15). -/
def Timebase.holdoverState (t : Timebase) (assist : Option LineInput) : TbState :=
  if t.spentE then .spent else if assist.isSome then .assisted else .holdover

/-- The alarm of a holdover state is raised (01:R15, R22). -/
def State.raiseHoldover (s : State) (st : TbState) : State :=
  match st with
  | .holdover | .assisted => s.raise { kind := .holdover, subject := 0 }
  | .spent => s.raise { kind := .holdoverSpent, subject := 0 }
  | .freeRun | .acquiring | .locked => s

/-- Entry to holdover with E known (01:R15). -/
def State.enterHoldover (s : State) : State :=
  let assist := s.bestLine
  let st := s.tb.holdoverState assist
  let t := s.updTb fun b =>
    { b with
      state := st
      selected := none
      assist := assist
      lockRun := 0
      unlockRun := 0
      h := some 0
      restore := none
      rev := b.rev + changed b.state st + changed b.selected none + changed b.assist assist }
  (t.raiseSelection none).raiseHoldover st

/-- FREE-RUN is raised when setup is closed (01:R21, R22). -/
def State.raiseFreeRun (s : State) : State :=
  if s.setupClosed then s.raise { kind := .freeRun, subject := 0 } else s

/-- Entry to FREE-RUN (01:R21). SELECTION-CHANGED is raised before the class changes and what they raise; 03:R65 puts it before the
state alarm and leaves that order open (log entry 44). -/
def State.enterFreeRun (s : State) : State :=
  let t := s.updTb fun b =>
    { b with
      state := .freeRun
      selected := none
      assist := none
      lockRun := 0
      unlockRun := 0
      h := none
      e := none
      restore := none
      rev := b.rev + changed b.state .freeRun + changed b.selected none + changed b.assist none }
  (t.raiseSelection none).deriveClass.raiseFreeRun

/-- The forced reference becomes absent when the lost entry was forced (03:R54, R62). -/
def Timebase.unforce (t : Timebase) (lost : RefIx) : Timebase :=
  if t.forced = some lost then { t with forced := none, rev := t.rev + 1 } else t

/-- The loss of the selected reference `lost`, which is no candidate any more (03:R54, R55). -/
def State.loseSelected (s : State) (lost : RefIx) : State :=
  let t := s.updTb fun b => b.unforce lost
  match t.bestCandidate with
  | some i => (t.selectEntry i).reworkRestore
  | none =>
    if t.tb.minLockTime ≤ t.tb.lockedTime && t.tb.e.isSome then t.enterHoldover else t.enterFreeRun

/-! ### Announcements of the reference unit (01:R18, 03:R53) -/

/-- The LINE input an entry is, if it is one (02 section 2.1). -/
def lineOf (i : RefIx) : Option LineInput := if i = 4 then some .four else if i = 5 then some .five else none

/-- A LINE entry has become USABLE (01:R18). -/
def Timebase.lineUsable (t : Timebase) (l : LineInput) : Timebase :=
  match t.state, t.assist with
  | .holdover, _ => { t with assist := some l, state := .assisted, rev := t.rev + changed t.assist (some l) + 1 }
  | .spent, none => { t with assist := some l, rev := t.rev + 1 }
  | _, _ => t

/-- An entry has become USABLE: with none selected a new candidate is selected; a LINE entry may become the assist reference; the
restore candidate is worked out (03:R53, R58; 01:R18). -/
def State.announceUsable (s : State) (i : RefIx) : State :=
  let t :=
    match lineOf i with
    | some l => if 1 ≤ (s.ref i).priority then s.updTb fun b => b.lineUsable l else s
    | none => if s.tb.selected.isNone && s.candidate i then s.selectEntry i else s
  t.reworkRestore

/-- The assist reference has left USABLE, and `other` is the best LINE entry left (01:R18). -/
def Timebase.assistLost (t : Timebase) (other : Option LineInput) : Timebase :=
  let st := if other.isNone && t.state = .assisted then .holdover else t.state
  { t with assist := other, state := st, rev := t.rev + changed t.assist other + changed t.state st }

/-- An entry has left USABLE, the entry's own state being already changed (03:R54, R60; 01:R18). -/
def State.announceLeft (s : State) (i : RefIx) : State :=
  if s.tb.selected = some i then s.loseSelected i
  else
    let t := if (lineOf i).isSome && s.tb.assist = lineOf i then s.updTb fun b => b.assistLost s.bestLine else s
    t.reworkRestore

/-! ### Samples (01:R9 to R14) -/

/-- A step is allowed (01:R10). -/
def State.stepAllowed (s : State) : Bool := s.tb.e.isNone || s.tb.stepPolicy = .stepAny || !s.serving

/-- A sample of offset `o` is stepped (01:R10). -/
def State.steps (s : State) (o : Int) : Bool := s.tb.stepThreshold < o.natAbs && s.stepAllowed

/-- E after a sample (01:R13). -/
def sampleE (declared : Nat) (o : Int) : Nat := min Config.eMax (declared + o.natAbs)

/-- The timebase after a step by `o` (01:R11). -/
def Timebase.step (t : Timebase) (o : Int) : Timebase :=
  let b := t.acquire t.selected
  let now := moveSite t.siteTime o
  { b with
    siteTime := now
    lastBoundary := now / Config.secNs
    nextSecond := (now / Config.secNs + 1) % Config.secMod
    stepNumber := t.stepNumber + 1
    rev := b.rev + 1 }

/-- The timebase after a slew: a second not yet reached is looked for from the new time on (01:R3, R10, log entry 25). -/
def Timebase.slew (t : Timebase) (o : Int) : Timebase :=
  let b := { t with siteTime := moveSite t.siteTime (clampInt t.slewLimit o) }
  if b.secondReached then b else { b with nextSecond := (b.siteTime / Config.secNs + 1) % Config.secMod }

/-- The frequency correction moved by a slewed sample (01:R14). -/
def Timebase.steer (t : Timebase) (o : Int) : Timebase :=
  { t with freqCorr := clampInt Config.freqMax (t.freqCorr + o.tdiv 16) }

/-- The runs after a slewed sample (01:R12). -/
def Timebase.runs (t : Timebase) (o : Int) : Timebase :=
  if t.state = .locked then
    if 4 * t.lockThreshold < o.natAbs then
      if t.unlockRun + 1 < Config.unlockRunTarget then { t with unlockRun := t.unlockRun + 1 } else t.acquire t.selected
    else { t with unlockRun := 0 }
  else if t.state = .acquiring then
    if o.natAbs ≤ t.lockThreshold then
      if t.lockRun + 1 < Config.lockRunTarget then { t with lockRun := t.lockRun + 1 }
      else { t with lockRun := Config.lockRunTarget, state := .locked, rev := t.rev + 1 }
    else { t with lockRun := 0 }
  else t

/-- The step is put to every IN-SERVICE lease (07:R126). -/
def State.stepNotices (s : State) (o : Int) : State :=
  forAll (fun l t => if t.inService l then t.putNotice l .step (clampInt Config.stepReportMax o) else t) s

/-- A step and its announcements: leases, ports, outputs, TIME-STEPPED (01:R11). -/
def State.applyStep (s : State) (o : Int) : State :=
  ((((s.updTb fun t => t.step o).stepNotices o).dropAllSchedules).replanOutputs).raise
    { kind := .timeStepped, subject := 0, detail := some (.stepNs (clampInt Config.stepReportMax o)) }

/-- Site time corrected by a sample of offset `o`, with the frequency correction and the runs (01:R10 to R12, R14). -/
def State.correct (s : State) (o : Int) : State :=
  if s.steps o then s.applyStep o else s.updTb fun t => ((t.slew o).steer o).runs o

/-- A sample of the selected reference `i`, taken (01:R13). A boundary that its slew reaches is not part of this event: it is due after
it. An output edge that its slew reaches is taken after it too, so that a class change of this sample which squelches the output
comes first and no pulse rises; 08:R145 allows either order (log entry 50). -/
def State.applySample (s : State) (i : RefIx) (o : Int) : State :=
  ((s.correct o).updTb fun t => { t with e := some (sampleE (s.ref i).declaredError o) }).deriveClass

/-- The timebase takes or discards a sample (01:R9). -/
def State.takeSample (s : State) (m : Sample) : State :=
  if s.tb.selected = some m.entry && m.step = s.tb.stepNumber then s.applySample m.entry m.offset else s

/-- The oldest sample on its way to the timebase is delivered (01:R9, log entry 7). -/
def State.deliverSample (s : State) : State :=
  match s.wires.samples with
  | [] => s
  | m :: rest => (s.setWires { s.wires with samples := rest }).takeSample m

/-- The timebase takes a frequency measurement: it acts for the present assist reference, which only ASSISTED and SPENT have
(01:R19). -/
def State.takeMeasurement (s : State) (m : Measurement) : State :=
  if s.tb.assist = some m.line then
    s.updTb fun t => { t with freqCorr := clampInt Config.freqMax (t.freqCorr - m.freq) }
  else s

/-- The oldest measurement on its way to the timebase is delivered (01:R19, log entry 7). -/
def State.deliverMeasurement (s : State) : State :=
  match s.wires.measurements with
  | [] => s
  | m :: rest => (s.setWires { s.wires with measurements := rest }).takeMeasurement m

/-! ### Run seconds (01:R2, R12, R16, R17) -/

/-- The run counter's next value; past 2^48-1 it is a free value (01:R2, log entry 6). -/
def nextRunCounter (r osc : Nat) : Nat :=
  if r + 1 < Config.secMod then r + 1 else (Config.runCounterPastTop osc).toNat

/-- E's growth in one run second of holdover (01:R16). -/
def Timebase.growth (t : Timebase) : Nat :=
  if t.assist.isSome then t.assistedRate else t.g0 + t.h.getD 0 / t.aging

/-- The timebase at a run second: the counter, locked time, E and h (01:R2, R12, R16). -/
def Timebase.runSecond (t : Timebase) (osc : Nat) : Timebase :=
  { t with
    runCounter := nextRunCounter t.runCounter osc
    lockedTime := if t.state = .locked then min Config.lockedTimeMax (t.lockedTime + 1) else t.lockedTime
    e := if t.state.inHoldover then t.e.map (fun v => min Config.eMax (v + t.growth)) else t.e
    h := if t.state.inHoldover then t.h.map (fun v => min Config.eMax (v + 1)) else t.h }

/-- The SPENT test: HOLDOVER or ASSISTED with E above threshold D enters SPENT (01:R17). -/
def State.spentTest (s : State) : State :=
  if (s.tb.state = .holdover || s.tb.state = .assisted) && s.tb.spentE then
    ((s.updTb fun t => { t with state := .spent, rev := t.rev + 1 }).clearAlarm .holdover 0).raise
      { kind := .holdoverSpent, subject := 0 }
  else s

/-- An entry at a run second: hold-off counts down, the decay clock runs (02:R40, R41). -/
def RefEntry.runSecond (e : RefEntry) : RefEntry :=
  { e with
    holdOffRemaining := e.holdOffRemaining.map fun r => r - 1
    decayClock := e.decayClock.map fun r => r + 1 }

/-- A run second (01:R2). -/
def State.runSecond (s : State) : State :=
  let s₁ := s.setClock { s.clock with nextRunAt := s.clock.nextRunAt + Config.secNs }
  let s₂ := s₁.updTb fun t => t.runSecond s.clock.osc
  let s₃ := s₂.deriveClass.spentTest
  forAll (fun i t => t.updRef i RefEntry.runSecond) s₃

/-- A run second, when an oscillator second has elapsed (01:R2, log entry 3). -/
def State.runSecondIfDue (s : State) : State := if s.clock.nextRunAt ≤ s.clock.osc then s.runSecond else s

/-! ### Commands -/

/-- RUN_SECOND (01:R2, R12, R16, R17). -/
def execRunSecond (dt : Nat) (s : State) : Host.Outcome State Fault Refusal := event dt State.runSecondIfDue s

/-- TIMEBASE_SAMPLE (01:R9 to R14). -/
def execTimebaseSample (dt : Nat) (s : State) : Host.Outcome State Fault Refusal := event dt State.deliverSample s

/-- ASSIST_MEASUREMENT (01:R19). -/
def execAssistMeasurement (dt : Nat) (s : State) : Host.Outcome State Fault Refusal := event dt State.deliverMeasurement s

/-- REVERTIVE_SWITCH (03:R59). -/
def execRevertiveSwitch (dt : Nat) (s : State) : Host.Outcome State Fault Refusal := event dt State.switchIfDue s

end Sys2Proof.Machine
end

