-- ==== Sys2Proof/Machine/References.lean ====
section
/-! DEFINITION. The reference unit: qualification, faults and lockout, binding, the consistency check (02), and the commands
REFERENCE_EDGE, LABEL_FRAME, LINE_PULSE, MISSING_SAMPLE_TIMER_EXPIRY, HOLD_OFF_EXPIRY, FAULT_SCORE_DECAY. -/
namespace Sys2Proof.Machine
open Sys2Proof

/-! ### Entering QUALIFYING (02:R35) -/

/-- The bound lease of entry `i` is IN-SERVICE (02:R34, R36). -/
def State.boundInService (s : State) (i : RefIx) : Bool :=
  match (s.ref i).boundLease with
  | none => false
  | some l => s.inService l

/-- A boundary symbol has been emitted for the bound lease of entry `i` since its entry to IN-SERVICE (02:R34). -/
def State.boundMarked (s : State) (i : RefIx) : Bool :=
  match (s.ref i).boundLease with
  | none => false
  | some l =>
    match s.lease l with
    | none => false
    | some x => x.symbol.isSome

/-- The missing-sample timer of an entry that enters QUALIFYING: a PEER entry's waits for its lease's first boundary symbol
(02:R30, R32, R34). -/
def State.missingStart (s : State) (i : RefIx) : Option Nat :=
  if i.val < 6 || (s.boundInService i && s.boundMarked i) then some s.clock.osc else none

/-- Entry to QUALIFYING (02:R35). -/
def RefEntry.toQualifying (e : RefEntry) (osc : Nat) (missing : Option Nat) : RefEntry :=
  { e with
    state := .qualifying
    rev := e.rev + 1
    progress := 0
    holdOffRemaining := none
    pendingLabel := none
    prevEdge := none
    labelLess := 0
    missingSince := missing
    window := none
    listenSince := if e.state = .disabled then some osc else e.listenSince }

/-- The detail of a reference alarm: the stored fault cause (02:R49). -/
def RefEntry.causeDetail (e : RefEntry) : Option Detail := e.faultCause.map Detail.cause

def State.raiseRef (s : State) (k : AlarmKind) (i : RefIx) : State :=
  s.raise { kind := k, subject := i.val, detail := (s.ref i).causeDetail }

/-- An entry's inputs start: QUALIFYING, or LOCKED-OUT at fault score 4 (02:R35). -/
def State.startInputs (s : State) (i : RefIx) : State :=
  if (s.ref i).faultScore < Config.lockoutScore then
    s.updRef i fun e => e.toQualifying s.clock.osc (s.missingStart i)
  else
    (s.updRef i fun e => { e with state := .lockedOut, rev := e.rev + 1, listenSince := some s.clock.osc }).raiseRef
      .refLockedOut i

/-! ### Suspension's own part (07:R128), needed here for 07:R129 -/

/-- Code of a suspend cause in a SUSPENDED notice (04 section 4.2); CONFLICT is never sent, its place in the order is 3. -/
def SuspendCause.code : SuspendCause → Int
  | .unreachable => 1 | .unstablePath => 2 | .conflict => 3 | .source => 4 | .host => 5

/-- A lease leaves IN-SERVICE: LEASE-DEGRADED is cleared, its MARKs, symbols and symbol record go (07:R120). -/
def State.leaveService (s : State) (l : LeaseIx) : State := (s.clearAlarm .leaseDegraded l.val).stopMarks l

/-- Suspension without the fault of a bound entry and without the scanner's choice: state and cause, departure from IN-SERVICE,
abandonment, notice, alarm (07:R128). LEASE-DEGRADED is cleared before LEASE-SUSPENDED is raised, and the lease's MARKs leave the
queue, waiting notices taking their room, before its SUSPENDED notice is put: orders of the model's (log entry 54). -/
def State.suspendCore (s : State) (l : LeaseIx) (cause : SuspendCause) : State :=
  let t := s.moveLease l fun x => { x with state := .suspended, suspendCause := some cause }
  let u := if s.inService l then t.leaveService l else t
  (((u.abandonBatch l).dropInjection l).putNotice l .suspended cause.code).raiseLease l .leaseSuspended
    (some (.suspended cause))

/-- The lease in slot `l` is MEASURING or IN-SERVICE (07:R128). -/
def State.suspendable (s : State) (l : LeaseIx) : Bool := s.leaseIn l .measuring || s.leaseIn l .inService

/-- A choice of the scanner of lease `l`'s port (06:R103). -/
def State.chooseFor (s : State) (l : LeaseIx) : State :=
  match s.lease l with
  | none => s
  | some x => s.choose x.port

/-- A batch is in flight for lease `l`. -/
def State.measured (s : State) (l : LeaseIx) : Bool :=
  match s.lease l with
  | none => false
  | some x => s.batchFor x.port l

/-! ### Faults (02:R38, R39) -/

/-- An entry after a fault: FAULTED with its hold-off, or LOCKED-OUT at score 4 (02:R38, R39). -/
def RefEntry.faulted (e : RefEntry) (cause : FaultCause) : RefEntry :=
  let score := e.faultScore + 1
  { e with
    state := if score < Config.lockoutScore then .faulted else .lockedOut
    faultCause := some cause
    faultScore := score
    usableSince := none
    rev := e.rev + 1
    progress := 0
    holdOffRemaining := if score < Config.lockoutScore then some e.holdOff else none
    pendingLabel := none
    labelLess := 0
    missingSince := none
    decayClock := none
    window := none }

/-- The alarms of entry `i` just faulted (02:R38, R39). -/
def State.raiseFault (s : State) (i : RefIx) : State :=
  if (s.ref i).state = .lockedOut then (s.raiseRef .refLockedOut i).clearAlarm .refFaulted i.val
  else s.raiseRef .refFaulted i

/-- The lease that the lockout of entry `i` suspends (07:R129). -/
def State.lockoutLease (s : State) (i : RefIx) : Option LeaseIx :=
  match (s.ref i).boundLease with
  | none => none
  | some l => if (s.ref i).state = .lockedOut && s.suspendable l then some l else none

/-- A lockout's report to the lease controller: the bound lease is suspended with cause SOURCE (07:R129). -/
def State.lockoutReport (s : State) (i : RefIx) : State :=
  match s.lockoutLease i with
  | none => s
  | some l => s.suspendCore l .source

/-- The scanner's choice after a lockout that abandoned a batch (06:R114, log entry 11). -/
def State.lockoutChoice (s before : State) (i : RefIx) : State :=
  match before.lockoutLease i with
  | none => s
  | some l => if before.measured l then s.chooseFor l else s

/-- A fault found for entry `i`; it acts in QUALIFYING and USABLE only (02:R38). The lease's raises come before the reference
unit's, and those before the timebase's (07:R120, 03:R65). -/
def State.faultRef (s : State) (i : RefIx) (cause : FaultCause) : State :=
  if (s.ref i).live then
    let t := s.updRef i fun e => e.faulted cause
    let u := (t.lockoutReport i).raiseFault i
    let v := if (s.ref i).state = .usable then u.announceLeft i else u
    v.lockoutChoice t i
  else s

/-! ### Good samples (02:R36, R37) -/

/-- Entry to USABLE (02:R36). -/
def RefEntry.toUsable (e : RefEntry) (run : Nat) : RefEntry :=
  { e with
    state := .usable
    progress := e.qualifyTarget
    usableSince := some run
    faultCause := none
    decayClock := some 0
    rev := e.rev + 1 }

/-- Entry `i` enters USABLE and is announced (02:R36). -/
def State.becomeUsable (s : State) (i : RefIx) : State :=
  (s.updRef i fun e => e.toUsable s.tb.runCounter).announceUsable i

/-- A PEER entry whose lease is not IN-SERVICE: it does not reach its target (02:R36). -/
def State.peerHeld (s : State) (i : RefIx) : Bool := 6 ≤ i.val && !s.boundInService i

/-- A good sample taken by qualification; `wanders` says that it fails the wander test (02:R36, R37). -/
def State.qualify (s : State) (i : RefIx) (wanders : Bool) : State :=
  let e := s.ref i
  if e.state = .qualifying then
    if wanders then s.updRef i fun x => { x with progress := 0 }
    else if e.progress + 1 < e.qualifyTarget then s.updRef i fun x => { x with progress := x.progress + 1 }
    else if s.peerHeld i then s.updRef i fun x => { x with progress := x.qualifyTarget - 1 }
    else s.becomeUsable i
  else s

/-- The wander test (02:R37). -/
def State.wanders (s : State) (o : Int) : Bool := s.tb.state = .locked && s.tb.wanderLimit < o.natAbs

/-- An offset too far off while LOCKED (02:R31, R33). -/
def State.mismatched (s : State) (o : Int) : Bool := s.tb.state = .locked && Config.mismatchNs < o.natAbs

/-- Offer a sample of a USABLE selected entry to the timebase (02:R31, R33, log entry 7). -/
def State.offerSample (s : State) (i : RefIx) (o : Int) (mark : BitVec 8) : State :=
  if (s.ref i).state = .usable && s.tb.selected = some i then
    s.setWires { s.wires with samples := s.wires.samples ++ [⟨i, o, mark⟩] }
  else s

/-- A good sample of a phase-capable entry: stored, offered if the entry is already USABLE and selected, taken by qualification
(02:R31, R33, R36; log entries 8, 21). -/
def State.goodOffset (s : State) (i : RefIx) (o : Int) (mark : BitVec 8) : State :=
  let t := s.updRef i fun e => { e with lastOffset := some ⟨clampInt Config.lastOffsetMax o, s.clock.osc, mark⟩ }
  (t.offerSample i o mark).qualify i (s.wanders o)

/-! ### Pulse entries (02:R29 to R31) -/

/-- An accepted edge: it becomes the previous edge, and the missing-sample timer restarts (02:R30). -/
def RefEntry.acceptEdge (e : RefEntry) (osc : Nat) : RefEntry :=
  { e with prevEdge := some osc, missingSince := some osc, pendingLabel := none }

/-- An accepted edge without a label (02:R31); `e` is the entry after the acceptance. -/
def State.edgeUnlabelled (s : State) (i : RefIx) : State :=
  let t := s.updRef i fun e => { e with labelLess := e.labelLess + 1 }
  if (t.ref i).labelLess < 2 then t else t.faultRef i .labelMissing

/-- The offset of an accepted edge with a label: the label's second less the site time of the reference's edge (02:R30, R31). -/
def State.edgeOffset (s : State) (i : RefIx) (b : Label) : Int :=
  (b.seconds.toNat * Config.secNs : Nat) - ((s.tb.siteTime : Int) - (s.ref i).inputDelay)

/-- An accepted edge with a label (02:R31). -/
def State.edgeLabelled (s : State) (i : RefIx) (b : Label) : State :=
  let t := s.updRef i fun e => { e with labelLess := 0 }
  let o := s.edgeOffset i b
  if t.mismatched o then t.faultRef i .labelMismatch else t.goodOffset i o s.tb.stepNumber

/-- An edge of the selected polarity on an entry in QUALIFYING or USABLE whose timer is not overdue (02:R30, R31). -/
def State.edgeTaken (s : State) (i : RefIx) : State :=
  let t := s.updRef i fun e => e.acceptEdge s.clock.osc
  match (s.ref i).prevEdge, (s.ref i).pendingLabel with
  | none, some _ => t
  | none, none => t.edgeUnlabelled i
  | some p, b =>
    if s.clock.osc < p + Config.glitchNs then s.faultRef i .glitch
    else match b with
      | none => t.edgeUnlabelled i
      | some b => t.edgeLabelled i b

/-- A pulse edge (02:R30); an overdue missing-sample timer faults first (log entry 3). -/
def State.pulseEdge (s : State) (i : RefIx) (edge : Edge) : State :=
  let e := s.ref i
  if e.live && e.edge = edge then (if s.missingOverdue e then s.faultRef i .missing else s.edgeTaken i) else s

/-- The entry of a pulse input (02 section 2.1). -/
def pulseEntry (i : Fin 4) : RefIx := i.castLE (by decide)

/-- A label taken by the receiver of entry `i` (02:R29). -/
def State.takeLabel (s : State) (i : RefIx) (valid : Bool) (seconds : BitVec 48) : State :=
  if (s.ref i).live then
    if valid then s.updRef i fun e => { e with pendingLabel := some ⟨seconds, true⟩ }
    else s.faultRef i .reported
  else s

/-- A receiver takes a character that began at `start`: after a gap it begins a frame, else it joins the frame being received, if
there is one (02:R28). -/
def LabelReceiver.take (r : LabelReceiver) (c : LabelChar) (start : Nat) : LabelReceiver where
  quietSince := start + Config.labelCharNs
  frame :=
    if r.quietSince + Config.labelGapNs < start then some ⟨start, [c]⟩
    else r.frame.map fun f => { f with chars := f.chars ++ [c] }

/-- The frame of a receiver, if it has its ten characters (02:R28). -/
def LabelReceiver.whole (r : LabelReceiver) : Option LabelRun := r.frame.filter fun f => Config.labelChars ≤ f.chars.length

/-- Entry `i` has been out of DISABLED since `start` (02:R28). -/
def State.heardSince (s : State) (i : RefIx) (start : Nat) : Bool :=
  match (s.ref i).listenSince with
  | none => false
  | some t => t ≤ start

/-- A label frame that has ended: taken as a label, or discarded (02:R28). -/
def State.labelEnds (s : State) (i : RefIx) (f : LabelRun) : State :=
  match labelOfChars f.chars with
  | none => s
  | some (valid, seconds) => if s.heardSince i f.startedAt then s.takeLabel i valid seconds else s

def State.setReceiver (s : State) (i : RefIx) (r : LabelReceiver) : State := s.updRef i fun e => { e with receiver := r }

/-- A character on the label line of entry `i` that began at `start`; the tenth of a frame ends it (02:R28). -/
def State.labelChar (s : State) (i : RefIx) (start : Nat) (c : LabelChar) : State :=
  let r := (s.ref i).receiver.take c start
  match r.whole with
  | none => s.setReceiver i r
  | some f => (s.setReceiver i { r with frame := none }).labelEnds i f

/-- Characters on the label line of entry `i` after one that ended at `ended`, in the order received (02:R28). -/
def State.labelRest (s : State) (i : RefIx) (ended : Nat) : List LineChar → State
  | [] => s
  | c :: rest => (s.labelChar i (ended + c.wait) c.char).labelRest i (ended + c.wait + Config.labelCharNs) rest

/-- How long characters last on the line, the first one apart, with the waits between them. -/
def restNs (rest : List LineChar) : Nat := (rest.map fun c => c.wait + Config.labelCharNs).sum

/-- Characters on the label line of entry `i`, the last of which ends now (02:R28). -/
def State.labelFrame (s : State) (i : RefIx) (first : LabelChar) (rest : List LineChar) : State :=
  let start := s.clock.osc - restNs rest - Config.labelCharNs
  (s.labelChar i start first).labelRest i (start + Config.labelCharNs) rest

/-! ### LINE entries (02:R32) -/

/-- The measurement of a window that closes now: none across a step (02:R32). -/
def State.windowFreq (s : State) (w : LineWindow) : Option Int :=
  if w.openedStep = s.tb.stepNumber then some (siteDiff s.tb.siteTime w.openedSite - Config.secNs) else none

/-- Offer a measurement of a USABLE entry to the timebase (02:R32, log entry 7). -/
def State.offerMeasurement (s : State) (l : LineInput) (f : Int) : State :=
  if (s.ref l.entry).state = .usable then
    s.setWires { s.wires with measurements := s.wires.measurements ++ [⟨l, f⟩] }
  else s

/-- A closed window's measurement (02:R32). It is offered by the entry's state before this measurement's own qualification, which 02:R32
leaves open (log entry 8). -/
def State.measuredFreq (s : State) (l : LineInput) (f : Int) : State :=
  let t := s.updRef l.entry fun e => { e with lastFreq := some (clampInt Config.lastFreqMax f) }
  if (s.ref l.entry).freqLimit < f.natAbs then t.faultRef l.entry .frequency
  else (t.offerMeasurement l f).qualify l.entry false

/-- A pulse on a LINE entry in QUALIFYING or USABLE whose timer is not overdue (02:R32). -/
def State.pulseTaken (s : State) (l : LineInput) : State :=
  let fresh : LineWindow := ⟨s.tb.siteTime, s.tb.stepNumber, 0⟩
  match (s.ref l.entry).window with
  | none => s.updRef l.entry fun e => { e with missingSince := some s.clock.osc, window := some fresh }
  | some w =>
    if w.pulses + 1 < Config.windowPulses then
      s.updRef l.entry fun e => { e with missingSince := some s.clock.osc, window := some { w with pulses := w.pulses + 1 } }
    else
      let t := s.updRef l.entry fun e => { e with missingSince := some s.clock.osc, window := some fresh }
      match s.windowFreq w with
      | none => t
      | some f => t.measuredFreq l f

/-- A pulse of a frequency train (02:R32); an overdue missing-sample timer faults first (log entry 3). -/
def State.linePulse (s : State) (l : LineInput) : State :=
  let e := s.ref l.entry
  if e.live then (if s.missingOverdue e then s.faultRef l.entry .missing else s.pulseTaken l) else s

/-! ### PEER entries (02:R33, R34, R45 to R47) -/

/-- The offset of a PEER-MARK against the last boundary symbol's seconds (02:R33). -/
def peerOffset (b : PeerMarkBody) (r : SymbolRecord) : Int :=
  ((b.seconds.toNat : Int) - r.seconds) * Config.secNs + b.difference.toInt

/-- A PEER-MARK on an entry in QUALIFYING or USABLE, with a symbol record (02:R33). -/
def State.peerTaken (s : State) (i : RefIx) (b : PeerMarkBody) (r : SymbolRecord) : State :=
  let t := s.updRef i fun e => { e with missingSince := some s.clock.osc }
  if b.valid = 0#8 then t.faultRef i .reported
  else if t.mismatched (peerOffset b r) then t.faultRef i .labelMismatch
  else t.goodOffset i (peerOffset b r) r.step

/-- A PEER-MARK forwarded for entry `i` with its lease's symbol record (02:R33); an overdue missing-sample timer faults first
(log entry 3). -/
def State.peerMarked (s : State) (i : RefIx) (b : PeerMarkBody) (r : Option SymbolRecord) : State :=
  let e := s.ref i
  if e.live then
    if s.missingOverdue e then s.faultRef i .missing
    else match r with
      | none => s
      | some r => s.peerTaken i b r
  else s

/-- The PEER entry to which a lease's offer is BOUND, if it is (07:R117). -/
def Offer.entry : Offer → Option RefIx
  | .bound p => some p.entry
  | .none | .refused => Option.none

/-- The bound lease of offer `f` leaves IN-SERVICE: its entry faults with SOURCE-LOST (02:R47). -/
def State.sourceLost (s : State) (f : Offer) : State :=
  match f.entry with
  | none => s
  | some i => s.faultRef i .sourceLost

/-- The first boundary symbol since the lease's entry to IN-SERVICE: a QUALIFYING or USABLE bound entry starts its missing-sample
timer (02:R34, R47). -/
def State.firstSymbol (s : State) (f : Offer) : State :=
  match f.entry with
  | none => s
  | some i => if (s.ref i).live then s.updRef i fun e => { e with missingSince := some s.clock.osc } else s

/-- A PEER entry that can be bound (02:R45). -/
def State.bindable (s : State) (p : Peer) : Bool :=
  let e := s.ref p.entry
  e.state = .disabled && e.boundLease.isNone && e.faultScore < Config.lockoutScore

/-- The PEER entry a new binding takes (02:R45). -/
def State.freePeer (s : State) : Option Peer :=
  if s.bindable .six then some .six else if s.bindable .seven then some .seven else none

/-- Bind a PEER entry to lease `l` (02:R45). -/
def State.bindPeer (s : State) (p : Peer) (l : LeaseIx) : State :=
  (s.updRef p.entry fun e => { e with boundLease := some l, enabled := true }).startInputs p.entry

/-- An entry DISABLED from any state; its score and cause are kept (02:R43). -/
def RefEntry.disabled (e : RefEntry) : RefEntry :=
  { e with
    state := .disabled
    rev := e.rev + 1
    usableSince := none
    progress := 0
    holdOffRemaining := none
    lastOffset := none
    lastFreq := none
    pendingLabel := none
    prevEdge := none
    labelLess := 0
    missingSince := none
    decayClock := none
    window := none
    listenSince := none }

/-- Entry `i` is taken to DISABLED, and its alarms are cleared; the announcement is left to the caller (02:R43). -/
def State.disableRef (s : State) (i : RefIx) : State :=
  ((s.updRef i RefEntry.disabled).clearAlarm .refFaulted i.val).clearAlarm .refLockedOut i.val

/-- Unbind a PEER entry, the announcement of a departure from USABLE left to the caller (02:R46, log entry 10). -/
def State.unbindPeer (s : State) (p : Peer) : State :=
  (s.updRef p.entry fun e => { e with boundLease := none, enabled := false }).disableRef p.entry

/-! ### Timers and the consistency check -/

/-- The missing-sample timer reaches 1250 ms (02:R30, R32, R34). -/
def State.missingExpires (s : State) (i : RefIx) : State := if s.missingDue (s.ref i) then s.faultRef i .missing else s

/-- The hold-off reaches 0 (02:R40). -/
def State.holdOffExpires (s : State) (i : RefIx) : State :=
  let e := s.ref i
  if e.state = .faulted && e.holdOffRemaining = some 0 then (s.startInputs i).clearAlarm .refFaulted i.val else s

/-- The entry's score lowered by one, its decay clock started again (02:R41). -/
def RefEntry.decayed (e : RefEntry) (clock : Nat) : RefEntry :=
  { e with
    faultScore := e.faultScore - 1
    rev := e.rev + changed e.faultScore (e.faultScore - 1)
    decayClock := some (clock - Config.decaySeconds) }

/-- The decay clock has run 900 run seconds (02:R41). -/
def State.scoreDecays (s : State) (i : RefIx) : State :=
  match (s.ref i).state, (s.ref i).decayClock with
  | .usable, some n => if Config.decaySeconds ≤ n then s.updRef i fun e => e.decayed n else s
  | _, _ => s

/-- The fresh last offset of entry `i` that the consistency check judges (02:R44). -/
def State.judged (s : State) (i : RefIx) : Option Int :=
  let e := s.ref i
  match e.lastOffset with
  | none => none
  | some o =>
    if e.state = .usable && phaseCapable i && s.tb.selected ≠ some i && s.fresh o then some o.value else none

/-- The deviant set with its offsets, in index order (02:R44). -/
def State.deviants (s : State) : List (RefIx × Int) :=
  (List.finRange 8).filterMap fun i =>
    match s.judged i with
    | none => none
    | some o => if s.tb.wanderLimit < o.natAbs then some (i, o) else none

/-- Some two members of the deviant set agree within the wander limit (02:R44). -/
def agreeWithin (limit : Nat) (ds : List (RefIx × Int)) : Bool :=
  ds.any fun a => ds.any fun b => a.1 < b.1 && (a.2 - b.2).natAbs ≤ limit

/-- The consistency check of a boundary (02:R44). Several deviants fault one after another, in index order, each with what its own
leaving USABLE brings, a lockout's suspension and the scanner's choice after it among them; 02:R44, 03:R60 and 06:R103 leave that
order open (log entry 38). -/
def State.checkConsistency (s : State) : State :=
  match s.tb.state, s.tb.selected with
  | .locked, some sel =>
    if (s.ref sel).state = .usable then
      if agreeWithin s.tb.wanderLimit s.deviants then s.faultRef sel .outvoted
      else s.deviants.foldl (fun t d => t.faultRef d.1 .wander) s
    else s
  | _, _ => s

/-! ### Commands -/

/-- REFERENCE_EDGE (02:R30, R31). -/
def execReferenceEdge (dt : Nat) (i : Fin 4) (edge : Edge) (s : State) : Host.Outcome State Fault Refusal :=
  event dt (fun t => t.pulseEdge (pulseEntry i) edge) s

/-- LABEL_FRAME (02:R28, R29). -/
def execLabelFrame (dt : Nat) (i : Fin 4) (first : LabelChar) (rest : List LineChar) (s : State) :
    Host.Outcome State Fault Refusal :=
  event dt (fun t => t.labelFrame (pulseEntry i) first rest) s

/-- LINE_PULSE (02:R32). -/
def execLinePulse (dt : Nat) (l : LineInput) (s : State) : Host.Outcome State Fault Refusal :=
  event dt (fun t => t.linePulse l) s

/-- MISSING_SAMPLE_TIMER_EXPIRY (02:R30, R32, R34). -/
def execMissingSampleTimerExpiry (dt : Nat) (i : RefIx) (s : State) : Host.Outcome State Fault Refusal :=
  event dt (fun t => t.missingExpires i) s

/-- HOLD_OFF_EXPIRY (02:R40). -/
def execHoldOffExpiry (dt : Nat) (i : RefIx) (s : State) : Host.Outcome State Fault Refusal :=
  event dt (fun t => t.holdOffExpires i) s

/-- FAULT_SCORE_DECAY (02:R41). -/
def execFaultScoreDecay (dt : Nat) (i : RefIx) (s : State) : Host.Outcome State Fault Refusal :=
  event dt (fun t => t.scoreDecays i) s

end Sys2Proof.Machine
end

