-- ==== Sys2Proof/Machine/Leases.lean ====
section
/-! DEFINITION. The lease controller and the outcomes of the delay scanner: joining, measuring, suspending, retiring (05, 06, 07),
and the commands MARK_DEPARTURE, ECHO_DEPARTURE, ECHO_TIMER_EXPIRY, ROUTINE_BATCH_DUE, APPROVAL_DEADLINE_EXPIRY. -/
namespace Sys2Proof.Machine
open Sys2Proof

/-- The credit a granted credit gives: absent when it is unlimited (05:R94, 07:R117). -/
def creditOf (granted : Nat) : Option Nat := if granted = Config.unlimitedCredit then none else some granted

/-- ACCEPT for a live lease (05:R91, R96, R97). -/
def Lease.acceptFrame (x : Lease) (l : LeaseIx) : Frame := .accept x.tag l x.required x.grantedCredit

/-! ### Suspension and return (07:R128, R136) -/

/-- Suspension of a MEASURING or IN-SERVICE lease, less the scanner's choice (07:R128). LEASE-DEGRADED is cleared before
LEASE-SUSPENDED is raised, the lease's MARKs leave the queue before its notice is put, and the notice is offered before the frames
that SOURCE-LOST brings, orders that 07:R128 leaves open (log entry 54). -/
def State.suspendFully (s : State) (l : LeaseIx) (cause : SuspendCause) : State :=
  match s.lease l with
  | none => s
  | some x =>
    let t := s.suspendCore l cause
    if x.state = .inService then t.sourceLost x.offer else t

/-- Suspension by the scanner or a conflict, marked with the slot's revision before the event (06:R114, 07:R135, log entry 41). -/
def State.suspendMarked (s : State) (l : LeaseIx) (cause : SuspendCause) (before : Rev) : State :=
  let t := s.suspendFully l cause
  t.updLease l fun x => { x with mark := some ⟨before, (t.slot l).rev, t.clock.osc⟩ }

/-- Suspension, and the choice that an abandoned batch makes (07:R128, 06:R114). -/
def State.suspend (s : State) (l : LeaseIx) (cause : SuspendCause) : State :=
  let t := s.suspendFully l cause
  if s.measured l then t.chooseFor l else t

/-- A SUSPENDED lease returns to MEASURING; the choice is left to the caller (07:R136). -/
def State.resumeLease (s : State) (l : LeaseIx) : State :=
  (s.moveLease l fun x =>
    { x with state := .measuring, suspendCause := none, compensation := none, lastMeasured := none, rejected := 0 }).clearAlarm
    .leaseSuspended l.val

/-! ### Retirement (07:R132, R133) -/

/-- The level alarms of a lease are cleared (07:R133). -/
def State.clearLeaseAlarms (s : State) (l : LeaseIx) : State :=
  ((((s.clearAlarm .leasePending l.val).clearAlarm .leaseDegraded l.val).clearAlarm .leaseSuspended l.val).clearAlarm
    .delayJump l.val).clearAlarm .unitReported l.val

/-- The slot becomes free, the port counts one lease less, LEASE-TABLE-FULL is cleared (07:R133). -/
def State.freeLease (s : State) (l : LeaseIx) (p : PortIx) : State :=
  ((s.setLeaseSlot l ⟨(s.slot l).rev + 1, none⟩).updPort p fun r =>
    { r with liveLeases := r.liveLeases - 1, rev := r.rev + 1 }).clearAlarm .leaseTableFull 0

/-- The frame of a retirement, if any, is offered (07:R132). -/
def State.offerSome (s : State) (p : PortIx) (f : Option Frame) : State :=
  match f with
  | none => s
  | some f => s.offer p f

/-- The momentary alarm of a retirement, if any, is raised (07:R132). -/
def State.raiseSome (s : State) (r : Option Raise) : State :=
  match r with
  | none => s
  | some r => s.raise r

/-- A bound offer's entry is unbound (02:R46). -/
def State.unbindOffer (s : State) (f : Offer) : State :=
  match f with
  | .bound p => s.unbindPeer p
  | .none | .refused => s

/-- The offer's entry is USABLE (02:R46). -/
def State.offerUsable (s : State) (f : Offer) : Bool :=
  match f.entry with
  | none => false
  | some i => (s.ref i).state = .usable

/-- The unbound entry's departure from USABLE is announced (02:R46). -/
def State.announceOffer (s : State) (f : Offer) : State :=
  match f.entry with
  | none => s
  | some i => s.announceLeft i

/-- Points 1 to 6 of a retirement of lease `l`, with the frame of its cause: all of it that raises no alarm. The loss that its
unbinding brings is left to the caller (07:R133, 05:R101, log entry 10). -/
def State.retireQuiet (s : State) (l : LeaseIx) (frame : Option Frame) : State :=
  match s.lease l with
  | none => s
  | some x =>
    let t := ((s.stopAllFrames l).abandonBatch l).dropInjection l
    (((t.unbindOffer x.offer).clearLeaseAlarms l).offerSome x.port frame).freeLease l x.port

/-- The timebase is told that the entry bound to lease `l` has left USABLE, `before` being the part before the retirement of the
lease (02:R46). -/
def State.retireLoss (s before : State) (l : LeaseIx) : State :=
  match before.lease l with
  | none => s
  | some x => if before.offerUsable x.offer then s.announceOffer x.offer else s

/-- A retirement of lease `l`, with the frame and the momentary alarm of its cause (07:R133, log entry 10). -/
def State.retire (s : State) (l : LeaseIx) (frame : Option Frame) (moment : Option Raise) : State :=
  match s.lease l with
  | none => s
  | some x =>
    let t := ((s.retireQuiet l frame).retireLoss s l).raiseSome moment
    if s.measured l then t.choose x.port else t

/-- Codes of a RETIRED notice: EXPIRED 1, LEFT 2, HOST 3 (04 section 4.2). -/
def retiredExpired : Int := 1
def retiredLeft : Int := 2
def retiredHost : Int := 3

/-- Retirement with a RETIRED notice (07:R132). -/
def State.retireNotice (s : State) (l : LeaseIx) (value : Int) (moment : Option Raise) : State :=
  s.retire l (some (.notice l .retired value)) moment

/-- Retirement of a PENDING lease with a REFUSE (07:R132). -/
def State.retireRefuse (s : State) (l : LeaseIx) (reason : RefuseReason) (moment : Option Raise) : State :=
  match s.lease l with
  | none => s
  | some x => s.retire l (some (.refuse x.tag reason)) moment

/-- The losses that the retirements of port `p`'s leases bring, in index order, `before` being the part before them. They come after
the clears of every lease retired in the event (05:R101, log entry 10). -/
def State.portLosses (s before : State) (p : PortIx) : State :=
  forAll (fun l t => if before.leaseOn l p && (s.lease l).isNone then t.retireLoss before l else t) s

/-- Retire every live lease of a port that has left OPEN without notice, in index order (04:R78, R80, R81). -/
def State.retirePort (s : State) (p : PortIx) : State :=
  (forAll (fun l t => if t.leaseOn l p then t.retireQuiet l none else t) s).portLosses s p

/-! ### Outcomes of a batch (06:R109 to R113) -/

/-- The batch ends (06:R109, R110). The consecutive timeouts are part of the batch and read 0 without one; 06:R109 does not name
them (log entry 40). -/
def State.endBatch (s : State) (p : PortIx) : State := s.updScanner p fun c => { c with batch := none }

/-- The standing taken at entry to IN-SERVICE: DEGRADED is told and raised (07:R119). -/
def State.takeStanding (s : State) (l : LeaseIx) : State :=
  match s.lease l with
  | none => s
  | some x =>
    if s.tb.siteClass.meets x.required then s
    else (s.putNotice l .degraded s.tb.siteClass.code).raiseLease l .leaseDegraded none

/-- A good batch for a MEASURING lease: it enters IN-SERVICE (06:R112, 07:R119). DELAY-JUMP is cleared before LEASE-DEGRADED is
raised, an order neither rule gives (log entry 42). -/
def State.enterService (s : State) (l : LeaseIx) (result : Nat) : State :=
  ((s.moveLease l fun x =>
    { x with
      state := .inService
      compensation := some result
      lastMeasured := some s.tb.runCounter
      rejected := 0
      delayJump := false }).clearAlarm .delayJump l.val).takeStanding l

/-- A re-measure within 20 ns: the compensation takes the result (06:R113). The revision advances if a stored field changed. -/
def State.refine (s : State) (l : LeaseIx) (x : Lease) (result : Nat) : State :=
  let y := { x with compensation := some result, lastMeasured := some s.tb.runCounter, rejected := 0 }
  s.setLeaseSlot l ⟨(s.slot l).rev + changed x y, some y⟩

/-- A delay jump: the lease leaves IN-SERVICE for MEASURING (06:R113, 07:R120). LEASE-DEGRADED is cleared before DELAY-JUMP is
raised; the rules leave that order open (log entry 42). -/
def State.delayJump (s : State) (l : LeaseIx) (x : Lease) : State :=
  let t := s.moveLease l fun y =>
    { y with state := .measuring, lastMeasured := some s.tb.runCounter, rejected := 0, delayJump := true }
  ((t.leaveService l).raiseLease l .delayJump none).sourceLost x.offer

/-- The result lies within 20 ns of the compensation held (06:R113). -/
def withinJump (held : Option Nat) (result : Nat) : Bool := ((result : Int) - held.getD 0).natAbs ≤ Config.jumpNs

/-- A good batch for lease `l` with its result (06:R110). -/
def State.goodBatch (s : State) (l : LeaseIx) (result : Nat) : State :=
  match s.lease l with
  | none => s
  | some x =>
    if x.state = .inService then
      (if withinJump x.compensation result then s.refine l x result else s.delayJump l x)
    else s.enterService l result

/-- A rejected batch: a rerun with the same origin, or UNSTABLE-PATH at the third rejection (06:R111). -/
def State.rejectBatch (s : State) (p : PortIx) (b : Batch) : State :=
  let t := s.moveLease b.lease fun x => { x with rejected := x.rejected + 1 }
  match s.lease b.lease with
  | none => s
  | some x =>
    if x.rejected + 1 < 3 then t.startBatch p b.lease b.origin
    else ((t.endBatch p).suspendMarked b.lease .unstablePath (s.slot b.lease).rev).choose p

/-- Largest sample less smallest (06:R110). -/
def spread (xs : List Int) : Int :=
  match xs with
  | [] => 0
  | x :: rest => rest.foldl max x - rest.foldl min x

/-- The result of a batch: an eighth of the sum, rounded down, plus the asymmetry (06:R110). -/
def batchResult (xs : List Int) (asymmetry : Int) : Int := xs.sum / 8 + asymmetry

/-- A batch is good: its spread within the limit, its result within 0 to 100,000 ns (06:R110). -/
def batchGood (xs : List Int) (limit : Nat) (result : Int) : Bool :=
  spread xs ≤ limit && 0 ≤ result && result ≤ Config.compensationMax

/-- A batch that holds its four samples is judged (06:R110). -/
def State.judge (s : State) (p : PortIx) (b : Batch) : State :=
  let r := s.port p
  let result := batchResult b.samples r.asymmetry
  if batchGood b.samples r.spreadLimit result then ((s.endBatch p).goodBatch b.lease result.toNat).choose p
  else s.rejectBatch p b

/-- The next echo of a batch whose echo has ended, the batch being `b` now (06:R106). -/
def State.nextEcho (s : State) (p : PortIx) (b : Batch) : State :=
  (s.updScanner p fun c => { c with batch := some b }).sendEcho p (b.number + 1)

/-- The echo of batch `b` draws a sample (06:R108). -/
def State.takeEchoSample (s : State) (p : PortIx) (b : Batch) (sample : Int) : State :=
  let b := { b with samples := b.samples ++ [sample], timeouts := 0 }
  if b.samples.length < 4 then s.nextEcho p b else s.judge p b

/-- An ECHO-BACK that the scanner takes: without a sample across a step (06:R108). -/
def State.takeEchoBack (s : State) (p : PortIx) (b : Batch) (t1 : SiteNs) (mark : BitVec 8) (captured : Capture) : State :=
  if captured.step = mark then
    match s.lease b.lease with
    | none => s
    | some x => s.takeEchoSample p b (siteDiff captured.site t1 - x.turnaround)
  else s.nextEcho p b

/-- A timeout of the echo in flight: the next echo, or UNREACHABLE at the third consecutive one (06:R107, R109). -/
def State.echoTimeout (s : State) (p : PortIx) (b : Batch) : State :=
  if b.timeouts + 1 < 3 then s.nextEcho p { b with timeouts := b.timeouts + 1 }
  else ((s.endBatch p).suspendMarked b.lease .unreachable (s.slot b.lease).rev).choose p

/-- When the echo timer of a standing started (06:R106, R107). -/
def EchoStanding.timer : EchoStanding → Option Nat
  | .waiting => none
  | .departed _ _ t => some t
  | .refused t => some t

/-- The echo timer has reached 2 ms (06:R107). -/
def State.echoDue (s : State) (b : Batch) : Bool :=
  match b.standing.timer with
  | none => false
  | some t => t + Config.echoNs ≤ s.clock.osc

/-- The echo timer has passed 2 ms: its expiry lies in the past (log entry 3). -/
def State.echoOverdue (s : State) (b : Batch) : Bool :=
  match b.standing.timer with
  | none => false
  | some t => t + Config.echoNs < s.clock.osc

/-- The echo timer of a port expires (06:R107). -/
def State.echoTimerExpires (s : State) (p : PortIx) : State :=
  match (s.port p).scanner.batch with
  | none => s
  | some b => if s.echoDue b then s.echoTimeout p b else s

/-- An ECHO-BACK delivered for lease `l`, echo number `n` (06:R108); an overdue echo timer times the echo out first. -/
def State.echoBack (s : State) (p : PortIx) (l : LeaseIx) (n : Nat) (captured : Capture) : State :=
  match (s.port p).scanner.batch with
  | none => s
  | some b =>
    if s.echoOverdue b then s.echoTimeout p b
    else match b.standing with
      | .departed t1 mark _ =>
        if b.lease = l && b.number.toNat = n then s.takeEchoBack p b t1 mark captured else s
      | .waiting | .refused _ => s

/-- A departure report of an ECHO: the WAITING echo it names becomes DEPARTED (06:R107). One that an abandoned batch left in the queue,
and that the echo in flight equals in lease and number, is taken for it (log entry 52). -/
def State.echoDeparted (s : State) (p : PortIx) (l : LeaseIx) (n : BitVec 2) (sent : Capture) : State :=
  match (s.port p).scanner.batch with
  | none => s
  | some b =>
    if b.lease = l && b.number = n && b.standing = .waiting then
      s.updScanner p fun c => { c with batch := some { b with standing := .departed sent.site sent.step s.clock.osc } }
    else s

/-- The routine due second of an idle scanner (06:R103, R104); one that a CHANGE of the scan interval brings into the past acts from
then on (log entry 53). -/
def State.routineFallsDue (s : State) (p : PortIx) : State := if s.routineDue p then s.choose p else s

/-! ### Credit (07:R123, R124) -/

/-- The spend that leaves `left` is the renewal point (07:R123). -/
def renewalPoint (granted credit left : Nat) : Bool :=
  left = Config.renewalPoint || (granted ≤ Config.renewalPoint && left < Config.renewalPoint && credit = granted)

/-- The departure of a MARK of lease `l` spends one unit of limited credit (07:R123). A credit of 0, which only a CHANGE from
unlimited credit can name, is live until such a departure, which retires the lease (log entry 43). -/
def State.spendCredit (s : State) (l : LeaseIx) : State :=
  match s.lease l with
  | none => s
  | some x =>
    match x.state, x.credit with
    | .inService, some c =>
      let t := s.updLease l fun y => { y with credit := some (c - 1) }
      if c - 1 = 0 then
        t.retireNotice l retiredExpired (some { kind := .leaseExpired, subject := l.val, tag := some x.tag })
      else if renewalPoint x.grantedCredit c (c - 1) then t.putNotice l .renewDue (c - 1 : Nat)
      else t
    | _, _ => s

/-- The lease after a RENEW (07:R124). -/
def Lease.renewed (x : Lease) : Lease :=
  if x.state = .inService || x.state = .suspended then
    if x.credit = creditOf x.grantedCredit then x
    else
      { x with
        credit := creditOf x.grantedCredit
        notice := x.notice.filter fun n => n.kind ≠ .renewDue }
  else x

/-! ### Joining (05) -/

/-- The entry matches a tag on a port (05:R89). -/
def Admission.admits (a : Admission) (tag : Tag) (p : PortIx) : Bool :=
  (tag ^^^ a.tagValue) &&& a.tagMask = 0 && a.ports.getLsbD p.val

/-- The first live entry, in index order, that matches (05:R89). -/
def State.matching (s : State) (tag : Tag) (p : PortIx) : Option AdmIx :=
  lowest fun i : AdmIx =>
    match (s.admissionSlot i).entry with
    | none => false
    | some a => a.admits tag p

/-- The live lease that holds a tag (05:R90). -/
def State.tagHolder (s : State) (tag : Tag) : Option LeaseIx :=
  lowest fun l : LeaseIx =>
    match s.lease l with
    | none => false
    | some x => x.tag = tag

/-- JOIN-REFUSED on a port (05:R101). -/
def joinRefused (p : PortIx) (reason : RefuseReason) : Raise :=
  { kind := .joinRefused, subject := p.val, detail := some (.reason reason) }

/-- A JOIN refused with a reason that raises JOIN-REFUSED (05:R91, R92). -/
def State.refuseJoin (s : State) (p : PortIx) (tag : Tag) (reason : RefuseReason) : State :=
  (s.offer p (.refuse tag reason)).raise (joinRefused p reason)

/-- A JOIN whose tag is live on another port (05:R90). -/
def State.refuseDuplicate (s : State) (p : PortIx) (tag : Tag) : State :=
  (s.offer p (.refuse tag .duplicate)).raise { kind := .duplicateTag, subject := p.val, detail := some (.tag tag) }

/-- The required class after a re-join (05:R91). -/
def State.rejoinClass (s : State) (x : Lease) (wanted : Grade) : Grade :=
  match (s.admissionSlot x.admission).entry with
  | none => wanted.looser x.required
  | some a => wanted.looser a.bestClass

/-- The lease's fields after a re-join that takes it back to MEASURING (05:R91). -/
def Lease.rejoined (x : Lease) (body : JoinBody) (required : Grade) : Lease :=
  { x with
    state := .measuring
    required := required
    turnaround := body.turnaround.toNat
    compensation := none
    lastMeasured := none
    rejected := 0
    delayJump := false
    suspendCause := none
    credit := creditOf x.grantedCredit }

/-- A re-join that takes the lease back to MEASURING (05:R91, 07:R120). From IN-SERVICE its MARKs leave the queue before ACCEPT is
offered, so a full queue may have room for it, and ACCEPT is offered before the notices that the fault SOURCE-LOST of its peer
entry brings; 05:R91 leaves both orders open (log entry 39). -/
def State.rejoinBack (s : State) (l : LeaseIx) (x : Lease) (body : JoinBody) (wanted : Grade) : State :=
  let y := x.rejoined body (s.rejoinClass x wanted)
  let t := (s.moveLease l fun _ => y).clearAlarm .delayJump l.val
  let u := if x.state = .suspended then t.clearAlarm .leaseSuspended l.val else t
  let v := if x.state = .inService then u.leaveService l else u
  let w := (v.abandonBatch l).offer x.port (y.acceptFrame l)
  let z := if x.state = .inService then w.sourceLost x.offer else w
  z.choose x.port

/-- A JOIN whose tag is live on the same port (05:R91). -/
def State.rejoin (s : State) (l : LeaseIx) (x : Lease) (body : JoinBody) (wanted : Grade) : State :=
  match x.state, x.suspendCause with
  | .pending, _ => s.offer x.port (.wait x.tag)
  | .suspended, some .host => s.refuseJoin x.port x.tag .notServing
  | _, _ => s.rejoinBack l x body wanted

/-- The slot is named by some record of the alarm table (05:R93). -/
def State.slotNamed (s : State) (l : LeaseIx) : Bool := (List.finRange 48).any fun i => s.alarm.namesLease l i

/-- The slot a new lease takes: the lowest free one that no alarm record names, else the lowest free one (05:R93). -/
def State.allocate (s : State) : Option LeaseIx :=
  (lowest fun l : LeaseIx => (s.lease l).isNone && !s.slotNamed l).or (lowest fun l : LeaseIx => (s.lease l).isNone)

/-- The JOIN asks for a binding that its entry allows (05:R95). -/
def offers (body : JoinBody) (a : Admission) : Bool := body.offer = 1#8 && a.offerAllowed

/-- The offer of a new lease, the PEER entry that can be bound being `free` (05:R95). -/
def newOffer (body : JoinBody) (a : Admission) (free : Option Peer) : Offer :=
  if offers body a then
    match free with
    | some p => .bound p
    | none => .refused
  else .none

/-- The fields of a new lease (05:R94). The approval deadline is the plain sum, also past the top of the run counter (log entry 46). -/
def newLease (body : JoinBody) (wanted : Grade) (p : PortIx) (i : AdmIx) (a : Admission) (run : Nat) (f : Offer) : Lease where
  state := if a.decision = .ask then .pending else .measuring
  tag := body.tag
  port := p
  required := wanted.looser a.bestClass
  grantedCredit := a.grantedCredit
  turnaround := body.turnaround.toNat
  compensation := none
  lastMeasured := none
  rejected := 0
  delayJump := false
  offer := f
  suspendCause := none
  deadline := if a.decision = .ask then some (run + a.approvalWait) else none
  admission := i
  report := ⟨none, [], 0⟩
  credit := creditOf a.grantedCredit
  notice := none
  symbol := none
  mark := none

/-- The offer of the new lease binds its entry (05:R95, 02:R45). -/
def State.bindOffer (s : State) (l : LeaseIx) (f : Offer) : State :=
  match f with
  | .bound p => s.bindPeer p l
  | .none | .refused => s

/-- The answer to a JOIN that created a lease, LEASE-PENDING for ASK, and the choice of the scanner for AUTO (05:R96). -/
def State.answerCreated (s : State) (l : LeaseIx) (x : Lease) : State :=
  match x.state with
  | .pending => (s.offer x.port (.wait x.tag)).raiseLease l .leasePending none
  | .measuring | .inService | .suspended => (s.offer x.port (x.acceptFrame l)).choose x.port

/-- A lease is created in slot `l` (05:R93 to R96). -/
def State.createLease (s : State) (l : LeaseIx) (x : Lease) : State :=
  let s₁ := s.setAlarm (s.alarm.retireLeaseRecords s.siteSec l)
  let s₂ := s₁.setLeaseSlot l ⟨(s.slot l).rev + 1, some x⟩
  let s₃ := s₂.updPort x.port fun r => { r with liveLeases := r.liveLeases + 1, rev := r.rev + 1 }
  (s₃.bindOffer l x.offer).answerCreated l x

/-- Tests 4 to 6 of a JOIN, the deciding entry being `a` at `i` (05:R92, R93). A FULL refusal raises JOIN-REFUSED before
LEASE-TABLE-FULL, an order that 05:R92 and R101 leave open (log entry 55). -/
def State.joinAdmitted (s : State) (p : PortIx) (body : JoinBody) (wanted : Grade) (i : AdmIx) (a : Admission) : State :=
  if Config.tableLeasesMax ≤ s.liveCount then
    (s.refuseJoin p body.tag .full).raise { kind := .leaseTableFull, subject := 0 }
  else if Config.portLeasesMax ≤ s.liveOn p then s.refuseJoin p body.tag .portFull
  else match s.allocate with
    | none => s
    | some l => s.createLease l (newLease body wanted p i a s.tb.runCounter (newOffer body a s.freePeer))

/-- Test 3 of a JOIN (05:R92). -/
def State.joinNew (s : State) (p : PortIx) (body : JoinBody) (wanted : Grade) : State :=
  match s.matching body.tag p with
  | none => s.refuseJoin p body.tag .denied
  | some i =>
    match (s.admissionSlot i).entry with
    | none => s.refuseJoin p body.tag .denied
    | some a => if a.decision = .deny then s.refuseJoin p body.tag .denied else s.joinAdmitted p body wanted i a

/-- A JOIN taken by the lease controller (05 section 5.3). -/
def State.takeJoin (s : State) (p : PortIx) (body : JoinBody) (wanted : Grade) : State :=
  match s.tagHolder body.tag with
  | none => s.joinNew p body wanted
  | some l =>
    match s.lease l with
    | none => s.joinNew p body wanted
    | some x => if x.port = p then s.rejoin l x body wanted else s.refuseDuplicate p body.tag

/-- A JOIN received: its wanted class and offer flag are within their ranges and its port is OPEN, else it is discarded
(04:R68, R69). -/
def State.joinReceived (s : State) (p : PortIx) (body : JoinBody) : State :=
  match Grade.ofCode body.wanted.toNat with
  | none => s
  | some wanted => if body.offer.toNat ≤ 1 && (s.port p).state = .opened then s.takeJoin p body wanted else s

/-- A PENDING lease's deadline is reached (05:R99). -/
def State.deadlineExpires (s : State) (l : LeaseIx) : State :=
  match s.lease l with
  | none => s
  | some x =>
    match x.state, x.deadline with
    | .pending, some d =>
      if d ≤ s.tb.runCounter then s.retireRefuse l .approvalTimeout (some (joinRefused x.port .approvalTimeout)) else s
    | _, _ => s

/-! ### Frames that name a lease (04:R68, R69) -/

/-- The lease a received frame names: the port OPEN, the id in range, the slot live on this port (04:R68, R69). -/
def State.addressed (s : State) (p : PortIx) (id : Byte) : Option LeaseIx :=
  match toIx 32 id.toNat with
  | none => none
  | some l => if (s.port p).state = .opened && s.leaseOn l p then some l else none

/-- Act for the lease a frame names; else the frame is discarded (04:R69). -/
def State.forAddressed (s : State) (p : PortIx) (id : Byte) (f : LeaseIx → State → State) : State :=
  match s.addressed p id with
  | none => s
  | some l => f l s

/-- A REPORT stored (07:R131). -/
def Lease.reported (x : Lease) (b : ReportBody) : Lease :=
  { x with report := ⟨Severity.ofCode b.severity.toNat, b.words, x.report.sequence + 1⟩ }

/-- UNIT-REPORTED of lease `l`, whose report is stored: raised at the report's severity, or cleared (07:R131). -/
def State.reportAlarm (s : State) (l : LeaseIx) (x : Lease) : State :=
  match x.report.severity with
  | none => s.clearAlarm .unitReported l.val
  | some v =>
    s.raise
      { kind := .unitReported, subject := l.val, tag := some x.tag, detail := some (.sequence x.report.sequence.toNat),
        severity := some v }

/-- A REPORT taken for lease `l` (07:R131). -/
def State.takeReport (s : State) (b : ReportBody) (l : LeaseIx) : State :=
  match s.lease l with
  | none => s
  | some x =>
    if x.state = .pending then s
    else (s.moveLease l fun _ => x.reported b).reportAlarm l (x.reported b)

/-- A REPORT's field values are within their ranges (04:R68). -/
def reportInRange (b : ReportBody) : Bool := b.severity.toNat ≤ 4 && b.words.length ≤ 6

/-- A PEER-MARK taken for lease `l`: forwarded when its offer is BOUND (07:R130). -/
def State.takePeerMark (s : State) (b : PeerMarkBody) (l : LeaseIx) : State :=
  match s.lease l with
  | none => s
  | some x =>
    match x.offer.entry with
    | none => s
    | some i => s.peerMarked i b x.symbol

/-! ### Departure reports (04:R70) -/

def DepartureReport.isMark : DepartureReport → Bool
  | .mark .. => true
  | .echo .. => false

/-- The first report of a port of the kind asked for. -/
def Port.firstReport (r : Port) (mark : Bool) : Option DepartureReport := r.reports.find? fun d => d.isMark == mark

/-- The report is taken by the block it goes to: a MARK's by the lease controller, an ECHO's by the scanner (04:R70). -/
def State.takeDeparture (s : State) (p : PortIx) (d : DepartureReport) : State :=
  let t := s.updPort p fun r => { r with reports := r.reports.erase d }
  match d with
  | .mark l _ => t.spendCredit l
  | .echo l n sent => t.echoDeparted p l n sent

/-- The oldest report of the kind asked for is delivered, if there is one (04:R70, log entry 7). -/
def State.deliverReport (s : State) (p : PortIx) (mark : Bool) : State :=
  match (s.port p).firstReport mark with
  | none => s
  | some d => s.takeDeparture p d

/-! ### Commands -/

/-- MARK_DEPARTURE (07:R123). -/
def execMarkDeparture (dt : Nat) (p : PortIx) (s : State) : Host.Outcome State Fault Refusal :=
  event dt (fun t => t.deliverReport p true) s

/-- ECHO_DEPARTURE (06:R107). -/
def execEchoDeparture (dt : Nat) (p : PortIx) (s : State) : Host.Outcome State Fault Refusal :=
  event dt (fun t => t.deliverReport p false) s

/-- ECHO_TIMER_EXPIRY (06:R107, R109). -/
def execEchoTimerExpiry (dt : Nat) (p : PortIx) (s : State) : Host.Outcome State Fault Refusal :=
  event dt (fun t => t.echoTimerExpires p) s

/-- ROUTINE_BATCH_DUE (06:R104). -/
def execRoutineBatchDue (dt : Nat) (p : PortIx) (s : State) : Host.Outcome State Fault Refusal :=
  event dt (fun t => t.routineFallsDue p) s

/-- APPROVAL_DEADLINE_EXPIRY (05:R99). -/
def execApprovalDeadlineExpiry (dt : Nat) (l : LeaseIx) (s : State) : Host.Outcome State Fault Refusal :=
  event dt (fun t => t.deadlineExpires l) s

end Sys2Proof.Machine
end

