-- ==== Sys2Proof/Machine/Ports.lean ====
section
/-! DEFINITION. Ports: lock, conflict, opening and closing, departures, boundary symbols, the site second boundary and the room
announcements (04, 01:R3, 09:R158), and the commands RESET_N, RESET_N_RELEASE, SITE_SECOND_BOUNDARY, FRAME_DEPARTURE,
BOUNDARY_SYMBOL_EMISSION, ROOM_ANNOUNCEMENT. -/
namespace Sys2Proof.Machine
open Sys2Proof

/-! ### Port states (04:R75 to R81) -/

/-- A move of a port's state: its revision advances (04:R75). -/
def Port.moveTo (r : Port) (st : PortState) : Port := { r with state := st, rev := r.rev + 1 }

def State.movePort (s : State) (p : PortIx) (st : PortState) : State := s.updPort p fun r => r.moveTo st

/-- Link up takes a value; a change advances the revision (04:R67, R75). -/
def Port.setLink (r : Port) (up : Bool) : Port := { r with linkUp := up, rev := r.rev + changed r.linkUp up }

def State.raisePort (s : State) (p : PortIx) (k : AlarmKind) : State := s.raise { kind := k, subject := p.val }

/-- The port leaves OPEN: queue and schedule are emptied, the scanner is told (04:R78, R79, R81). -/
def State.silencePort (s : State) (p : PortIx) : State := (s.updPort p fun r => r.silence s.clock.osc).stopScanner p

/-- The port enters OPEN or DOWN from CLOSED by its link up, with PORT-DOWN raised for DOWN (04:R76, R80). The choice of an OPEN
port's scanner is left to the caller. -/
def State.openPort (s : State) (p : PortIx) : State :=
  if (s.port p).linkUp then s.movePort p .opened else (s.movePort p .down).raisePort p .portDown

/-- Every port moves at CLOSE-SETUP, in index order (04:R76); its entry into OPEN is a choice of its scanner (06:R115). -/
def State.openAllPorts (s : State) : State := forAll (fun p t => (t.openPort p).choose p) s

/-- Gain of lock (04:R77). -/
def State.lockGained (s : State) (p : PortIx) : State :=
  let t := s.updPort p fun r => r.setLink true
  if (s.port p).state = .down then ((t.movePort p .opened).clearAlarm .portDown p.val).choose p else t

/-- Loss of lock (04:R77, R78). -/
def State.lockLost (s : State) (p : PortIx) : State :=
  let t := s.updPort p fun r => r.setLink false
  if (s.port p).state = .opened then (((t.movePort p .down).silencePort p).retirePort p).raisePort p .portDown else t

/-- A live lease on a port that enters CONFLICT: PENDING it is retired, else it is held (04:R79, 07:R128, R132). -/
def State.conflictLease (s : State) (l : LeaseIx) (x : Lease) : State :=
  match x.state with
  | .pending => s.retireRefuse l .notServing none
  | .measuring | .inService => s.suspendMarked l .conflict (s.slot l).rev
  | .suspended =>
    (s.moveLease l fun y => { y with suspendCause := some .conflict }).raiseLease l .leaseSuspended
      (some (.suspended .conflict))

/-- The own alarms of the PENDING leases on a port, which its entry to CONFLICT retires, are cleared (05:R101). -/
def State.clearPending (s : State) (p : PortIx) : State :=
  forAll
    (fun l t =>
      match t.lease l with
      | none => t
      | some x => if x.port = p && x.state = .pending then t.clearLeaseAlarms l else t)
    s

/-- Every live lease on a port that enters CONFLICT, in index order (04:R79). The own clears of those it retires come before every
raise of the event (05:R101); all else a lease meets, LEASE-TABLE-FULL's clear with it, comes at the lease's place in that order
(log entry 10). -/
def State.conflictLeases (s : State) (p : PortIx) : State :=
  forAll
    (fun l t =>
      match t.lease l with
      | none => t
      | some x => if x.port = p then t.conflictLease l x else t)
    (s.clearPending p)

/-- A hub kind frame taken on an OPEN port (04:R79). -/
def State.hubFrame (s : State) (p : PortIx) : State :=
  if (s.port p).state = .opened then
    (((s.movePort p .conflict).silencePort p).conflictLeases p).raisePort p .portConflict
  else s

/-- REOPEN of a port in CONFLICT: its leases return to MEASURING, or are retired without link (04:R80, 07:R136). -/
def State.reopenConflict (s : State) (p : PortIx) : State :=
  if (s.port p).linkUp then
    ((forAll (fun l t => if t.leaseOn l p then t.resumeLease l else t) (s.movePort p .opened)).clearAlarm
      .portConflict p.val).choose p
  else
    (((s.movePort p .down).retirePort p).clearAlarm .portConflict p.val).raisePort p .portDown

/-- CLOSE of a port that is not CLOSED (04:R81). -/
def State.closePort (s : State) (p : PortIx) : State :=
  let t := s.movePort p .closed
  let u := if (s.port p).state = .opened then t.silencePort p else t
  ((u.retirePort p).clearAlarm .portDown p.val).clearAlarm .portConflict p.val

/-! ### The transmitter (04:R70, R72) -/

/-- The kind of a frame (04 section 4.2). -/
def Frame.kind : Frame → HubKind
  | .accept .. => .accept
  | .wait _ => .wait
  | .refuse .. => .refuse
  | .mark .. => .mark
  | .echo .. => .echo
  | .notice .. => .notice

/-- Codes of refusal reasons (04 section 4.2). -/
def RefuseReason.code : RefuseReason → Nat
  | .denied => 1 | .full => 2 | .portFull => 3 | .duplicate => 4 | .approvalTimeout => 5 | .host => 6 | .notServing => 7

/-- Codes of notice kinds (04 section 4.2). -/
def NoticeKind.code : NoticeKind → Nat
  | .renewDue => 1 | .degraded => 2 | .restored => 3 | .step => 4 | .suspended => 5 | .retired => 6

/-- MARK flags: bit 0 degraded, bit 1 holdover, the others 0 (04 section 4.2). -/
def markFlags (degraded holdover : Bool) : Nat := degraded.toNat + 2 * holdover.toNat

/-- The body of a frame, each field most significant byte first (04 section 4.2). -/
def Frame.body : Frame → List Byte
  | .accept tag l cls credit => beBytes 4 tag.toNat ++ beBytes 1 l.val ++ beBytes 1 cls.code ++ beBytes 1 credit
  | .wait tag => beBytes 4 tag.toNat
  | .refuse tag reason => beBytes 4 tag.toNat ++ beBytes 1 reason.code
  | .mark l seconds compensation cls degraded holdover =>
    beBytes 1 l.val ++ beBytes 6 seconds ++ beBytes 4 compensation ++ beBytes 1 cls.code ++
      beBytes 1 (markFlags degraded holdover)
  | .echo l number => beBytes 1 l.val ++ beBytes 1 number.toNat
  | .notice l kind value => beBytes 1 l.val ++ beBytes 1 kind.code ++ beBytes 4 (BitVec.ofInt 32 value).toNat

/-- A frame as sent on LTXn (04 section 4.2). -/
def Frame.line (f : Frame) : List LineSymbol := frameLine f.kind.code f.body

/-- A transmission as sent on LTXn (04:R67). -/
def TxItem.line : TxItem → List LineSymbol
  | .frame f => f.line
  | .symbol l => [.boundary l]

/-- The symbol on LTXn at an oscillator instant: of what is in transmission, and IDLE when nothing is (04:R67). -/
def Port.onLine (r : Port) (osc : Nat) : LineSymbol :=
  match r.tx with
  | none => .idle
  | some x =>
    if x.endsAt ≤ osc then .idle
    else x.item.line.getD (x.item.line.length - (x.endsAt - osc + Config.symbolNs - 1) / Config.symbolNs) .idle

/-- Symbols of a frame: FRAME-START, kind, L, body, two check bytes, FRAME-END (04 section 4.2). -/
def Frame.symbols : Frame → Nat
  | .accept .. => 13
  | .wait _ => 10
  | .refuse .. => 11
  | .mark .. => 19
  | .echo .. => 8
  | .notice .. => 12

/-- At least two IDLE symbols have been sent since the end of the last frame or boundary symbol (04:R70). -/
def Port.guardPassed (r : Port) (osc : Nat) : Bool :=
  match r.tx with
  | none => true
  | some x => x.endsAt + Config.guardNs ≤ osc

/-- The frame, sent from `now`, would end no later than every boundary symbol scheduled (04:R70, log entry 19). -/
def Port.fits (r : Port) (f : Frame) (now : SiteNs) : Bool :=
  r.schedule.all fun e => reached e.instant ((now + f.symbols * Config.symbolNs) % Config.siteMod)

/-- The report of a departure, if its kind has one (04:R70). -/
def Frame.report (f : Frame) (sent : Capture) : List DepartureReport :=
  match f with
  | .mark l seconds .. => [.mark l seconds]
  | .echo l n => [.echo l n sent]
  | .accept .. | .wait _ | .refuse .. | .notice .. => []

/-- Frame `f` leaves the head of the queue, `rest` staying (04:R70). -/
def Port.depart (r : Port) (f : Frame) (rest : List Frame) (osc : Nat) (sent : Capture) : Port :=
  { r with
    queue := rest
    tx := some ⟨.frame f, osc + f.symbols * Config.symbolNs⟩
    reports := r.reports ++ f.report sent }

/-- The head of the queue departs when the guard and the fit allow; a queue that held 16 frames has room (04:R70, R73). -/
def State.frameDeparts (s : State) (p : PortIx) : State :=
  let r := s.port p
  match r.queue with
  | [] => s
  | f :: rest =>
    if r.state = .opened && r.guardPassed s.clock.osc && r.fits f s.tb.siteTime then
      let t := s.setPort p (r.depart f rest s.clock.osc s.capture)
      if r.queue.length = Config.queueMax then t.roomInQueue p else t
    else s

/-- Entry `a` of a schedule goes before `b`: earlier instant, then lower lease id (04:R72). -/
def SymbolEntry.before (a b : SymbolEntry) : Bool :=
  siteDiff a.instant b.instant < 0 || (a.instant = b.instant && a.lease < b.lease)

/-- The scheduled symbol whose instant site time has reached and that goes first (04:R72). -/
def Port.dueSymbol (r : Port) (now : SiteNs) : Option SymbolEntry :=
  (r.schedule.filter fun e => reached now e.instant).foldl
    (fun best e =>
      match best with
      | none => some e
      | some b => if e.before b then some e else some b)
    none

/-- The transmitter is free for a boundary symbol (04:R72). -/
def Port.txFree (r : Port) (osc : Nat) : Bool :=
  match r.tx with
  | none => true
  | some x => x.endsAt ≤ osc

/-- Symbol `e` is emitted: the lease's symbol record, and the report of a first emission (04:R72). -/
def State.emitSymbol (s : State) (p : PortIx) (e : SymbolEntry) : State :=
  let t := s.updPort p fun r =>
    { r with schedule := r.schedule.erase e, tx := some ⟨.symbol e.lease, s.clock.osc + Config.symbolNs⟩ }
  match s.lease e.lease with
  | none => t
  | some x =>
    let u := t.updLease e.lease fun y => { y with symbol := some ⟨e.seconds, e.step⟩ }
    if x.symbol.isNone then u.firstSymbol x.offer else u

/-- A scheduled boundary symbol falls due and the transmitter is free (04:R72). -/
def State.symbolDue (s : State) (p : PortIx) : State :=
  match (s.port p).dueSymbol s.tb.siteTime with
  | none => s
  | some e => if (s.port p).txFree s.clock.osc then s.emitSymbol p e else s

/-! ### The site second boundary (01:R3) -/

/-- The MARK for second `n` + 1 of lease `x` in slot `l` (07:R121). -/
def State.markFrame (s : State) (n : Nat) (l : LeaseIx) (x : Lease) : Frame :=
  .mark l ((n + 1) % Config.secMod) (x.compensation.getD 0) s.tb.siteClass (!s.tb.siteClass.meets x.required)
    s.tb.state.inHoldover

/-- Queue the MARK of every IN-SERVICE lease (07:R121). -/
def State.queueMarks (s : State) (n : Nat) : State :=
  forAll
    (fun l t =>
      match t.lease l with
      | none => t
      | some x => if x.state = .inService then t.offer x.port (t.markFrame n l x) else t)
    s

/-- The schedule entry that opens second `n` + 1 for a lease (04:R71). -/
def symbolFor (n : Nat) (l : LeaseIx) (x : Lease) (step : BitVec 8) : SymbolEntry where
  lease := l
  instant := ((n + 1) * Config.secNs + Config.siteMod - x.compensation.getD 0) % Config.siteMod
  seconds := (n + 1) % Config.secMod
  step := step

/-- Schedule the boundary symbol of every IN-SERVICE lease (04:R71). -/
def State.scheduleSymbols (s : State) (n : Nat) : State :=
  forAll
    (fun l t =>
      match t.lease l with
      | none => t
      | some x =>
        if x.state = .inService then
          t.updPort x.port fun r => { r with schedule := r.schedule ++ [symbolFor n l x t.tb.stepNumber] }
        else t)
    s

/-- The boundary for second `n` (01:R3, log entry 26). -/
def State.reachSecond (s : State) (n : Nat) : State :=
  let t := s.updTb fun b => { b with nextSecond := (n + 1) % Config.secMod, lastBoundary := n }
  ((t.queueMarks n).scheduleSymbols n).checkConsistency

/-- The boundary, when site time has reached its second (01:R3); one reached by the slew of a sample sees the class and the state that
the whole sample leaves (log entry 50). -/
def State.boundaryIfDue (s : State) : State := if s.tb.secondReached then s.reachSecond s.tb.boundarySecond else s

/-! ### Room announcements (09:R158) -/

/-- The standing alarms of a lease, raised again (07:R138). -/
def State.raiseStandings (s : State) (l : LeaseIx) (x : Lease) : State :=
  let s₁ := if x.state = .pending then s.raiseLease l .leasePending none else s
  let s₂ := if x.standing s.tb.siteClass = some false then s₁.raiseLease l .leaseDegraded none else s₁
  let s₃ := if x.state = .suspended then
      s₂.raiseLease l .leaseSuspended (x.suspendCause.map Detail.suspended) else s₂
  let s₄ := if x.delayJump then s₃.raiseLease l .delayJump none else s₃
  if x.report.severity.isSome then s₄.reportAlarm l x else s₄

/-- The lease controller takes a room announcement (07:R138, 05:R101). -/
def State.roomLeases (s : State) : State :=
  let t := forAll
    (fun l u =>
      match u.lease l with
      | none => u
      | some x => u.raiseStandings l x)
    s
  if Config.tableLeasesMax ≤ s.liveCount then t.raise { kind := .leaseTableFull, subject := 0 } else t

/-- The reference unit takes a room announcement (02:R49). -/
def State.roomReferences (s : State) : State :=
  forAll
    (fun i t =>
      match (t.ref i).state with
      | .faulted => t.raiseRef .refFaulted i
      | .lockedOut => t.raiseRef .refLockedOut i
      | .disabled | .qualifying | .usable => t)
    s

/-- The ports take a room announcement (04:R83). -/
def State.roomPorts (s : State) : State :=
  forAll
    (fun p t =>
      match (t.port p).state with
      | .down => t.raisePort p .portDown
      | .conflict => t.raisePort p .portConflict
      | .closed | .opened => t)
    s

/-- The outputs take a room announcement (08:R147). -/
def State.roomOutputs (s : State) : State :=
  forAll
    (fun i t => if (t.out i).state = .squelched then t.raise { kind := .outputSquelched, subject := i.val } else t) s

/-- The timebase takes a room announcement (01:R22). -/
def State.roomTimebase (s : State) : State :=
  match s.tb.state with
  | .freeRun => s.raiseFreeRun
  | .acquiring | .locked | .holdover | .assisted | .spent => s.raiseHoldover s.tb.state

/-- A block's answer to a room announcement (09:R158). -/
def State.roomAt (s : State) : Block → State
  | .timebase => s.roomTimebase
  | .referenceUnit => s.roomReferences
  | .leaseController => s.roomLeases
  | .ports => s.roomPorts
  | .outputs => s.roomOutputs

/-- The announcement is delivered to a block, if one waits for it (09:R158). -/
def State.takeRoom (s : State) (b : Block) : State :=
  if s.alarm.rooms.contains b then (s.setAlarm { s.alarm with rooms := s.alarm.rooms.erase b }).roomAt b else s

/-! ### Reset (10:R177) -/

/-- Every part of the state after reset; the commands waiting stay (log entry 22). -/
def State.restarted (s : State) : State := { State.reset with pending := s.pending }

/-! ### Commands -/

/-- RESET_N falls: every block takes its values after reset, and is held there (10:R177). -/
def execResetN (s : State) : Host.Outcome State Fault Refusal := .next { s.restarted with resetLow := true }

/-- RESET_N rises: the part leaves reset, the run counter and site time starting from 0 (10:R177). With RESET_N already high only
time passes. -/
def execResetNRelease (dt : Nat) (s : State) : Host.Outcome State Fault Refusal :=
  .next (if s.resetLow then s.restarted else (s.elapse dt).settle)

/-- SITE_SECOND_BOUNDARY (01:R3). -/
def execSiteSecondBoundary (dt : Nat) (s : State) : Host.Outcome State Fault Refusal := event dt State.boundaryIfDue s

/-- FRAME_DEPARTURE (04:R70). -/
def execFrameDeparture (dt : Nat) (p : PortIx) (s : State) : Host.Outcome State Fault Refusal :=
  event dt (fun t => t.frameDeparts p) s

/-- BOUNDARY_SYMBOL_EMISSION (04:R72). -/
def execBoundarySymbolEmission (dt : Nat) (p : PortIx) (s : State) : Host.Outcome State Fault Refusal :=
  event dt (fun t => t.symbolDue p) s

/-- ROOM_ANNOUNCEMENT (09:R158). -/
def execRoomAnnouncement (dt : Nat) (b : Block) (s : State) : Host.Outcome State Fault Refusal :=
  event dt (fun t => t.takeRoom b) s

end Sys2Proof.Machine
end

