-- ==== Sys2Proof/Machine/Lanes.lean ====
section
/-! DEFINITION. Lane receivers: lock, the assembly of frames from the symbols of LRXn, the delivery of a frame (04:R67 to R69, R77), and
the commands LANE_LOCK_GAINED, LANE_LOCK_LOST, JOIN, RENEW, LEAVE, REPORT, PEER_MARK, ECHO_BACK, HUB_FRAME_RECEIVED. -/
namespace Sys2Proof.Machine
open Sys2Proof

/-! ### One symbol at a receiver (04:R67, R68) -/

/-- What a symbol brings besides its count: lock gained or lost, or a frame that passes 04:R68, with its capture. -/
inductive LaneEvent where
  | quiet | gained | lost
  | frame (f : LaneFrame) (captured : Capture)
  deriving DecidableEq, Repr

/-- A symbol counted without lock, `valid` or not (04:R67). The symbol that completes lock only gains it (log entry 57). -/
def LaneReceiver.seek (r : LaneReceiver) (valid : Bool) : LaneReceiver × LaneEvent :=
  if valid = false then ({ r with run := 0 }, .quiet)
  else if r.run + 1 < Config.lockGainRun then ({ r with run := r.run + 1 }, .quiet)
  else (.idle, .gained)

/-- A symbol that is not valid, counted with lock: the sixteenth in a row loses it, and the frame still open with it (04:R67, R68). One
before that leaves an open frame as it is (log entry 58). -/
def LaneReceiver.miss (r : LaneReceiver) : LaneReceiver × LaneEvent :=
  if r.run + 1 < Config.lockLossRun then ({ r with run := r.run + 1 }, .quiet) else (.idle, .lost)

/-- A data symbol joins the frame still open; outside a frame it is in none (04:R68). -/
def RxFrame.join (f : RxFrame) (b : Byte) : RxFrame := { f with data := f.data ++ [b] }

/-- What the FRAME-END of an open frame brings (04:R68). -/
def RxFrame.closed (f : RxFrame) : LaneEvent :=
  match frameOfData f.data with
  | none => .quiet
  | some g => .frame g f.captured

/-- A line symbol taken with lock, `captured` being what is captured as it arrives (04:R68): FRAME-START begins a frame, cutting one
still open; FRAME-END ends it; any other control symbol discards it. -/
def LaneReceiver.accept (r : LaneReceiver) (captured : Capture) : LineSymbol → LaneReceiver × LaneEvent
  | .frameStart => (⟨0, some ⟨captured, []⟩⟩, .quiet)
  | .data b => (⟨0, r.frame.map fun f => f.join b⟩, .quiet)
  | .frameEnd => (.idle, (r.frame.map RxFrame.closed).getD .quiet)
  | .idle | .boundary _ => (.idle, .quiet)

/-- A symbol arrives at a receiver whose lock is `up` (04:R67, R68). -/
def LaneReceiver.take (r : LaneReceiver) (up : Bool) (captured : Capture) (x : RxSymbol) : LaneReceiver × LaneEvent :=
  if up then
    match x with
    | none => r.miss
    | some y => r.accept captured y
  else r.seek x.isSome

/-! ### The delivery of a frame (04:R68, R69) -/

/-- The block that takes a frame acts on it: a hub kind is a conflict; a radio unit's frame passes the tests of its fields and of its
lease id, or is discarded (04:R68, R69, R79). -/
def State.deliver (s : State) (p : PortIx) (captured : Capture) : LaneFrame → State
  | .join body => s.joinReceived p body
  | .renew lease => s.forAddressed p lease fun l u => u.updLease l Lease.renewed
  | .leave lease => s.forAddressed p lease fun l u => u.retireNotice l retiredLeft none
  | .report body => if reportInRange body then s.forAddressed p body.lease fun l u => u.takeReport body l else s
  | .peerMark body => if body.valid.toNat ≤ 1 then s.forAddressed p body.lease fun l u => u.takePeerMark body l else s
  | .echoBack body =>
    if body.number.toNat ≤ 3 then s.forAddressed p body.lease fun l u => u.echoBack p l body.number.toNat captured else s
  | .hub _ _ => s.hubFrame p

/-- What a symbol brings acts on the part. -/
def State.actLane (s : State) (p : PortIx) : LaneEvent → State
  | .quiet => s
  | .gained => s.lockGained p
  | .lost => s.lockLost p
  | .frame f captured => s.deliver p captured f

/-- A symbol arrives on LRXn of port `p`. -/
def State.hearSymbol (s : State) (p : PortIx) (captured : Capture) (x : RxSymbol) : State :=
  let r := (s.lane p).take (s.port p).linkUp captured x
  (s.setLane p r.1).actLane p r.2

/-- Symbols arrive in order; `captureAt k` is what is captured as one arrives that `k` more follow. -/
def State.hear (p : PortIx) (captureAt : Nat → Capture) : List RxSymbol → State → State
  | [], s => s
  | x :: rest, s => State.hear p captureAt rest (s.hearSymbol p (captureAt rest.length) x)

/-- What is captured `after` symbols before the end of a command that acts `dt` ns of the oscillator after `s`; of a symbol that
reaches back before `s`, what stands at `s` (04:R68, log entry 36). -/
def State.captureAgo (s : State) (dt after : Nat) : Capture := (s.elapse (dt - after * Config.symbolNs)).capture

/-- A command of a lane: its symbols arrive 8 ns apart, the last one at the command's instant (04:R67, log entry 36). -/
def laneEvent (dt : Nat) (p : PortIx) (symbols : List RxSymbol) (s : State) : Host.Outcome State Fault Refusal :=
  event dt (State.hear p (s.captureAgo dt) symbols) s

/-- A command of a lane that hears a frame, after what it hears before it. -/
def frameEvent (dt : Nat) (lane : Lane) (f : LaneFrame) (s : State) : Host.Outcome State Fault Refusal :=
  laneEvent dt lane.port (lane.heard ++ f.line.map some) s

/-! ### Commands -/

/-- LANE_LOCK_GAINED: a valid symbol arrives, lock being gained where it completes the count (04:R67, R77). -/
def execLaneLockGained (dt : Nat) (symbol : LaneSymbol) (s : State) : Host.Outcome State Fault Refusal :=
  laneEvent dt symbol.port (symbol.heard ++ [some symbol.last]) s

/-- LANE_LOCK_LOST: a symbol that is not valid arrives, lock being lost where it completes the count (04:R67, R77, R78). -/
def execLaneLockLost (dt : Nat) (lane : Lane) (s : State) : Host.Outcome State Fault Refusal :=
  laneEvent dt lane.port (lane.heard ++ [none]) s

/-- JOIN (05:R89 to R96). -/
def execJoin (dt : Nat) (lane : Lane) (body : JoinBody) (s : State) : Host.Outcome State Fault Refusal :=
  frameEvent dt lane (.join body) s

/-- RENEW (07:R124). -/
def execRenew (dt : Nat) (lane : Lane) (lease : Byte) (s : State) : Host.Outcome State Fault Refusal :=
  frameEvent dt lane (.renew lease) s

/-- LEAVE (07:R127). -/
def execLeave (dt : Nat) (lane : Lane) (lease : Byte) (s : State) : Host.Outcome State Fault Refusal :=
  frameEvent dt lane (.leave lease) s

/-- REPORT (07:R131). -/
def execReport (dt : Nat) (lane : Lane) (body : ReportBody) (s : State) : Host.Outcome State Fault Refusal :=
  frameEvent dt lane (.report body) s

/-- PEER_MARK (07:R130, 02:R33). -/
def execPeerMark (dt : Nat) (lane : Lane) (body : PeerMarkBody) (s : State) : Host.Outcome State Fault Refusal :=
  frameEvent dt lane (.peerMark body) s

/-- ECHO_BACK (06:R108). -/
def execEchoBack (dt : Nat) (lane : Lane) (lease number : Byte) (s : State) : Host.Outcome State Fault Refusal :=
  frameEvent dt lane (.echoBack ⟨lease, number⟩) s

/-- HUB_FRAME_RECEIVED, whichever hub kind it is (04:R79). -/
def execHubFrameReceived (dt : Nat) (lane : Lane) (frame : HubFrame) (s : State) : Host.Outcome State Fault Refusal :=
  frameEvent dt lane (.hub frame.kind frame.body) s

end Sys2Proof.Machine
end

