-- ==== Sys2Proof/Machine/Operands.lean ====
section
/-! DEFINITION. Operands of the management port: keys, records spelled out as field lists, ranges, and the walks of the tables
(10:R169 to R172, 09:R159). -/
namespace Sys2Proof.Machine
open Sys2Proof

/-! ### Codes of named values: positions in the field's range (10:R171, log entry 14) -/

def StepPolicy.code : StepPolicy → Nat
  | .stepAny => 0 | .slewWhileServing => 1
def RefState.code : RefState → Nat
  | .disabled => 0 | .qualifying => 1 | .usable => 2 | .faulted => 3 | .lockedOut => 4
def edgeCode : Edge → Nat
  | .rising => 0 | .falling => 1
def FaultCause.position : FaultCause → Nat
  | .missing => 0 | .glitch => 1 | .labelMissing => 2 | .labelMismatch => 3 | .reported => 4 | .frequency => 5
  | .wander => 6 | .outvoted => 7 | .sourceLost => 8
def Decision.code : Decision → Nat
  | .auto => 0 | .ask => 1 | .deny => 2
def LeaseState.code : LeaseState → Nat
  | .pending => 0 | .measuring => 1 | .inService => 2 | .suspended => 3
def Offer.code : Offer → Nat
  | .none => 0 | .refused => 1 | .bound .six => 2 | .bound .seven => 3
def SuspendCause.position : SuspendCause → Nat
  | .unreachable => 0 | .unstablePath => 1 | .conflict => 2 | .source => 3 | .host => 4
def NoticeKind.position : NoticeKind → Nat
  | .renewDue => 0 | .degraded => 1 | .restored => 2 | .step => 3 | .suspended => 4 | .retired => 5
def RefuseReason.position : RefuseReason → Nat
  | .denied => 0 | .full => 1 | .portFull => 2 | .duplicate => 3 | .approvalTimeout => 4 | .host => 5 | .notServing => 6
def PortState.code : PortState → Nat
  | .closed => 0 | .down => 1 | .opened => 2 | .conflict => 3
def Origin.code : Origin → Nat
  | .injected => 0 | .measuring => 1 | .routine => 2
def EchoStanding.code : EchoStanding → Nat
  | .waiting => 0 | .departed .. | .refused _ => 1
def OutState.code : OutState → Nat
  | .off => 0 | .running => 1 | .squelched => 2
def Level.code : Level → Nat
  | .high => 0 | .low => 1
def AlarmState.code : AlarmState → Nat
  | .activeNew => 0 | .activeSeen => 1 | .clearedUnseen => 2
def LineSource.code : LineSource → Nat
  | .severityAtLeast => 0 | .kindActive => 1 | .timebaseIn => 2 | .classWorseThan => 3 | .referenceSelected => 4
  | .constant => 5
def LineSource.ofCode (n : Nat) : Option LineSource :=
  match n with
  | 0 => some .severityAtLeast | 1 => some .kindActive | 2 => some .timebaseIn | 3 => some .classWorseThan
  | 4 => some .referenceSelected | 5 => some .constant | _ => none
def Polarity.code : Polarity → Nat
  | .activeHigh => 0 | .activeLow => 1
def Setup.code : Setup → Nat
  | .opened => 0 | .closed => 1
/-- ASSERTED before DEASSERTED, ACTIVE before INACTIVE, SERVED before DEGRADED: the first value of the range is 0. Level before
momentary too, for which 09:R151 writes no range (log entry 14). -/
def firstCode (b : Bool) : Nat := if b then 0 else 1

/-- The value of an alarm record's detail (09:R151, log entry 14). -/
def Detail.value : Detail → Int
  | .cause c => c.position
  | .suspended c => c.position
  | .index i => i
  | .stepNs n => n
  | .sequence n => n
  | .reason r => r.position
  | .tag t => t.toNat
  | .kind k => k.index.val

/-! ### Spelling fields (10:R171) -/

/-- A field with an unsigned value. -/
def nat (id v : Nat) : List Field := [⟨BitVec.ofNat 8 id, BitVec.ofNat 32 v⟩]
/-- A field with a signed value, in two's complement. -/
def int (id : Nat) (v : Int) : List Field := [⟨BitVec.ofNat 8 id, BitVec.ofInt 32 v⟩]
/-- Yes is 1, no is 0. -/
def flag (id : Nat) (b : Bool) : List Field := nat id (if b then 1 else 0)
/-- A value wider than 32 bits: two ids, the high part first. -/
def wide (id v : Nat) : List Field := nat id (v / 4294967296) ++ nat (id + 1) (v % 4294967296)
/-- A signed value of 64 bits. -/
def wideInt (id : Nat) (v : Int) : List Field := wide id (BitVec.ofInt 64 v).toNat
/-- An absent field is left out. -/
def opt {α : Type} (o : Option α) (f : α → List Field) : List Field :=
  match o with
  | none => []
  | some a => f a
/-- A field that does not apply is left out. -/
def applies (b : Bool) (fs : List Field) : List Field := if b then fs else []
/-- A site time: seconds in two ids, then nanoseconds. -/
def siteFields (id : Nat) (t : SiteNs) : List Field := wide id (t / Config.secNs) ++ nat (id + 2) (t % Config.secNs)

/-- Restore remaining (03:R58): the due second less the run counter; 0 when the due second is reached and REVERTIVE_SWITCH is not yet
taken, a value 03:R58 gives no range for (log entry 49). -/
def State.restoreRemaining (s : State) : Option Nat :=
  s.tb.restore.map fun i => s.restoreDue i - s.tb.runCounter

/-- The timebase record (01:R4, R5; 03:R58). -/
def State.timebaseFields (s : State) : List Field :=
  let t := s.tb
  nat 1 t.state.index ++ nat 2 t.siteClass.code ++ opt t.selected (fun i => nat 3 i.val) ++
  opt t.forced (fun i => nat 4 i.val) ++ opt t.assist (fun l => nat 5 l.entry.val) ++ flag 6 t.revertive ++
  nat 7 t.waitToRestore ++ nat 8 t.stepPolicy.code ++ nat 9 t.stepThreshold ++ nat 10 t.slewLimit ++
  nat 11 t.lockThreshold ++ nat 12 t.wanderLimit ++ nat 13 t.minLockTime ++ nat 14 t.thrA ++ nat 15 t.thrB ++
  nat 16 t.thrC ++ nat 17 t.thrD ++ nat 18 t.g0 ++ nat 19 t.aging ++ nat 20 t.assistedRate ++
  siteFields 21 t.siteTime ++ wide 24 t.runCounter ++ flag 26 t.e.isSome ++ opt t.e (nat 27) ++ int 28 t.freqCorr ++
  nat 29 t.lockRun ++ nat 30 t.unlockRun ++ nat 31 t.lockedTime ++ opt t.h (nat 32) ++ wide 33 t.lastBoundary ++
  nat 35 t.stepNumber.toNat ++ opt t.restore (fun i => nat 36 i.val) ++ opt s.restoreRemaining (nat 37)

/-- A reference entry (02:R26, R27). -/
def State.referenceFields (s : State) (i : RefIx) : List Field :=
  let e := s.ref i
  nat 1 e.state.code ++ flag 2 e.enabled ++ nat 3 e.priority ++ applies (phaseCapable i) (nat 4 e.declaredError) ++
  applies (i.val < 4) (int 5 e.inputDelay ++ nat 6 (edgeCode e.edge)) ++ nat 7 e.qualifyTarget ++ nat 8 e.holdOff ++
  applies (!phaseCapable i) (nat 9 e.freqLimit) ++ opt e.faultCause (fun c => nat 10 c.position) ++ nat 11 e.faultScore ++
  opt e.usableSince (wide 12) ++ opt e.boundLease (fun l => nat 14 l.val) ++ nat 15 e.progress ++
  opt e.holdOffRemaining (nat 16) ++ opt e.lastOffset (fun o => wideInt 17 o.value) ++ opt e.lastFreq (int 19) ++
  opt e.pendingLabel (fun b => wide 20 b.seconds.toNat ++ flag 22 b.valid)

/-- A live admission entry (05:R85). -/
def Admission.fields (a : Admission) : List Field :=
  nat 1 a.tagValue.toNat ++ nat 2 a.tagMask.toNat ++ nat 3 a.ports.toNat ++ nat 4 a.decision.code ++
  nat 5 a.bestClass.code ++ nat 6 a.grantedCredit ++ flag 7 a.offerAllowed ++ nat 8 a.approvalWait

/-- The status words of a report slot, from id 18 on (10:R171). -/
def wordFields (words : List Word) : List Field := words.zipIdx.map fun w => ⟨BitVec.ofNat 8 (18 + w.2), w.1⟩

/-- A live lease (07:R117). -/
def Lease.fields (x : Lease) (cls : SiteClass) : List Field :=
  nat 1 x.state.code ++ nat 2 x.tag.toNat ++ nat 3 x.port.val ++ nat 4 x.required.code ++ nat 5 x.grantedCredit ++
  nat 6 x.turnaround ++ opt x.compensation (nat 7) ++ opt x.lastMeasured (wide 8) ++ nat 10 x.rejected ++
  applies x.delayJump (nat 11 0) ++ nat 12 x.offer.code ++ opt x.suspendCause (fun c => nat 13 c.position) ++
  opt x.deadline (wide 14) ++ nat 16 x.admission.val ++ nat 17 ((x.report.severity.map Severity.code).getD 0) ++
  wordFields x.report.words ++ nat 24 x.report.sequence.toNat ++ opt x.credit (nat 25) ++
  opt (x.standing cls) (fun b => nat 26 (firstCode b)) ++
  opt x.notice (fun n => nat 27 n.kind.position ++ int 28 n.value)

/-- A port record (04:R75, 06:R102). -/
def Port.fields (r : Port) : List Field :=
  let c := r.scanner
  nat 1 r.state.code ++ flag 2 r.linkUp ++ int 3 r.asymmetry ++ nat 4 r.spreadLimit ++ nat 5 r.scanInterval ++
  nat 6 r.liveLeases ++ nat 7 r.queue.length ++ opt c.injection (fun l => nat 8 l.val) ++
  opt c.batch (fun b => nat 9 b.lease.val ++ nat 10 b.origin.code) ++
  nat 11 ((c.batch.map fun b => b.samples.length).getD 0) ++ nat 12 ((c.batch.map fun b => b.timeouts).getD 0) ++
  opt c.batch (fun b => nat 13 b.number.toNat ++ nat 14 b.standing.code) ++
  opt c.roundRobin (fun l => nat 15 l.val) ++ opt c.lastRoutine (wide 16)

/-- An output record (08:R140). Fall remaining reads 0 once it has run out and OUTPUT_FALL is yet to come (log entry 56). -/
def Output.fields (o : Output) : List Field :=
  nat 1 o.state.code ++ flag 2 o.enabled ++ nat 3 o.n ++ nat 4 o.phase ++ nat 5 o.width ++ nat 6 o.minClass.code ++
  nat 7 o.line.code ++ opt o.nextEdge (siteFields 8) ++ opt o.fallRemaining (nat 11) ++
  opt o.plan (fun p => nat 12 p.n ++ nat 13 p.phase ++ nat 14 p.width) ++ flag 15 o.changeWaiting

/-- An alarm record (09:R149). -/
def AlarmRecord.fields (r : AlarmRecord) : List Field :=
  nat 1 r.state.code ++ nat 2 r.kind.index.val ++ nat 3 r.kind.subjectType ++ nat 4 r.subject ++
  opt r.tag (fun t => nat 5 t.toNat) ++ nat 6 r.severity.code ++ opt r.detail (fun d => int 7 d.value) ++ nat 8 r.count ++
  wide 9 r.firstRaised ++ wide 11 r.lastChanged

/-- A record of the alarm kind table (09:R151); style is 0 for level and 1 for momentary (log entry 14). -/
def KindRecord.fields (k : KindRecord) (kind : AlarmKind) : List Field :=
  nat 1 kind.index.val ++ nat 2 kind.subjectType ++ nat 3 (firstCode (!kind.momentary)) ++
  opt k.severity (fun v => nat 4 v.code)

/-- An alarm line record (09:R162). -/
def AlarmLine.fields (l : AlarmLine) : List Field :=
  nat 1 l.source.code ++ nat 2 l.argument.toNat ++ flag 3 l.includeAcked ++ nat 4 l.polarity.code ++
  nat 5 (firstCode l.active)

/-- The alarm unit record (09:R160). -/
def AlarmUnit.fields (a : AlarmUnit) : List Field :=
  nat 1 a.threshold.code ++ nat 2 a.recordsHeld ++ nat 3 (firstCode a.attn)

/-- The status summary (10:R176). -/
def State.statusFields (s : State) : List Field :=
  nat 1 s.tb.state.index ++ nat 2 s.tb.siteClass.code ++ flag 3 s.tb.e.isSome ++ opt s.tb.e (nat 4) ++
  opt s.tb.selected (fun i => nat 5 i.val) ++ nat 6 s.mgmt.setup.code ++ nat 7 s.liveCount ++ nat 8 s.alarm.recordsHeld ++
  wide 9 s.tb.runCounter ++ siteFields 11 s.tb.siteTime ++ nat 14 (firstCode s.alarm.attn)

/-- The fields of a group: ids 1 to 24 in group 0, 25 to 48 in group 1 (10:R171). -/
def inGroup (group : Byte) (fs : List Field) : List Field :=
  if group = 0#8 then fs.filter fun f => f.id.toNat ≤ 24 else fs.filter fun f => 25 ≤ f.id.toNat

/-! ### Records by table and key index (10:R170) -/

/-- The key indices of a table; ALARM-KIND's are its kind codes (10:R170). -/
def tableKeys : Table → List Nat
  | .timebase | .alarmUnit => [0]
  | .reference | .admission | .port | .alarmLine => List.range 8
  | .lease => List.range 32
  | .output => List.range 4
  | .alarm => List.range 48
  | .alarmKind => (List.range 20).map fun k => k + 1

/-- The fields of the record at a key index; none when there is no record (10:R172). -/
def State.recordFields (s : State) (t : Table) (k : Nat) : Option (List Field) :=
  match t with
  | .timebase => if k = 0 then some s.timebaseFields else none
  | .reference => (toIx 8 k).map s.referenceFields
  | .admission => (toIx 8 k).bind fun i => (s.admissionSlot i).entry.map Admission.fields
  | .lease => (toIx 32 k).bind fun l => (s.lease l).map fun x => x.fields s.tb.siteClass
  | .port => (toIx 8 k).map fun p => (s.port p).fields
  | .output => (toIx 4 k).map fun i => (s.out i).fields
  | .alarm => (toIx 48 k).bind fun i => s.alarm.slots[i].record.map AlarmRecord.fields
  | .alarmKind =>
    match k with
    | 0 => none
    | n + 1 => (AlarmKind.ofIndex n).map fun kind => s.alarm.kinds[kind.index].fields kind
  | .alarmLine => (toIx 8 k).map fun i => s.alarm.lines[i].fields
  | .alarmUnit => if k = 0 then some s.alarm.fields else none

/-- The revision of the record or slot at a key index, 0 outside the table (10:R168). -/
def State.slotRevision (s : State) (t : Table) (k : Nat) : Rev :=
  match t with
  | .timebase => if k = 0 then s.tb.rev else 0
  | .reference => ((toIx 8 k).map fun i => (s.ref i).rev).getD 0
  | .admission => ((toIx 8 k).map fun i => (s.admissionSlot i).rev).getD 0
  | .lease => ((toIx 32 k).map fun l => (s.slot l).rev).getD 0
  | .port => ((toIx 8 k).map fun p => (s.port p).rev).getD 0
  | .output => ((toIx 4 k).map fun i => (s.out i).rev).getD 0
  | .alarm => ((toIx 48 k).map fun i => s.alarm.slots[i].rev).getD 0
  | .alarmKind =>
    match k with
    | 0 => 0
    | n + 1 => ((AlarmKind.ofIndex n).map fun kind => s.alarm.kinds[kind.index].rev).getD 0
  | .alarmLine => ((toIx 8 k).map fun i => s.alarm.lines[i].rev).getD 0
  | .alarmUnit => if k = 0 then s.alarm.thresholdRev else 0

/-- The key index holds a record (10:R169). -/
def State.recordAt (s : State) (t : Table) (k : Nat) : Bool := (s.recordFields t k).isSome

/-! ### Keys (10:R170) -/

/-- The index of an INDEX key: byte 12, the last of the key (10:R170, log entry 17). -/
def keyIndex (key : BitVec 64) : Nat := key.toNat % 256

/-- An INDEX key (10:R170). -/
def indexKey (k : Nat) : BitVec 64 := BitVec.ofNat 64 k

/-- Kind code, subject type and subject index of a record as one number, in key order (09:R159, 10:R170). -/
def AlarmRecord.keyNumber (r : AlarmRecord) : Nat := (r.kind.index.val + 1) * 65536 + r.kind.subjectType * 256 + r.subject

/-- The number of an ALARM-KEY key: its first three bytes (10:R170). -/
def alarmKeyNumber (key : BitVec 64) : Nat := key.toNat / 1099511627776

/-- The ALARM-KEY key of a record (10:R170). -/
def AlarmRecord.alarmKey (r : AlarmRecord) : BitVec 64 := BitVec.ofNat 64 (r.keyNumber * 1099511627776)

/-- Place in the attention order: severity descending, first raised, slot (09:R159). Site seconds are ordered as plain numbers here,
not across the wrap (log entry 5). -/
def attentionNumber (severity first slot : Nat) : Nat := (255 - severity) * 72057594037927936 + first * 256 + slot

/-- The place an ATTENTION key names: severity, first raised, slot (10:R170). -/
def attentionKeyNumber (key : BitVec 64) : Nat :=
  attentionNumber (key.toNat / 72057594037927936) (key.toNat / 256 % Config.secMod) (key.toNat % 256)

/-- The ATTENTION key of a record in a slot (10:R170). -/
def AlarmRecord.attentionKey (r : AlarmRecord) (slot : SlotIx) : BitVec 64 :=
  BitVec.ofNat 64 (r.severity.code * 72057594037927936 + r.firstRaised * 256 + slot.val)

/-- The number of the record in a slot, in key order or in attention order; none for a free slot (09:R159). -/
def AlarmUnit.orderNumber (a : AlarmUnit) (attention : Bool) (i : SlotIx) : Option Nat :=
  a.slots[i].record.map fun r =>
    if attention then attentionNumber r.severity.code r.firstRaised i.val else r.keyNumber

/-- The slot of the record with a given number in an order (10:R170). -/
def AlarmUnit.slotWith (a : AlarmUnit) (attention : Bool) (n : Nat) : Option SlotIx :=
  lowest fun i => a.orderNumber attention i = some n

/-- The first record of an order after a place, or the first of all (09:R159, 10:R172). -/
def AlarmUnit.nextInOrder (a : AlarmUnit) (attention : Bool) (place : Option Nat) : Option SlotIx :=
  ((List.finRange 48).foldl
    (fun best i =>
      match a.orderNumber attention i, best with
      | none, best => best
      | some n, none => if place.all (fun p => p < n) then some (i, n) else none
      | some n, some (j, m) => if place.all (fun p => p < n) && n < m then some (i, n) else some (j, m))
    none).map Prod.fst

/-- The first record of a table with a key index above a place, or the first of all (10:R172). -/
def State.nextIndex (s : State) (t : Table) (place : Option Nat) : Option Nat :=
  (tableKeys t).find? fun k => place.all (fun p => p < k) && s.recordAt t k

/-- The key index of the record that a key names, a free slot's included, by its form (10:R169, R170). -/
def State.keyNamed (s : State) (t : Table) (req : Request) : Option Nat :=
  if req.form = formIndex then
    if (tableKeys t).contains (keyIndex req.key) then some (keyIndex req.key) else none
  else if t = .alarm && req.form = formAlarmKey then
    (s.alarm.slotWith false (alarmKeyNumber req.key)).map fun i => i.val
  else if t = .alarm && req.form = formAttention then
    (s.alarm.slotWith true (attentionKeyNumber req.key)).map fun i => i.val
  else none

/-! ### Field values (10:R171) -/

/-- A value within a range, or a field refused. -/
def within (lo hi : Nat) (f : Field) : Option Nat :=
  if lo ≤ f.value.toNat && f.value.toNat ≤ hi then some f.value.toNat else none
/-- A signed value within plus and minus `m`, or a field refused. -/
def withinSigned (m : Int) (f : Field) : Option Int :=
  if -m ≤ f.value.toInt && f.value.toInt ≤ m then some f.value.toInt else none
/-- Yes or no, or a field refused. -/
def yesNo (f : Field) : Option Bool := (within 0 1 f).map fun v => v = 1
/-- No id is named twice (10:R171). -/
def namedOnce (fs : List Field) : Bool := (fs.map fun f => f.id).Nodup
/-- The id is named. -/
def named (fs : List Field) (id : Nat) : Bool := fs.any fun f => f.id.toNat = id

/-- Every named field put into a record in turn; none when one is refused, or an id is named twice (10:R171, R173). -/
def putFields {α : Type} (put : α → Field → Option α) (r : α) (fs : List Field) : Option α :=
  if namedOnce fs then fs.foldlM put r else none

end Sys2Proof.Machine
end

