-- ==== Sys2Proof/Machine/Requests.lean ====
section
/-! DEFINITION. The management port: transactions, how a request is taken, checked and answered (10:R165 to R170), and the commands
STATUS_POLL, ANSWER_TRANSACTION, UNKNOWN_REQUEST, LOOK, NEXT. -/
namespace Sys2Proof.Machine
open Sys2Proof

/-! ### Bytes on MISO (10 section 10.1, 10:R167) -/

/-- The status byte (10:R165). -/
def Mgmt.statusByte (m : Mgmt) : Byte :=
  if m.executing.isSome then 0x01#8 else if m.lastAnswer.isSome then 0x02#8 else 0x00#8

/-- The value of an answer code (10:R167). -/
def AnswerCode.value : AnswerCode → Nat
  | .done => 0 | .noSuch => 1 | .stale => 2 | .wrongState => 3 | .full => 4 | .badField => 5 | .setupClosed => 6
  | .unknownRequest => 7 | .notReady => 8

/-- A field's five bytes (10:R167). -/
def fieldBytes (f : Field) : List Byte := f.id :: beBytes 4 f.value.toNat

/-- An answer's bytes after the status byte (10:R167). -/
def Answer.bytes (a : Answer) : List Byte :=
  [BitVec.ofNat 8 a.code.value, a.kind, a.table, a.form, a.group] ++ beBytes 8 a.key.toNat ++
    [a.revision, BitVec.ofNat 8 a.fields.length] ++ (a.fields.map fieldBytes).flatten

/-- The bytes of an answer, status byte included: 16 + 5F (10:R167). -/
def Answer.length (a : Answer) : Nat := 16 + 5 * a.fields.length

/-- The answer of an answer transaction that finds none (10:R167). -/
def notReady : Answer where
  code := .notReady
  kind := 0
  table := 0
  form := 0
  group := 0
  key := 0
  revision := 0
  fields := []

/-- MISO in a transaction of `clocked` bytes: the status byte, `content`, then 0x00 (10:R165 to R167). -/
def misoBytes (status : Byte) (content : List Byte) (clocked : Nat) : List Byte :=
  (status :: content).take clocked ++ List.replicate (clocked - (content.length + 1)) 0#8

/-- A transaction shows the status byte and `content`. -/
def State.showMiso (s : State) (content : List Byte) (clocked : Nat) : State :=
  s.setMgmt { s.mgmt with miso := misoBytes s.mgmt.statusByte content clocked }

/-- A status poll (10:R165). -/
def State.statusPoll (s : State) (first : Byte) (extra : Nat) : State :=
  if first = 1#8 || first = 2#8 then s else s.showMiso [] (extra + 1)

/-- The answer that an answer transaction returns (10:R167). -/
def Mgmt.answerShown (m : Mgmt) : Answer := if m.executing.isSome then notReady else m.lastAnswer.getD notReady

/-- The last answer after an answer transaction: consumed when read in full (10:R167). -/
def Mgmt.answerLeft (m : Mgmt) (clocked : Nat) : Option Answer :=
  if m.executing.isSome then m.lastAnswer else m.lastAnswer.filter fun a => clocked < a.length

/-- An answer transaction (10:R167). -/
def State.answerTransaction (s : State) (clocked : Nat) : State :=
  let t := s.showMiso s.mgmt.answerShown.bytes clocked
  t.setMgmt { t.mgmt with lastAnswer := s.mgmt.answerLeft clocked }

/-! ### Taking a request (10:R166) -/

/-- The request is taken: none is in execution, and its length was clocked in (10:R166). -/
def State.takesRequest (s : State) (req : Request) : Bool :=
  s.mgmt.executing.isNone && requestLength req ≤ req.clocked

/-- A request transaction: taken, disregarded or discarded (10:R166). -/
def State.takeRequest (s : State) (x : Executing) : State :=
  let t := s.showMiso [] x.req.clocked
  if s.takesRequest x.req then t.setMgmt { t.mgmt with lastAnswer := none, executing := some x, takenAt := t.clock.osc } else t

/-- The request in execution takes effect, if it is the one named (10:R166, log entry 13). -/
def State.actRequest (s : State) (x : Executing) (act : Executing → State → State) : State :=
  if s.mgmt.executing = some x then act x s else s

/-- A request carried as far as the stage says (10:R166, log entry 13). -/
def State.carryRequest (s : State) (x : Executing) (stage : Stage) (act : Executing → State → State) : State :=
  match stage with
  | .taken => s.takeRequest x
  | .acts => s.actRequest x act
  | .whole => if s.takesRequest x.req then act x (s.takeRequest x) else s.takeRequest x

/-- A request command. -/
def request (dt : Nat) (x : Executing) (stage : Stage) (act : Executing → State → State) (s : State) :
    Host.Outcome State Fault Refusal :=
  event dt (fun t => t.carryRequest x stage act) s

/-! ### Answering (10:R166, R168) -/

/-- The answer is formed from the state as it stands once the request has acted, and the request ends (10:R166). -/
def State.reply (s : State) (a : State → Answer) : State :=
  let t := s.settle
  t.setMgmt { t.mgmt with executing := none, lastAnswer := some (a t) }

/-- An answer to request `x` (10:R167). The field group is the request's as sent, in an answer without a record too (log entry 16). -/
def Executing.answer (x : Executing) (code : AnswerCode) (table form : Byte) (key : BitVec 64) (rev : Rev)
    (fields : List Field) : Answer where
  code := code
  kind := x.kind
  table := table
  form := form
  group := x.req.group
  key := key
  revision := rev
  fields := fields

/-- The revision in an answer other than DONE (10:R168). -/
def State.refusalRevision (s : State) (x : Executing) (code : AnswerCode) : Rev :=
  if keyless x.kind then 0
  else match Table.ofCode x.table.toNat with
    | none => 0
    | some t =>
      match s.keyNamed t x.req with
      | none => 0
      | some k => if s.recordAt t k || code = .noSuch then s.slotRevision t k else 0

/-- An answer other than DONE: table and key of the request, no fields (10:R168). -/
def State.refuse (s : State) (x : Executing) (code : AnswerCode) : State :=
  s.reply fun t => x.answer code x.table x.req.form x.req.key (t.refusalRevision x code) []

/-- The key of an alarm record in a form (10:R170). -/
def State.alarmKeyIn (s : State) (form : Byte) (k : Nat) : BitVec 64 :=
  match toIx 48 k with
  | none => indexKey k
  | some i =>
    match s.alarm.slots[i].record with
    | none => indexKey k
    | some r => if form = formAlarmKey then r.alarmKey else if form = formAttention then r.attentionKey i else indexKey k

/-- DONE with the record at a key index, its key in the form given (10:R168, R170). -/
def State.doneForm (s : State) (x : Executing) (t : Table) (k : Nat) (form : Byte) : State :=
  s.reply fun u =>
    x.answer .done (BitVec.ofNat 8 t.code) form (if t = .alarm then u.alarmKeyIn form k else indexKey k)
      (u.slotRevision t k) (inGroup x.req.group ((u.recordFields t k).getD []))

/-- DONE with the record at a key index, in INDEX form (10:R168). -/
def State.done (s : State) (x : Executing) (t : Table) (k : Nat) : State := s.doneForm x t k formIndex

/-- DONE with index and new revision, no fields (10:R168). -/
def State.doneSlot (s : State) (x : Executing) (t : Table) (k : Nat) : State :=
  s.reply fun u => x.answer .done (BitVec.ofNat 8 t.code) formIndex (indexKey k) (u.slotRevision t k) []

/-- DONE with the status summary (10:R175, R176). -/
def State.doneStatus (s : State) (x : Executing) : State :=
  s.reply fun u => x.answer .done (BitVec.ofNat 8 Table.timebase.code) formIndex 0 u.tb.rev (inGroup x.req.group u.statusFields)

/-! ### Checks (10:R169) -/

/-- The first two checks of 10:R169, then `k`. -/
def State.checked (s : State) (x : Executing) (k : State → State) : State :=
  if requestKnown x.kind x.table x.req then (if 12 < x.req.count.toNat then s.refuse x .badField else k s) else s.refuse x .unknownRequest

/-- The third check, and the fourth for a kind that carries a revision; then `k` at the key index (10:R169). -/
def State.atRecord (s : State) (x : Executing) (t : Table) (fenced : Bool) (k : Nat → State → State) : State :=
  match s.keyNamed t x.req with
  | none => s.refuse x .noSuch
  | some i =>
    if s.recordAt t i then
      (if fenced && x.req.revision ≠ s.slotRevision t i then s.refuse x .stale else k i s)
    else s.refuse x .noSuch

/-- Act at a number that is an index below `n`. -/
def State.atIx (s : State) (n k : Nat) (f : Fin n → State → State) : State :=
  match toIx n k with
  | none => s
  | some i => f i s

/-! ### LOOK, NEXT and what the port does not know (10:R168, R172) -/

/-- UNKNOWN_REQUEST's effect: a request that the first check of 10:R169 turns away. -/
def actUnknown (x : Executing) (s : State) : State := s.refuse x .unknownRequest

/-- LOOK (10:R172). -/
def actLook (t : Table) (x : Executing) (s : State) : State :=
  s.checked x fun u => u.atRecord x t false fun k v => v.doneForm x t k x.req.form

/-- The record NEXT finds, and the form of its key in the answer (10:R172, R170, log entry 16). -/
def State.nextRecord (s : State) (t : Table) (req : Request) : Option (Nat × Byte) :=
  if req.form = formIndex then (s.nextIndex t (some (keyIndex req.key))).map fun k => (k, formIndex)
  else if t ≠ .alarm then (s.nextIndex t none).map fun k => (k, formIndex)
  else if req.form = formAlarmKey then
    (s.alarm.nextInOrder false (some (alarmKeyNumber req.key))).map fun i => (i.val, formAlarmKey)
  else if req.form = formStartKey then (s.alarm.nextInOrder false none).map fun i => (i.val, formAlarmKey)
  else if req.form = formAttention then
    (s.alarm.nextInOrder true (some (attentionKeyNumber req.key))).map fun i => (i.val, formAttention)
  else (s.alarm.nextInOrder true none).map fun i => (i.val, formAttention)

/-- NEXT (10:R172). -/
def actNext (t : Table) (x : Executing) (s : State) : State :=
  s.checked x fun u =>
    match u.nextRecord t x.req with
    | none => u.refuse x .noSuch
    | some r => u.doneForm x t r.1 r.2

/-! ### Commands -/

/-- STATUS_POLL (10:R165). -/
def execStatusPoll (dt : Nat) (first : Byte) (extra : Nat) (s : State) : Host.Outcome State Fault Refusal :=
  event dt (fun t => t.statusPoll first extra) s

/-- ANSWER_TRANSACTION (10:R167). -/
def execAnswerTransaction (dt clocked : Nat) (s : State) : Host.Outcome State Fault Refusal :=
  event dt (fun t => t.answerTransaction clocked) s

/-- UNKNOWN_REQUEST (10:R168, R169). A request that passes the first check is another command's, and only time passes. -/
def execUnknownRequest (dt : Nat) (kind table : Byte) (req : Request) (stage : Stage) (s : State) :
    Host.Outcome State Fault Refusal :=
  if requestKnown kind table req then event dt (fun t => t) s else request dt ⟨kind, table, req⟩ stage actUnknown s

/-- LOOK (10:R172). -/
def execLook (dt : Nat) (t : Table) (req : Request) (stage : Stage) (s : State) : Host.Outcome State Fault Refusal :=
  request dt ⟨0x01, BitVec.ofNat 8 t.code, req⟩ stage (actLook t) s

/-- NEXT (10:R172). -/
def execNext (dt : Nat) (t : Table) (req : Request) (stage : Stage) (s : State) : Host.Outcome State Fault Refusal :=
  request dt ⟨0x02, BitVec.ofNat 8 t.code, req⟩ stage (actNext t) s

end Sys2Proof.Machine
end

