-- ==== Sys2Proof/Machine/Changes.lean ====
section
/-! DEFINITION. CHANGE of every table, and CREATE and RETIRE of admission entries (10:R173 and the owning rules). -/
namespace Sys2Proof.Machine
open Sys2Proof

/-- CHANGE of the record at key index `k`: an empty list changes nothing; else `apply` checks and acts (10:R173). -/
def State.changeAt (s : State) (x : Executing) (t : Table) (k : Nat) (apply : State → State) : State :=
  if x.req.fields.isEmpty then s.done x t k else apply s

/-- The checks before the owning rule of a CHANGE (10:R169, R173). -/
def State.changing (s : State) (x : Executing) (t : Table) (apply : Nat → State → State) : State :=
  s.checked x fun u => u.atRecord x t true fun k v => v.changeAt x t k (apply k)

/-! ### The timebase record (01:R23) -/

/-- A named field of the timebase record (01:R4). -/
def putTimebase (t : Timebase) (f : Field) : Option Timebase :=
  match f.id.toNat with
  | 6 => (yesNo f).map fun v => { t with revertive := v }
  | 7 => (within 1 3600 f).map fun v => { t with waitToRestore := v }
  | 8 => (within 0 1 f).map fun v => { t with stepPolicy := if v = 0 then .stepAny else .slewWhileServing }
  | 9 => (within 100 1000000 f).map fun v => { t with stepThreshold := v }
  | 10 => (within 1 1000 f).map fun v => { t with slewLimit := v }
  | 11 => (within 10 1000 f).map fun v => { t with lockThreshold := v }
  | 12 => (within 50 100000 f).map fun v => { t with wanderLimit := v }
  | 13 => (within 0 86400 f).map fun v => { t with minLockTime := v }
  | 14 => (within 1 1000000 f).map fun v => { t with thrA := v }
  | 15 => (within 1 1000000 f).map fun v => { t with thrB := v }
  | 16 => (within 1 1000000 f).map fun v => { t with thrC := v }
  | 17 => (within 1 1000000 f).map fun v => { t with thrD := v }
  | 18 => (within 0 1000 f).map fun v => { t with g0 := v }
  | 19 => (within 1 65535 f).map fun v => { t with aging := v }
  | 20 => (within 0 1000 f).map fun v => { t with assistedRate := v }
  | _ => none

/-- The class thresholds are strictly increasing (01:R4). -/
def Timebase.increasing (t : Timebase) : Bool := t.thrA < t.thrB && t.thrB < t.thrC && t.thrC < t.thrD

/-- Some id of a list is named. -/
def namedSome (fs : List Field) (ids : List Nat) : Bool := ids.any (named fs)

/-- The state of a timebase in holdover after a change of the class table (01:R23). -/
def State.tableMoved (s : State) : State :=
  if s.tb.state = .spent && !s.tb.spentE then
    let st : TbState := if s.tb.assist.isSome then .assisted else .holdover
    ((s.updTb fun t => { t with state := st, rev := t.rev + 1 }).clearAlarm .holdoverSpent 0).raise
      { kind := .holdover, subject := 0 }
  else s.spentTest

/-- The new values of the timebase record act (01:R23, 03:R64): the class table first, then the restore candidate; no rule orders the
two (log entry 45). -/
def State.timebaseChanged (s : State) (fs : List Field) : State :=
  let t := if namedSome fs [14, 15, 16, 17] then s.deriveClass.tableMoved else s
  if namedSome fs [6, 7] then t.reworkRestore else t

/-- The owning checks of a CHANGE of the timebase record, and its effects (01:R23). -/
def State.applyTimebase (x : Executing) (s : State) : State :=
  match putFields putTimebase s.tb x.req.fields with
  | none => s.refuse x .badField
  | some t =>
    if !t.increasing then s.refuse x .badField
    else if s.setupClosed && namedSome x.req.fields [14, 15, 16, 17, 18, 19, 20] then s.refuse x .setupClosed
    else ((s.setTb { t with rev := t.rev + 1 }).timebaseChanged x.req.fields).done x .timebase 0

def actChangeTimebase (x : Executing) (s : State) : State := s.changing x .timebase fun _ u => u.applyTimebase x

/-! ### Reference entries (02:R48) -/

/-- A named field of reference entry `i` (02:R26, R48). Enabled is taken here on entries 6 and 7 too, and refused after. -/
def putReference (i : RefIx) (e : RefEntry) (f : Field) : Option RefEntry :=
  match f.id.toNat with
  | 2 => (yesNo f).map fun v => { e with enabled := v }
  | 3 => (within 0 15 f).map fun v => { e with priority := v }
  | 4 => if phaseCapable i then (within 0 5000 f).map fun v => { e with declaredError := v } else none
  | 5 => if i.val < 4 then (withinSigned 100000 f).map fun v => { e with inputDelay := v } else none
  | 6 => if i.val < 4 then (within 0 1 f).map fun v => { e with edge := if v = 0 then .rising else .falling } else none
  | 7 => (within 1 600 f).map fun v => { e with qualifyTarget := v }
  | 8 => (within 1 3600 f).map fun v => { e with holdOff := v }
  | 9 => if phaseCapable i then none else (within 1 10000 f).map fun v => { e with freqLimit := v }
  | _ => none

/-- The edge setting was named: the previous edge is forgotten, a running missing-sample timer restarts (02:R48, log entry 33). -/
def RefEntry.edgeChanged (e : RefEntry) (osc : Nat) : RefEntry :=
  { e with prevEdge := none, labelLess := 0, missingSince := e.missingSince.map fun _ => osc }

/-- The enabled field went from `was` to its present value (02:R35, R43). -/
def State.enabledChanged (s : State) (i : RefIx) (was : Bool) : State :=
  match was, (s.ref i).enabled with
  | false, true => if (s.ref i).state = .disabled then s.startInputs i else s
  | true, false => if (s.ref i).state = .usable then (s.disableRef i).announceLeft i else s.disableRef i
  | true, true | false, false => s

/-- The qualify target was named (02:R48). -/
def State.targetChanged (s : State) (i : RefIx) : State :=
  let e := s.ref i
  match e.state with
  | .usable => s.updRef i fun r => { r with progress := r.qualifyTarget }
  | .qualifying =>
    if e.progress < e.qualifyTarget then s
    else if s.peerHeld i then s.updRef i fun r => { r with progress := r.qualifyTarget - 1 }
    else s.becomeUsable i
  | .disabled | .faulted | .lockedOut => s

/-- Priority or declared error of a USABLE entry was named (03:R64). -/
def State.rankChanged (s : State) (i : RefIx) : State :=
  if (s.ref i).state = .usable then
    if s.tb.selected = some i && (s.ref i).priority = 0 then s.loseSelected i
    else if s.tb.selected.isNone && s.candidate i then (s.selectEntry i).reworkRestore
    else s.reworkRestore
  else s

/-- The new values of a reference entry act (02:R48), in the order edge, enabled, qualify target, priority and declared error, which
02:R48 leaves open (log entry 51). -/
def State.referenceChanged (s : State) (i : RefIx) (wasEnabled : Bool) (fs : List Field) : State :=
  let t := if named fs 6 then s.updRef i fun e => e.edgeChanged s.clock.osc else s
  let u := if named fs 2 then t.enabledChanged i wasEnabled else t
  let v := if named fs 7 then u.targetChanged i else u
  if namedSome fs [3, 4] then v.rankChanged i else v

/-- The owning checks of a CHANGE of entry `i`, and its effects (02:R48). -/
def State.applyReference (x : Executing) (i : RefIx) (s : State) : State :=
  match putFields (putReference i) (s.ref i) x.req.fields with
  | none => s.refuse x .badField
  | some e =>
    if 6 ≤ i.val && named x.req.fields 2 then s.refuse x .wrongState
    else
      ((s.setRef i { e with rev := e.rev + 1 }).referenceChanged i (s.ref i).enabled x.req.fields).done x .reference i.val

def actChangeReference (x : Executing) (s : State) : State :=
  s.changing x .reference fun k u => u.atIx 8 k fun i v => v.applyReference x i

/-! ### Admission entries (05:R86 to R88) -/

/-- A named field of an admission entry (05:R85). -/
def putAdmission (a : Admission) (f : Field) : Option Admission :=
  match f.id.toNat with
  | 1 => some { a with tagValue := f.value }
  | 2 => some { a with tagMask := f.value }
  | 3 => (within 1 255 f).map fun v => { a with ports := BitVec.ofNat 8 v }
  | 4 => (within 0 2 f).map fun v => { a with decision := if v = 0 then .auto else if v = 1 then .ask else .deny }
  | 5 => (Grade.ofCode f.value.toNat).map fun v => { a with bestClass := v }
  | 6 => (within 1 255 f).map fun v => { a with grantedCredit := v }
  | 7 => (yesNo f).map fun v => { a with offerAllowed := v }
  | 8 => (within 1 255 f).map fun v => { a with approvalWait := v }
  | _ => none

/-- An entry with the defaults of 05:R85; the four fields without a default are required at CREATE. -/
def Admission.default : Admission where
  tagValue := 0
  tagMask := 0
  ports := 0
  decision := .auto
  bestClass := .a
  grantedCredit := 60
  offerAllowed := false
  approvalWait := 10

/-- A change of an admission slot: its revision advances (05:R85). -/
def State.moveAdmission (s : State) (i : AdmIx) (e : Option Admission) : State :=
  s.setAdmission i ⟨(s.admissionSlot i).rev + 1, e⟩

/-- The owning checks of a CHANGE of a live entry, and its effects (05:R87). -/
def State.applyAdmission (x : Executing) (i : AdmIx) (s : State) : State :=
  match (s.admissionSlot i).entry.bind fun a => putFields putAdmission a x.req.fields with
  | none => s.refuse x .badField
  | some a => (s.moveAdmission i (some a)).done x .admission i.val

def actChangeAdmission (x : Executing) (s : State) : State :=
  s.changing x .admission fun k u => u.atIx 8 k fun i v => v.applyAdmission x i

/-- The entry a CREATE's field list gives: the required fields named, the others at their defaults (05:R85, R86). -/
def createdEntry (fs : List Field) : Option Admission :=
  if [1, 2, 3, 4].all (named fs) then putFields putAdmission Admission.default fs else none

/-- CREATE at slot `i` (05:R86). -/
def State.createAt (x : Executing) (i : AdmIx) (s : State) : State :=
  if (s.admissionSlot i).entry.isSome then s.refuse x .wrongState
  else match createdEntry x.req.fields with
    | none => s.refuse x .badField
    | some a => (s.moveAdmission i (some a)).done x .admission i.val

def actCreate (x : Executing) (s : State) : State :=
  s.checked x fun u =>
    match u.keyNamed .admission x.req with
    | none => u.refuse x .noSuch
    | some k => u.atIx 8 k fun i v => v.createAt x i

def actRetireAdmission (x : Executing) (s : State) : State :=
  s.checked x fun u => u.atRecord x .admission true fun k v =>
    v.atIx 8 k fun i w => (w.moveAdmission i none).doneSlot x .admission i.val

/-! ### Leases (07:R137) -/

/-- The values a CHANGE of a lease names. -/
structure LeaseEdit where
  required : Option Grade := none
  granted : Option Nat := none
  credit : Option Nat := none
  deriving DecidableEq, Repr

/-- A named field of a lease (07:R117, R137). -/
def putLease (e : LeaseEdit) (f : Field) : Option LeaseEdit :=
  match f.id.toNat with
  | 4 => (Grade.ofCode f.value.toNat).map fun v => { e with required := some v }
  | 5 => (within 1 255 f).map fun v => { e with granted := some v }
  | 25 => some { e with credit := some f.value.toNat }
  | _ => none

/-- The checks of 07:R137 on credit and granted credit. -/
def Lease.editFits (x : Lease) (e : LeaseEdit) : Bool :=
  let granted := e.granted.getD x.grantedCredit
  match e.credit with
  | some c => granted ≠ Config.unlimitedCredit && (x.credit.all fun p => p ≤ c) && c ≤ granted
  | none => e.granted.isNone || granted = Config.unlimitedCredit || (x.credit.all fun p => p ≤ granted)

/-- The credit after a CHANGE (07:R137). -/
def Lease.editedCredit (x : Lease) (e : LeaseEdit) : Option Nat :=
  let granted := e.granted.getD x.grantedCredit
  if granted = Config.unlimitedCredit then none
  else match e.credit, x.credit with
    | some c, _ => some c
    | none, some p => some p
    | none, none => some granted

/-- The lease after a CHANGE (07:R137). Its notice slot stays as it is: a RENEW-DUE that waits there when the granted credit becomes
unlimited waits on (log entry 47). -/
def Lease.edited (x : Lease) (e : LeaseEdit) : Lease :=
  { x with
    required := e.required.getD x.required
    grantedCredit := e.granted.getD x.grantedCredit
    credit := x.editedCredit e }

/-- A change of standing by a CHANGE of the required class, from `x` to the lease as it is now (07:R137). -/
def State.standingChanged (s : State) (l : LeaseIx) (x y : Lease) : State :=
  let code : Int := s.tb.siteClass.code
  match x.standing s.tb.siteClass, y.standing s.tb.siteClass with
  | some true, some false => (s.putNotice l .degraded code).raiseLease l .leaseDegraded none
  | some false, some true => (s.putNotice l .restored code).clearAlarm .leaseDegraded l.val
  | _, _ => s

/-- The owning checks of a CHANGE of lease `x` in slot `l`, and its effects (07:R137). -/
def State.editLease (x : Executing) (l : LeaseIx) (y : Lease) (s : State) : State :=
  match putFields putLease {} x.req.fields with
  | none => s.refuse x .badField
  | some e =>
    if y.editFits e then
      (((s.moveLease l fun _ => y.edited e).standingChanged l y (y.edited e))).done x .lease l.val
    else s.refuse x .badField

/-- Act on the live lease at a key index. -/
def State.atLease (s : State) (k : Nat) (f : LeaseIx → Lease → State → State) : State :=
  s.atIx 32 k fun l u =>
    match u.lease l with
    | none => u
    | some y => f l y u

def actChangeLease (x : Executing) (s : State) : State :=
  s.changing x .lease fun k u => u.atLease k fun l y v => v.editLease x l y

/-! ### Ports (04:R82) -/

/-- A named field of a port record (04:R75, R82). -/
def putPort (r : Port) (f : Field) : Option Port :=
  match f.id.toNat with
  | 3 => (withinSigned 10000 f).map fun v => { r with asymmetry := v }
  | 4 => (within 1 1000 f).map fun v => { r with spreadLimit := v }
  | 5 => (within 1 600 f).map fun v => { r with scanInterval := v }
  | _ => none

/-- The owning checks of a CHANGE of port `p`, and its effects (04:R82). -/
def State.applyPort (x : Executing) (p : PortIx) (s : State) : State :=
  match putFields putPort (s.port p) x.req.fields with
  | none => s.refuse x .badField
  | some r => (s.setPort p { r with rev := r.rev + 1 }).done x .port p.val

def actChangePort (x : Executing) (s : State) : State :=
  s.changing x .port fun k u => u.atIx 8 k fun p v => v.applyPort x p

/-! ### Outputs (08:R146) -/

/-- A named field of an output record (08:R140); N, phase offset and width are checked together after. -/
def putOutput (o : Output) (f : Field) : Option Output :=
  match f.id.toNat with
  | 2 => (yesNo f).map fun v => { o with enabled := v }
  | 3 => (within 1 1000 f).map fun v => { o with n := v }
  | 4 => some { o with phase := f.value.toNat }
  | 5 => some { o with width := f.value.toNat }
  | 6 => (Grade.ofCode f.value.toNat).map fun v => { o with minClass := v }
  | _ => none

/-- N divides 1,000,000,000, and phase offset and width lie below the period, the width above 0 (08:R140, R146). -/
def Output.planFits (o : Output) : Bool :=
  Config.secNs % o.n = 0 && o.phase < o.stored.period && 1 ≤ o.width && o.width < o.stored.period

/-- The new values of an output act; its plan waits when it is RUNNING before and after (08:R146). -/
def State.outputChanged (s : State) (i : OutIx) (was : OutState) (fs : List Field) : State :=
  let t := s.moveOutput i Output.entryEdge
  if was = .running && (t.out i).state = .running && namedSome fs [3, 4, 5] then
    t.updOut i fun o => { o with changeWaiting := true }
  else t

/-- The owning checks of a CHANGE of output `i`, and its effects (08:R146). -/
def State.applyOutput (x : Executing) (i : OutIx) (s : State) : State :=
  match putFields putOutput (s.out i) x.req.fields with
  | none => s.refuse x .badField
  | some o =>
    if o.planFits then
      ((s.setOut i { o with rev := o.rev + 1 }).outputChanged i (s.out i).state x.req.fields).done x .output i.val
    else s.refuse x .badField

def actChangeOutput (x : Executing) (s : State) : State :=
  s.changing x .output fun k u => u.atIx 4 k fun i v => v.applyOutput x i

/-! ### Alarm kinds, the alarm unit record, alarm lines (09:R151, R160, R163) -/

/-- A named field of a kind record (09:R151). -/
def putKind (r : KindRecord) (f : Field) : Option KindRecord :=
  match f.id.toNat with
  | 4 => if r.severity.isNone then none else (Severity.ofCode f.value.toNat).map fun v => { r with severity := some v }
  | _ => none

/-- The owning checks of a CHANGE of kind `i`, and its effects (09:R151). -/
def State.applyKind (x : Executing) (i : Fin 20) (s : State) : State :=
  match putFields putKind s.alarm.kinds[i] x.req.fields with
  | none => s.refuse x .badField
  | some r =>
    (s.setAlarm { s.alarm with kinds := s.alarm.kinds.set i { r with rev := r.rev + 1 } }).done x .alarmKind (i.val + 1)

def actChangeAlarmKind (x : Executing) (s : State) : State :=
  s.changing x .alarmKind fun k u => u.atIx 20 (k - 1) fun i v => v.applyKind x i

/-- A named field of the alarm unit record (09:R160). -/
def putUnit (_v : Severity) (f : Field) : Option Severity :=
  match f.id.toNat with
  | 1 => Severity.ofCode f.value.toNat
  | _ => none

/-- The owning checks of a CHANGE of the alarm unit record, and its effects (09:R160). -/
def State.applyUnit (x : Executing) (s : State) : State :=
  match putFields putUnit s.alarm.threshold x.req.fields with
  | none => s.refuse x .badField
  | some v =>
    (s.setAlarm { s.alarm with threshold := v, thresholdRev := s.alarm.thresholdRev + 1 }).done x .alarmUnit 0

def actChangeAlarmUnit (x : Executing) (s : State) : State := s.changing x .alarmUnit fun _ u => u.applyUnit x

/-- A named field of an alarm line (09:R162); the argument is checked against the source after. -/
def putLine (l : AlarmLine) (f : Field) : Option AlarmLine :=
  match f.id.toNat with
  | 1 => (LineSource.ofCode f.value.toNat).map fun v => { l with source := v }
  | 2 => some { l with argument := f.value }
  | 3 => (yesNo f).map fun v => { l with includeAcked := v }
  | 4 => (within 0 1 f).map fun v => { l with polarity := if v = 0 then .activeHigh else .activeLow }
  | _ => none

/-- The argument fits the source (09:R162). -/
def AlarmLine.argumentFits (l : AlarmLine) : Bool :=
  let v := l.argument.toNat
  match l.source with
  | .severityAtLeast | .classWorseThan => 1 ≤ v && v ≤ 4
  | .kindActive => v ≤ 19
  | .timebaseIn => 1 ≤ v && v ≤ 63
  | .referenceSelected => v ≤ 7
  | .constant => v ≤ 1

/-- The owning checks of a CHANGE of line `i`, and its effects (09:R163). -/
def State.applyLine (x : Executing) (i : LineIx) (s : State) : State :=
  match putFields putLine s.alarm.lines[i] x.req.fields with
  | none => s.refuse x .badField
  | some l =>
    if l.argumentFits then
      (s.setAlarm { s.alarm with lines := s.alarm.lines.set i { l with rev := l.rev + 1 } }).done x .alarmLine i.val
    else s.refuse x .badField

def actChangeAlarmLine (x : Executing) (s : State) : State :=
  s.changing x .alarmLine fun k u => u.atIx 8 k fun i v => v.applyLine x i

/-! ### Commands -/

/-- CHANGE_TIMEBASE (01:R23). -/
def execChangeTimebase (dt : Nat) (req : Request) (stage : Stage) (s : State) : Host.Outcome State Fault Refusal :=
  request dt ⟨0x03, 0x01, req⟩ stage actChangeTimebase s

/-- CHANGE_REFERENCE (02:R48). -/
def execChangeReference (dt : Nat) (req : Request) (stage : Stage) (s : State) : Host.Outcome State Fault Refusal :=
  request dt ⟨0x03, 0x02, req⟩ stage actChangeReference s

/-- CHANGE_ADMISSION (05:R87). -/
def execChangeAdmission (dt : Nat) (req : Request) (stage : Stage) (s : State) : Host.Outcome State Fault Refusal :=
  request dt ⟨0x03, 0x03, req⟩ stage actChangeAdmission s

/-- CHANGE_LEASE (07:R137). -/
def execChangeLease (dt : Nat) (req : Request) (stage : Stage) (s : State) : Host.Outcome State Fault Refusal :=
  request dt ⟨0x03, 0x04, req⟩ stage actChangeLease s

/-- CHANGE_PORT (04:R82). -/
def execChangePort (dt : Nat) (req : Request) (stage : Stage) (s : State) : Host.Outcome State Fault Refusal :=
  request dt ⟨0x03, 0x05, req⟩ stage actChangePort s

/-- CHANGE_OUTPUT (08:R146). -/
def execChangeOutput (dt : Nat) (req : Request) (stage : Stage) (s : State) : Host.Outcome State Fault Refusal :=
  request dt ⟨0x03, 0x06, req⟩ stage actChangeOutput s

/-- CHANGE_ALARM_KIND (09:R151). -/
def execChangeAlarmKind (dt : Nat) (req : Request) (stage : Stage) (s : State) : Host.Outcome State Fault Refusal :=
  request dt ⟨0x03, 0x08, req⟩ stage actChangeAlarmKind s

/-- CHANGE_ALARM_UNIT (09:R160). -/
def execChangeAlarmUnit (dt : Nat) (req : Request) (stage : Stage) (s : State) : Host.Outcome State Fault Refusal :=
  request dt ⟨0x03, 0x0A, req⟩ stage actChangeAlarmUnit s

/-- CHANGE_ALARM_LINE (09:R163). -/
def execChangeAlarmLine (dt : Nat) (req : Request) (stage : Stage) (s : State) : Host.Outcome State Fault Refusal :=
  request dt ⟨0x03, 0x09, req⟩ stage actChangeAlarmLine s

/-- CREATE (05:R86). -/
def execCreate (dt : Nat) (req : Request) (stage : Stage) (s : State) : Host.Outcome State Fault Refusal :=
  request dt ⟨0x04, 0x03, req⟩ stage actCreate s

/-- RETIRE_ADMISSION (05:R88). -/
def execRetireAdmission (dt : Nat) (req : Request) (stage : Stage) (s : State) : Host.Outcome State Fault Refusal :=
  request dt ⟨0x05, 0x03, req⟩ stage actRetireAdmission s

end Sys2Proof.Machine
end

