-- ==== Sys2Proof/Machine/Commands.lean ====
section
/-! DEFINITION. The named commands of the management port on leases, alarms, references, ports and the whole part (10:R168). -/
namespace Sys2Proof.Machine
open Sys2Proof

/-! ### Leases (05:R97, R98; 06:R105; 07:R134 to R136) -/

def actRetireLease (x : Executing) (s : State) : State :=
  s.checked x fun u => u.atRecord x .lease true fun k v =>
    v.atIx 32 k fun l w => (w.retireNotice l retiredHost none).doneSlot x .lease l.val

/-- APPROVE of a PENDING lease (05:R97). -/
def State.approve (s : State) (l : LeaseIx) (y : Lease) : State :=
  (((s.moveLease l fun z => { z with state := .measuring, deadline := none }).clearAlarm .leasePending l.val).offer y.port
    (y.acceptFrame l)).choose y.port

def actApprove (x : Executing) (s : State) : State :=
  s.checked x fun u => u.atRecord x .lease true fun k v =>
    v.atLease k fun l y w => if y.state = .pending then (w.approve l y).done x .lease l.val else w.refuse x .wrongState

def actDeny (x : Executing) (s : State) : State :=
  s.checked x fun u => u.atRecord x .lease true fun k v =>
    v.atLease k fun l y w =>
      if y.state = .pending then (w.retireRefuse l .host none).doneSlot x .lease l.val else w.refuse x .wrongState

/-- The request `x` met a suspension of the lease it names by the scanner or a conflict: it was taken no later than that suspension,
with the revision of the lease before it, and nothing has changed the lease since (06:R114, 07:R135, log entry 41). -/
def State.metSuspension (s : State) (x : Executing) (l : LeaseIx) : Bool :=
  match (s.lease l).bind Lease.mark with
  | none => false
  | some m => s.leaseIn l .suspended && x.req.revision = m.before && (s.slot l).rev = m.after && s.mgmt.takenAt ≤ m.osc

/-- The revision is checked for a SUSPEND, but for one that comes second to a suspension that it met (07:R135, log entry 41). -/
def State.suspendFenced (s : State) (x : Executing) : Bool :=
  match (s.keyNamed .lease x.req).bind (toIx 32) with
  | none => true
  | some l => !s.metSuspension x l

/-- SUSPEND of a MEASURING or IN-SERVICE lease (07:R135). -/
def actSuspend (x : Executing) (s : State) : State :=
  s.checked x fun u => u.atRecord x .lease (u.suspendFenced x) fun k v =>
    v.atLease k fun l _ w => if w.suspendable l then (w.suspend l .host).done x .lease l.val else w.refuse x .wrongState

def actResume (x : Executing) (s : State) : State :=
  s.checked x fun u => u.atRecord x .lease true fun k v =>
    v.atLease k fun l y w =>
      if y.state = .suspended && (w.port y.port).state = .opened then ((w.resumeLease l).choose y.port).done x .lease l.val
      else w.refuse x .wrongState

/-- MEASURE of a MEASURING or IN-SERVICE lease whose port's injection slot is empty (06:R105). -/
def State.inject (s : State) (l : LeaseIx) (p : PortIx) : State :=
  (s.updScanner p fun c => { c with injection := some l }).choose p

def actMeasure (x : Executing) (s : State) : State :=
  s.checked x fun u => u.atRecord x .lease false fun k v =>
    v.atLease k fun l y w =>
      if !w.suspendable l then w.refuse x .wrongState
      else if (w.port y.port).scanner.injection.isSome then w.refuse x .full
      else (w.inject l y.port).done x .lease l.val

/-! ### Alarms (09:R156, R157) -/

/-- ACK of the record `r` in slot `i` (09:R156). -/
def State.ackAt (x : Executing) (i : SlotIx) (r : AlarmRecord) (s : State) : State :=
  match r.state with
  | .activeSeen => s.refuse x .wrongState
  | .activeNew => (s.setAlarm (s.alarm.ackSlot s.siteSec i)).doneForm x .alarm i.val formAlarmKey
  | .clearedUnseen => (s.setAlarm (s.alarm.ackSlot s.siteSec i)).doneSlot x .alarm i.val

def actAck (x : Executing) (s : State) : State :=
  s.checked x fun u => u.atRecord x .alarm true fun k v =>
    v.atIx 48 k fun i w =>
      match w.alarm.slots[i].record with
      | none => w
      | some r => w.ackAt x i r

/-- ACK-ALL's answer: its two counts, with the key as sent (10:R168, log entry 16). -/
def ackAllAnswer (x : Executing) (acked retired : Nat) : Answer :=
  x.answer .done x.table x.req.form x.req.key 0 (inGroup x.req.group (nat 1 acked ++ nat 2 retired))

def actAckAll (x : Executing) (s : State) : State :=
  s.checked x fun u =>
    let r := u.alarm.ackAll u.siteSec
    (u.setAlarm r.1).reply fun _ => ackAllAnswer x r.2.1 r.2.2

/-! ### References and selection (02:R42, 03:R61, R63) -/

/-- CLEAR-LOCKOUT of entry `i` (02:R42). -/
def State.clearLockout (x : Executing) (i : RefIx) (s : State) : State :=
  let e := s.ref i
  if e.state = .lockedOut then
    (((s.updRef i fun r => { r with faultScore := 0 }).clearAlarm .refLockedOut i.val).startInputs i).done x .reference i.val
  else if e.state = .disabled && e.faultScore = Config.lockoutScore then
    (s.updRef i fun r => { r with faultScore := 0, rev := r.rev + 1 }).done x .reference i.val
  else s.refuse x .wrongState

def actClearLockout (x : Executing) (s : State) : State :=
  s.checked x fun u => u.atRecord x .reference false fun k v => v.atIx 8 k fun i w => w.clearLockout x i

/-- FORCE of a candidate (03:R61). -/
def State.forceEntry (s : State) (i : RefIx) : State :=
  let t := s.updTb fun b => { b with forced := some i, rev := b.rev + changed b.forced (some i) }
  (if s.tb.selected = some i then t else t.selectEntry i).storeRestore

def actForce (x : Executing) (s : State) : State :=
  s.checked x fun u => u.atRecord x .reference false fun k v =>
    v.atIx 8 k fun i w => if w.candidate i then (w.forceEntry i).done x .timebase 0 else w.refuse x .wrongState

/-- RELEASE of the forced reference (03:R63). -/
def State.releaseForced (s : State) : State :=
  (s.updTb fun b => { b with forced := none, rev := b.rev + 1 }).reworkRestore

def actRelease (x : Executing) (s : State) : State :=
  s.checked x fun u =>
    if u.tb.forced.isSome then u.releaseForced.done x .timebase 0 else u.refuse x .wrongState

/-! ### Ports and setup (04:R80, R81; 10:R175) -/

/-- REOPEN of port `p` after CLOSE-SETUP (04:R80). -/
def State.reopen (x : Executing) (p : PortIx) (s : State) : State :=
  match (s.port p).state with
  | .conflict => (s.reopenConflict p).done x .port p.val
  | .closed => ((s.openPort p).choose p).done x .port p.val
  | .opened | .down => s.refuse x .wrongState

def actReopen (x : Executing) (s : State) : State :=
  s.checked x fun u => u.atRecord x .port false fun k v =>
    v.atIx 8 k fun p w => if w.setupClosed then w.reopen x p else w.refuse x .setupClosed

/-- CLOSE of port `p` after CLOSE-SETUP (04:R81). -/
def State.closeAt (x : Executing) (p : PortIx) (s : State) : State :=
  if (s.port p).state = .closed then s.done x .port p.val else (s.closePort p).done x .port p.val

def actClose (x : Executing) (s : State) : State :=
  s.checked x fun u => u.atRecord x .port false fun k v =>
    v.atIx 8 k fun p w => if w.setupClosed then w.closeAt x p else w.refuse x .setupClosed

/-- CLOSE-SETUP while setup is OPEN (10:R175). -/
def State.closeSetup (s : State) : State :=
  let t := s.setMgmt { s.mgmt with setup := .closed }
  (if t.tb.state = .freeRun then t.raiseFreeRun else t).openAllPorts

def actCloseSetup (x : Executing) (s : State) : State :=
  s.checked x fun u => if u.setupClosed then u.refuse x .wrongState else u.closeSetup.doneStatus x

/-- RESTART: every block takes its values after reset; no answer follows (10:R177, log entries 24, 31). -/
def actRestart (x : Executing) (s : State) : State :=
  s.checked x fun u => u.restarted.setMgmt { Mgmt.reset with miso := u.mgmt.miso }

def actStatus (x : Executing) (s : State) : State := s.checked x fun u => u.doneStatus x

/-! ### Commands -/

/-- RETIRE_LEASE (07:R134). -/
def execRetireLease (dt : Nat) (req : Request) (stage : Stage) (s : State) : Host.Outcome State Fault Refusal :=
  request dt ⟨0x05, 0x04, req⟩ stage actRetireLease s

/-- APPROVE (05:R97). -/
def execApprove (dt : Nat) (req : Request) (stage : Stage) (s : State) : Host.Outcome State Fault Refusal :=
  request dt ⟨0x06, 0x04, req⟩ stage actApprove s

/-- DENY (05:R98). -/
def execDeny (dt : Nat) (req : Request) (stage : Stage) (s : State) : Host.Outcome State Fault Refusal :=
  request dt ⟨0x07, 0x04, req⟩ stage actDeny s

/-- SUSPEND (07:R135). -/
def execSuspend (dt : Nat) (req : Request) (stage : Stage) (s : State) : Host.Outcome State Fault Refusal :=
  request dt ⟨0x08, 0x04, req⟩ stage actSuspend s

/-- RESUME (07:R136). -/
def execResume (dt : Nat) (req : Request) (stage : Stage) (s : State) : Host.Outcome State Fault Refusal :=
  request dt ⟨0x09, 0x04, req⟩ stage actResume s

/-- MEASURE (06:R105). -/
def execMeasure (dt : Nat) (req : Request) (stage : Stage) (s : State) : Host.Outcome State Fault Refusal :=
  request dt ⟨0x0A, 0x04, req⟩ stage actMeasure s

/-- ACK (09:R156). -/
def execAck (dt : Nat) (req : Request) (stage : Stage) (s : State) : Host.Outcome State Fault Refusal :=
  request dt ⟨0x0B, 0x07, req⟩ stage actAck s

/-- ACK_ALL (09:R157). -/
def execAckAll (dt : Nat) (req : Request) (stage : Stage) (s : State) : Host.Outcome State Fault Refusal :=
  request dt ⟨0x0C, 0x07, req⟩ stage actAckAll s

/-- CLEAR_LOCKOUT (02:R42). -/
def execClearLockout (dt : Nat) (req : Request) (stage : Stage) (s : State) : Host.Outcome State Fault Refusal :=
  request dt ⟨0x0D, 0x02, req⟩ stage actClearLockout s

/-- FORCE (03:R61). -/
def execForce (dt : Nat) (req : Request) (stage : Stage) (s : State) : Host.Outcome State Fault Refusal :=
  request dt ⟨0x0E, 0x02, req⟩ stage actForce s

/-- RELEASE (03:R63). -/
def execRelease (dt : Nat) (req : Request) (stage : Stage) (s : State) : Host.Outcome State Fault Refusal :=
  request dt ⟨0x0F, 0x01, req⟩ stage actRelease s

/-- REOPEN (04:R80). -/
def execReopen (dt : Nat) (req : Request) (stage : Stage) (s : State) : Host.Outcome State Fault Refusal :=
  request dt ⟨0x10, 0x05, req⟩ stage actReopen s

/-- CLOSE (04:R81). -/
def execClose (dt : Nat) (req : Request) (stage : Stage) (s : State) : Host.Outcome State Fault Refusal :=
  request dt ⟨0x11, 0x05, req⟩ stage actClose s

/-- CLOSE_SETUP (10:R175). -/
def execCloseSetup (dt : Nat) (table : Byte) (req : Request) (stage : Stage) (s : State) :
    Host.Outcome State Fault Refusal :=
  request dt ⟨0x12, table, req⟩ stage actCloseSetup s

/-- RESTART (10:R177). -/
def execRestart (dt : Nat) (table : Byte) (req : Request) (stage : Stage) (s : State) : Host.Outcome State Fault Refusal :=
  request dt ⟨0x13, table, req⟩ stage actRestart s

/-- STATUS (10:R176). -/
def execStatus (dt : Nat) (table : Byte) (req : Request) (stage : Stage) (s : State) : Host.Outcome State Fault Refusal :=
  request dt ⟨0x14, table, req⟩ stage actStatus s

end Sys2Proof.Machine
end

