-- ==== Sys2Proof/Machine/Dispatch.lean ====
section
/-! DEFINITION. The meaning of every command, one arm per row of the table. -/
namespace Sys2Proof.Machine
open Sys2Proof

/-- The command's effect on everything but the queue of commands. -/
def exec (i : Instr) (s : State) : Host.Outcome State Fault Refusal :=
  match i with
  | .resetN => Sys2Proof.Machine.execResetN s
  | .resetNRelease dt => Sys2Proof.Machine.execResetNRelease dt s
  | .runSecond dt => Sys2Proof.Machine.execRunSecond dt s
  | .siteSecondBoundary dt => Sys2Proof.Machine.execSiteSecondBoundary dt s
  | .referenceEdge dt entry edge => Sys2Proof.Machine.execReferenceEdge dt entry edge s
  | .labelFrame dt entry first rest => Sys2Proof.Machine.execLabelFrame dt entry first rest s
  | .linePulse dt line => Sys2Proof.Machine.execLinePulse dt line s
  | .assistMeasurement dt => Sys2Proof.Machine.execAssistMeasurement dt s
  | .timebaseSample dt => Sys2Proof.Machine.execTimebaseSample dt s
  | .missingSampleTimerExpiry dt entry => Sys2Proof.Machine.execMissingSampleTimerExpiry dt entry s
  | .holdOffExpiry dt entry => Sys2Proof.Machine.execHoldOffExpiry dt entry s
  | .faultScoreDecay dt entry => Sys2Proof.Machine.execFaultScoreDecay dt entry s
  | .revertiveSwitch dt => Sys2Proof.Machine.execRevertiveSwitch dt s
  | .laneLockGained dt symbol => Sys2Proof.Machine.execLaneLockGained dt symbol s
  | .laneLockLost dt lane => Sys2Proof.Machine.execLaneLockLost dt lane s
  | .join dt lane body => Sys2Proof.Machine.execJoin dt lane body s
  | .renew dt lane lease => Sys2Proof.Machine.execRenew dt lane lease s
  | .leave dt lane lease => Sys2Proof.Machine.execLeave dt lane lease s
  | .report dt lane body => Sys2Proof.Machine.execReport dt lane body s
  | .peerMark dt lane body => Sys2Proof.Machine.execPeerMark dt lane body s
  | .echoBack dt lane lease number => Sys2Proof.Machine.execEchoBack dt lane lease number s
  | .hubFrameReceived dt lane frame => Sys2Proof.Machine.execHubFrameReceived dt lane frame s
  | .frameDeparture dt port => Sys2Proof.Machine.execFrameDeparture dt port s
  | .markDeparture dt port => Sys2Proof.Machine.execMarkDeparture dt port s
  | .echoDeparture dt port => Sys2Proof.Machine.execEchoDeparture dt port s
  | .echoTimerExpiry dt port => Sys2Proof.Machine.execEchoTimerExpiry dt port s
  | .boundarySymbolEmission dt port => Sys2Proof.Machine.execBoundarySymbolEmission dt port s
  | .routineBatchDue dt port => Sys2Proof.Machine.execRoutineBatchDue dt port s
  | .approvalDeadlineExpiry dt lease => Sys2Proof.Machine.execApprovalDeadlineExpiry dt lease s
  | .outputRisingEdge dt out => Sys2Proof.Machine.execOutputRisingEdge dt out s
  | .outputFall dt out => Sys2Proof.Machine.execOutputFall dt out s
  | .roomAnnouncement dt block => Sys2Proof.Machine.execRoomAnnouncement dt block s
  | .statusPoll dt first extra => Sys2Proof.Machine.execStatusPoll dt first extra s
  | .answerTransaction dt clocked => Sys2Proof.Machine.execAnswerTransaction dt clocked s
  | .unknownRequest dt kind table req stage => Sys2Proof.Machine.execUnknownRequest dt kind table req stage s
  | .look dt table req stage => Sys2Proof.Machine.execLook dt table req stage s
  | .next dt table req stage => Sys2Proof.Machine.execNext dt table req stage s
  | .changeTimebase dt req stage => Sys2Proof.Machine.execChangeTimebase dt req stage s
  | .changeReference dt req stage => Sys2Proof.Machine.execChangeReference dt req stage s
  | .changeAdmission dt req stage => Sys2Proof.Machine.execChangeAdmission dt req stage s
  | .changeLease dt req stage => Sys2Proof.Machine.execChangeLease dt req stage s
  | .changePort dt req stage => Sys2Proof.Machine.execChangePort dt req stage s
  | .changeOutput dt req stage => Sys2Proof.Machine.execChangeOutput dt req stage s
  | .changeAlarmKind dt req stage => Sys2Proof.Machine.execChangeAlarmKind dt req stage s
  | .changeAlarmUnit dt req stage => Sys2Proof.Machine.execChangeAlarmUnit dt req stage s
  | .changeAlarmLine dt req stage => Sys2Proof.Machine.execChangeAlarmLine dt req stage s
  | .create dt req stage => Sys2Proof.Machine.execCreate dt req stage s
  | .retireAdmission dt req stage => Sys2Proof.Machine.execRetireAdmission dt req stage s
  | .retireLease dt req stage => Sys2Proof.Machine.execRetireLease dt req stage s
  | .approve dt req stage => Sys2Proof.Machine.execApprove dt req stage s
  | .deny dt req stage => Sys2Proof.Machine.execDeny dt req stage s
  | .suspend dt req stage => Sys2Proof.Machine.execSuspend dt req stage s
  | .resume dt req stage => Sys2Proof.Machine.execResume dt req stage s
  | .measure dt req stage => Sys2Proof.Machine.execMeasure dt req stage s
  | .ack dt req stage => Sys2Proof.Machine.execAck dt req stage s
  | .ackAll dt req stage => Sys2Proof.Machine.execAckAll dt req stage s
  | .clearLockout dt req stage => Sys2Proof.Machine.execClearLockout dt req stage s
  | .force dt req stage => Sys2Proof.Machine.execForce dt req stage s
  | .release dt req stage => Sys2Proof.Machine.execRelease dt req stage s
  | .reopen dt req stage => Sys2Proof.Machine.execReopen dt req stage s
  | .close dt req stage => Sys2Proof.Machine.execClose dt req stage s
  | .closeSetup dt table req stage => Sys2Proof.Machine.execCloseSetup dt table req stage s
  | .restart dt table req stage => Sys2Proof.Machine.execRestart dt table req stage s
  | .status dt table req stage => Sys2Proof.Machine.execStatus dt table req stage s

end Sys2Proof.Machine
end

