-- ==== Sys2Proof/Machine/Step.lean ====
section
/-! DEFINITION. One step: the command at the front of the queue, or idling (log entry 1). -/
namespace Sys2Proof.Machine
open Sys2Proof

/-- The state with the queue given. -/
def State.withPending (s : State) (q : List Instr) : State := { s with pending := q }

/-- Take the command at the front of the queue and run it on the queue's rest; on an empty queue the part idles. -/
def step (s : State) : Host.Outcome State Fault Refusal :=
  match s.pending with
  | [] => .next s
  | i :: rest => exec i (s.withPending rest)

/-- The command that a word of the table's bits spells is put at the front of the queue; the table gives no row any bits, so no
word spells one. -/
def State.withFetchWord (s : State) (nbits w : Nat) : State :=
  match decodeTableWord nbits w with
  | none => s
  | some i => s.withPending (i :: s.pending)

end Sys2Proof.Machine
end

