-- ==== Sys2Proof/Safety.lean ====
section
/-! DEFINITION. What the manual calls laws of the device, as conditions on a state; what a run is; the parts of the state, and what it
means that a change touches some of them only. -/
namespace Sys2Proof
open Machine

/-- The commands that carry a request: the time that passes, the request with its kind and table, how far it is carried. An
UNKNOWN_REQUEST that names a request the port knows carries none. -/
def Instr.asRequest : Instr → Option (Nat × Executing × Stage)
  | .unknownRequest dt kind table req st => if requestKnown kind table req then none else some (dt, ⟨kind, table, req⟩, st)
  | .look dt t req st => some (dt, ⟨0x01, BitVec.ofNat 8 t.code, req⟩, st)
  | .next dt t req st => some (dt, ⟨0x02, BitVec.ofNat 8 t.code, req⟩, st)
  | .changeTimebase dt req st => some (dt, ⟨0x03, 0x01, req⟩, st)
  | .changeReference dt req st => some (dt, ⟨0x03, 0x02, req⟩, st)
  | .changeAdmission dt req st => some (dt, ⟨0x03, 0x03, req⟩, st)
  | .changeLease dt req st => some (dt, ⟨0x03, 0x04, req⟩, st)
  | .changePort dt req st => some (dt, ⟨0x03, 0x05, req⟩, st)
  | .changeOutput dt req st => some (dt, ⟨0x03, 0x06, req⟩, st)
  | .changeAlarmKind dt req st => some (dt, ⟨0x03, 0x08, req⟩, st)
  | .changeAlarmLine dt req st => some (dt, ⟨0x03, 0x09, req⟩, st)
  | .changeAlarmUnit dt req st => some (dt, ⟨0x03, 0x0A, req⟩, st)
  | .create dt req st => some (dt, ⟨0x04, 0x03, req⟩, st)
  | .retireAdmission dt req st => some (dt, ⟨0x05, 0x03, req⟩, st)
  | .retireLease dt req st => some (dt, ⟨0x05, 0x04, req⟩, st)
  | .approve dt req st => some (dt, ⟨0x06, 0x04, req⟩, st)
  | .deny dt req st => some (dt, ⟨0x07, 0x04, req⟩, st)
  | .suspend dt req st => some (dt, ⟨0x08, 0x04, req⟩, st)
  | .resume dt req st => some (dt, ⟨0x09, 0x04, req⟩, st)
  | .measure dt req st => some (dt, ⟨0x0A, 0x04, req⟩, st)
  | .ack dt req st => some (dt, ⟨0x0B, 0x07, req⟩, st)
  | .ackAll dt req st => some (dt, ⟨0x0C, 0x07, req⟩, st)
  | .clearLockout dt req st => some (dt, ⟨0x0D, 0x02, req⟩, st)
  | .force dt req st => some (dt, ⟨0x0E, 0x02, req⟩, st)
  | .release dt req st => some (dt, ⟨0x0F, 0x01, req⟩, st)
  | .reopen dt req st => some (dt, ⟨0x10, 0x05, req⟩, st)
  | .close dt req st => some (dt, ⟨0x11, 0x05, req⟩, st)
  | .closeSetup dt table req st => some (dt, ⟨0x12, table, req⟩, st)
  | .restart dt table req st => some (dt, ⟨0x13, table, req⟩, st)
  | .status dt table req st => some (dt, ⟨0x14, table, req⟩, st)
  | .resetN | .resetNRelease _ | .runSecond _ | .siteSecondBoundary _ | .referenceEdge .. | .labelFrame .. | .linePulse ..
  | .assistMeasurement _ | .timebaseSample _ | .missingSampleTimerExpiry .. | .holdOffExpiry .. | .faultScoreDecay ..
  | .revertiveSwitch _ | .laneLockGained .. | .laneLockLost .. | .join .. | .renew .. | .leave .. | .report ..
  | .peerMark .. | .echoBack .. | .hubFrameReceived .. | .frameDeparture .. | .markDeparture .. | .echoDeparture ..
  | .echoTimerExpiry .. | .boundarySymbolEmission .. | .routineBatchDue .. | .approvalDeadlineExpiry ..
  | .outputRisingEdge .. | .outputFall .. | .roomAnnouncement .. | .statusPoll .. | .answerTransaction .. => none

/-- The request names key index `k` in INDEX form, a field group that exists, and at most 12 fields (10:R169, R170). -/
def Request.NamesIndex (req : Request) (k : Nat) : Prop :=
  req.form = formIndex ∧ req.group.toNat ≤ 1 ∧ req.count.toNat ≤ 12 ∧ keyIndex req.key = k

/-- The request has a field group that exists and at most 12 fields; its key is disregarded (10:R169, R170). -/
def Request.NamesNothing (req : Request) : Prop := req.group.toNat ≤ 1 ∧ req.count.toNat ≤ 12

end Sys2Proof

namespace Sys2Proof.Machine
open Sys2Proof

/-- `n` steps from `s` answer next states and end in `t`. -/
inductive Runs : Nat → State → State → Prop where
  | zero (s : State) : Runs 0 s s
  | succ {n : Nat} {s t u : State} (h : step s = .next t) (r : Runs n t u) : Runs (n + 1) s u

/-- ATTN and the pins ATTN_N and ALM0 to ALM7 say what the alarm table, the timebase and the line records say (09:R161, R163). -/
def State.PinsAgree (s : State) : Prop :=
  s.alarm.attn = s.alarm.attnNow ∧
  s.alarm.attnN = (if s.alarm.attnNow then .low else .high) ∧
  ∀ i : LineIx,
    s.alarm.lines[i].active = s.lineNow s.alarm.lines[i] ∧
    s.alarm.lines[i].pin = s.alarm.lines[i].pinFor (s.lineNow s.alarm.lines[i])

/-- `u` is the part `dt` ns of the oscillator after `s`, RESET_N being high: the instant at which a command with that `dt` acts. -/
def State.At (s : State) (dt : Nat) (u : State) : Prop := s.resetLow = false ∧ u = s.elapse dt

/-- `u` is the part at the instant of a command of the lane of port `p` with that `dt`, once the symbols `heard` have arrived and
before the `own` symbols of the command do; RESET_N being high (04:R67, log entry 36). -/
def State.LaneAt (s : State) (dt : Nat) (p : PortIx) (heard : List RxSymbol) (own : Nat) (u : State) : Prop :=
  s.resetLow = false ∧ u = State.hear p (fun k => s.captureAgo dt (k + own)) heard (s.elapse dt)

/-- `u` is the part at the FRAME-END of the frame `f`, heard on the lane of port `p` with lock after the symbols `heard`: the frame
has left the receiver and nothing has taken it yet (04:R68, R69). -/
def State.FrameAt (s : State) (dt : Nat) (p : PortIx) (heard : List RxSymbol) (f : LaneFrame) (u : State) : Prop :=
  ∃ v, s.LaneAt dt p heard f.line.length v ∧ (v.port p).linkUp = true ∧ u = v.setLane p ⟨0, none⟩

/-! ### What every step keeps -/

/-- A lane receiver and its port's record: an OPEN port has lock and a DOWN port has none (04:R76 to R81); without lock fewer than 1024
valid symbols are counted and no frame is open, with it fewer than 16 that are not valid (04:R67, R68). -/
def State.LanesAgree (s : State) : Prop :=
  ∀ p, ((s.port p).state = .opened → (s.port p).linkUp = true) ∧ ((s.port p).state = .down → (s.port p).linkUp = false) ∧
    ((s.port p).linkUp = false → (s.lane p).run < 1024 ∧ (s.lane p).frame = none) ∧
    ((s.port p).linkUp = true → (s.lane p).run < 16)

/-- The state table of 01 section 1.4: which of selected reference, E, h and assist reference each state has; SPENT is exactly
holdover with E above threshold D (01:R17); the site class is the class of E (01:R7). -/
def State.TimebaseAgrees (s : State) : Prop :=
  s.tb.siteClass = s.tb.classOf ∧ (∀ e, s.tb.e = some e → e ≤ Config.eMax) ∧
  match s.tb.state with
  | .freeRun => s.tb.selected = none ∧ s.tb.e = none ∧ s.tb.h = none ∧ s.tb.assist = none
  | .acquiring | .locked => s.tb.selected.isSome ∧ s.tb.h = none ∧ s.tb.assist = none
  | .holdover => s.tb.selected = none ∧ s.tb.e.isSome ∧ s.tb.h.isSome ∧ s.tb.assist = none ∧ s.tb.spentE = false
  | .assisted => s.tb.selected = none ∧ s.tb.e.isSome ∧ s.tb.h.isSome ∧ s.tb.assist.isSome ∧ s.tb.spentE = false
  | .spent => s.tb.selected = none ∧ s.tb.h.isSome ∧ s.tb.spentE = true

/-- Running values within their ranges (00 section 6, 01:R5, 04:R73). -/
def State.InRange (s : State) : Prop :=
  s.tb.siteTime < Config.siteMod ∧ s.tb.siteFrac < Config.secNs ∧ s.tb.runCounter < Config.secMod ∧
  s.tb.lastBoundary < Config.secMod ∧ s.tb.nextSecond < Config.secMod ∧
  -Config.freqMax ≤ s.tb.freqCorr ∧ s.tb.freqCorr ≤ Config.freqMax ∧ s.tb.lockRun ≤ 16 ∧ s.tb.unlockRun ≤ 4 ∧
  s.tb.lockedTime ≤ 86400 ∧ (∀ h, s.tb.h = some h → h ≤ Config.eMax) ∧
  ∀ p, (s.port p).queue.length ≤ 16

/-- A reference in LOCKED-OUT has fault score 4, and a reference with fault score 4 is LOCKED-OUT or DISABLED (02:R39). -/
def State.LockoutAgrees (s : State) : Prop :=
  ∀ i, (s.ref i).faultScore ≤ 4 ∧ ((s.ref i).state = .lockedOut → (s.ref i).faultScore = 4) ∧
    ((s.ref i).faultScore = 4 → (s.ref i).state = .lockedOut ∨ (s.ref i).state = .disabled)

/-- Each output is in the state that its enabled field and the site class give; outside RUNNING its line is LOW and it holds no edge,
fall or plan, and in RUNNING it holds an edge and a plan (08:R141). -/
def State.OutputsAgree (s : State) : Prop :=
  ∀ i,
    (s.out i).state = (if (s.out i).enabled then
      (if s.tb.siteClass.rank ≤ (s.out i).minClass.rank then .running else .squelched) else .off) ∧
    ((s.out i).state = .running → (s.out i).nextEdge.isSome ∧ (s.out i).plan.isSome) ∧
    ((s.out i).state ≠ .running → (s.out i).line = .low ∧ (s.out i).nextEdge = none ∧ (s.out i).fallRemaining = none ∧
      (s.out i).plan = none ∧ (s.out i).changeWaiting = false)

/-- No two live leases hold the same tag (05:R90); every port counts its live leases, 4 at most (05:R92, 04:R75); the PEER entry of a
BOUND offer names the lease (05:R95, 02:R45). -/
def State.LeasesAgree (s : State) : Prop :=
  (∀ l k x y, s.lease l = some x → s.lease k = some y → x.tag = y.tag → l = k) ∧
  (∀ p, (s.port p).liveLeases = s.liveOn p ∧ (s.port p).liveLeases ≤ 4) ∧
  ∀ l x p, s.lease l = some x → x.offer = .bound p → (s.ref p.entry).boundLease = some l

/-- No two alarm records have the same key; a record of a momentary kind is CLEARED-UNSEEN (09:R152); an ACTIVE record whose subject is a lease names a live lease with the record's tag
(09:R150); slot 0 is the overflow record's alone (09:R149). -/
def State.AlarmsAgree (s : State) : Prop :=
  ∀ (i : SlotIx) (r : AlarmRecord), s.alarm.slots[i].record = some r →
    (r.kind = .alarmOverflow ↔ i = 0) ∧ (r.kind.momentary = true → r.state = .clearedUnseen) ∧
    (r.kind.subjectType = 3 → r.state.active = true →
      ∃ (l : LeaseIx) (x : Lease), r.subject = l.val ∧ s.lease l = some x ∧ r.tag = some x.tag) ∧
    ∀ (j : SlotIx) (q : AlarmRecord), s.alarm.slots[j].record = some q → q.kind = r.kind → q.subject = r.subject → j = i

/-! ### Requests and answers, for statements about the management port -/

/-- The command that carries request `x` so far acts now: the whole transaction, taken (10:R166), or the request in execution. -/
def State.RequestActs (s : State) (x : Executing) (stage : Stage) : Prop :=
  s.resetLow = false ∧
  ((stage = .whole ∧ s.mgmt.executing = none ∧ requestLength x.req ≤ x.req.clocked) ∨
   (stage = .acts ∧ s.mgmt.executing = some x))

/-- The oscillator's count when the request that acts now was taken. -/
def State.requestTaken (u : State) (stage : Stage) : Nat :=
  match stage with
  | .acts => u.mgmt.takenAt
  | .taken | .whole => u.clock.osc

/-- The lease was suspended by the scanner or a conflict no earlier than `taken`, had `revision` before it, and stands as that
suspension left it (06:R114, 07:R135, log entry 41). -/
def State.SuspensionMet (u : State) (l : LeaseIx) (taken : Nat) (revision : Rev) : Prop :=
  ∃ x m, u.lease l = some x ∧ x.state = .suspended ∧ x.mark = some m ∧ m.before = revision ∧ m.after = (u.slot l).rev ∧
    taken ≤ m.osc

/-- An answer as 10:R167 lays it out, after the status byte. -/
def Answer.laidOut (a : Answer) : List Byte :=
  [BitVec.ofNat 8 a.code.value, a.kind, a.table, a.form, a.group] ++
    (List.range 8).map (fun k => a.key.extractLsb' (56 - 8 * k) 8) ++ [a.revision, BitVec.ofNat 8 a.fields.length] ++
    a.fields.flatMap fun f => f.id :: (List.range 4).map fun k => f.value.extractLsb' (24 - 8 * k) 8

/-- The request in execution has ended and `a` is the last answer (10:R166). -/
def State.Answered (t : State) (a : Answer) : Prop := t.mgmt.executing = none ∧ t.mgmt.lastAnswer = some a

/-- The request of kind `kind` was answered DONE with the record of table `tab` at key index `k` as it now stands, in INDEX form
(10:R167, R168, R170). -/
def State.AnsweredDone (t : State) (kind : Byte) (tab : Table) (k : Nat) (group : Byte) : Prop :=
  t.Answered
    { code := .done, kind := kind, table := BitVec.ofNat 8 tab.code, form := formIndex, group := group,
      key := BitVec.ofNat 64 k, revision := t.slotRevision tab k,
      fields := inGroup group ((t.recordFields tab k).getD []) }

/-- The request of kind `kind` was answered DONE with the key index and the new revision of its slot, and no fields (10:R168). -/
def State.AnsweredSlot (t : State) (kind : Byte) (tab : Table) (k : Nat) (group : Byte) : Prop :=
  t.Answered
    { code := .done, kind := kind, table := BitVec.ofNat 8 tab.code, form := formIndex, group := group,
      key := BitVec.ofNat 64 k, revision := t.slotRevision tab k, fields := [] }

/-- The request of kind `kind` was answered DONE with the status summary (10:R175, R176). -/
def State.AnsweredStatus (t : State) (kind group : Byte) : Prop :=
  t.Answered
    { code := .done, kind := kind, table := 0x01, form := formIndex, group := group, key := 0, revision := t.tb.rev,
      fields := inGroup group t.statusFields }

/-- The request `x` was answered with `code`, which is not DONE: table and key as sent, no fields (10:R168). -/
def State.AnsweredRefusal (t : State) (x : Executing) (code : AnswerCode) (rev : Rev) : Prop :=
  t.Answered
    { code := code, kind := x.kind, table := x.table, form := x.req.form, group := x.req.group, key := x.req.key,
      revision := rev, fields := [] }

/-! ### Parts of the state, for frame statements -/

/-- The settings of the timebase record (01:R4, access change). -/
structure TbSettings where
  revertive : Bool
  waitToRestore : Nat
  stepPolicy : StepPolicy
  stepThreshold : Nat
  slewLimit : Nat
  lockThreshold : Nat
  wanderLimit : Nat
  minLockTime : Nat
  thresholds : Nat × Nat × Nat × Nat
  g0 : Nat
  aging : Nat
  assistedRate : Nat
  deriving DecidableEq, Repr

def Timebase.settings (t : Timebase) : TbSettings :=
  ⟨t.revertive, t.waitToRestore, t.stepPolicy, t.stepThreshold, t.slewLimit, t.lockThreshold, t.wanderLimit, t.minLockTime,
   (t.thrA, t.thrB, t.thrC, t.thrD), t.g0, t.aging, t.assistedRate⟩

/-- The settings of a reference entry (02:R26, access change, less enabled). -/
structure RefSettings where
  priority : Nat
  declaredError : Nat
  inputDelay : Int
  edge : Edge
  qualifyTarget : Nat
  holdOff : Nat
  freqLimit : Nat
  deriving DecidableEq, Repr

def RefEntry.settings (e : RefEntry) : RefSettings :=
  ⟨e.priority, e.declaredError, e.inputDelay, e.edge, e.qualifyTarget, e.holdOff, e.freqLimit⟩

/-- Asymmetry, spread limit and scan interval of a port (04:R75, access change). -/
def Port.settings (r : Port) : Int × Nat × Nat := (r.asymmetry, r.spreadLimit, r.scanInterval)

/-- State, link up, live leases and revision of a port (04:R75). -/
def Port.standing (r : Port) : PortState × Bool × Nat × Rev := (r.state, r.linkUp, r.liveLeases, r.rev)

/-- Enabled, N, phase offset, width and minimum class of an output (08:R140, access change). -/
def Output.settings (o : Output) : Bool × Nat × Nat × Nat × Grade := (o.enabled, o.n, o.phase, o.width, o.minClass)

/-- Source, argument, include acknowledged, polarity and revision of an alarm line (09:R162). -/
def AlarmLine.settings (l : AlarmLine) : LineSource × Word × Bool × Polarity × Rev :=
  (l.source, l.argument, l.includeAcked, l.polarity, l.rev)

/-- A lease less the notice that waits in its notice slot (07:R117, R122), and less the model's own mark of a suspension. -/
def Lease.core (x : Lease) : Lease := { x with notice := none, mark := none }

/-- Parts of the state. `tbSettings`, `refSettings`, `portSettings`, `portStates`, `leaseCore`, `outSettings` and `setup` lie within `tb`, `refs`,
`ports`, `leases`, `outs` and `mgmt`; `leaseCore` is the lease table less the waiting notices and the model's marks,
`portStates` the ports' states, link up, live leases and revisions. -/
inductive Part where
  | clock | tb | tbSettings | wires | refs | refSettings | ports | portSettings | portStates | lanes | leases | leaseCore | admission | outs
  | outSettings
  | slots | kinds | threshold | lines | pins | rooms | mgmt | setup | resetLow | pending
  deriving DecidableEq, Repr

/-- `t` holds a part as `s` does. `lines` is the line records' settings; `pins` is ATTN, ATTN_N, the lines' levels and pins. -/
def State.Same (s t : State) : Part → Prop
  | .clock => t.clock = s.clock
  | .tb => t.tb = s.tb
  | .tbSettings => t.tb.settings = s.tb.settings
  | .wires => t.wires = s.wires
  | .refs => t.refs = s.refs
  | .refSettings => ∀ i, (t.ref i).settings = (s.ref i).settings
  | .ports => t.ports = s.ports
  | .portSettings => ∀ p, (t.port p).settings = (s.port p).settings
  | .portStates => ∀ p, (t.port p).standing = (s.port p).standing
  | .lanes => t.lanes = s.lanes
  | .leases => t.leases = s.leases
  | .leaseCore => ∀ l, (t.slot l).rev = (s.slot l).rev ∧ (t.lease l).map Lease.core = (s.lease l).map Lease.core
  | .admission => t.admission = s.admission
  | .outs => t.outs = s.outs
  | .outSettings => ∀ i, (t.out i).settings = (s.out i).settings
  | .slots => t.alarm.slots = s.alarm.slots
  | .kinds => t.alarm.kinds = s.alarm.kinds
  | .threshold => t.alarm.threshold = s.alarm.threshold ∧ t.alarm.thresholdRev = s.alarm.thresholdRev
  | .lines => ∀ i : LineIx, t.alarm.lines[i].settings = s.alarm.lines[i].settings
  | .pins => t.alarm.attn = s.alarm.attn ∧ t.alarm.attnN = s.alarm.attnN ∧
      ∀ i : LineIx, t.alarm.lines[i].active = s.alarm.lines[i].active ∧ t.alarm.lines[i].pin = s.alarm.lines[i].pin
  | .rooms => t.alarm.rooms = s.alarm.rooms
  | .mgmt => t.mgmt = s.mgmt
  | .setup => t.mgmt.setup = s.mgmt.setup
  | .resetLow => t.resetLow = s.resetLow
  | .pending => t.pending = s.pending

/-- Lease slot `l` holds from `s` to `t` what it held, a waiting notice and the model's mark apart. -/
def State.LeaseKept (s t : State) (l : LeaseIx) : Prop :=
  (t.slot l).rev = (s.slot l).rev ∧ (t.lease l).map Lease.core = (s.lease l).map Lease.core

/-- Lease slot `l`, live in `s`, is free in `t`, one revision on (07:R133). -/
def State.LeaseRetired (s t : State) (l : LeaseIx) : Prop := t.slot l = ⟨(s.slot l).rev + 1, none⟩

/-- Lease slot `l` holds `y` in `t`, a waiting notice and the model's mark apart, one revision on from `s` (07:R117). -/
def State.LeaseMoved (s t : State) (l : LeaseIx) (y : Lease) : Prop :=
  (t.slot l).rev = (s.slot l).rev + 1 ∧ (t.lease l).map Lease.core = some y.core

/-- From `s` to `t` the scanner or a conflict has suspended the lease, and the model's own mark says so (log entry 41). -/
def State.LeaseMarked (s t : State) (l : LeaseIx) : Prop :=
  (t.lease l).bind Lease.mark = some ⟨(s.slot l).rev, (s.slot l).rev + 1, s.clock.osc⟩

/-- From `s` to `t` the port has gone silent: its queue and schedule are empty, its scanner is as after reset, and a frame in
transmission was ended at the instant of `s` (04:R74, R78, R79; 06:R115). -/
def State.PortSilent (s t : State) (p : PortIx) : Prop :=
  (t.port p).queue = [] ∧ (t.port p).schedule = [] ∧ (t.port p).scanner = ⟨none, none, none, none⟩ ∧
  (t.port p).tx = (s.port p).tx.map fun x => match x.item with
    | .frame _ => { x with endsAt := min x.endsAt s.clock.osc }
    | .symbol _ => x

/-- What a raise or a clear may touch: the alarm table, its room announcements, ATTN and the pins. -/
def Part.ofAlarms : List Part := [.slots, .rooms, .pins]

/-- What a fault of a reference entry may touch: the entry; the timebase and the site class with what follows from them; a bound lease
that a lockout suspends, with its port's queue, schedule and scanner; alarms. -/
def Part.ofFault : List Part := [.refs, .tb, .ports, .leases, .leaseCore, .outs, .slots, .rooms, .pins]

/-- What a retirement of leases may touch: as a fault, and the ports' counts and revisions. -/
def Part.ofRetirement : List Part := .portStates :: Part.ofFault

/-- From `s` to `t` nothing but the parts `ps` has changed. -/
def State.OnlyTouches (ps : List Part) (s t : State) : Prop := ∀ p, p ∉ ps → s.Same t p

end Sys2Proof.Machine
end

