-- ==== Sys2Proof/Certificates/Slice0/Obligations.lean ====
section
/-! DEFINITION. The statements about the model, for the provers. `u` is always the part at the instant the command acts: `s` with the
command's `dt` gone by; of a command of a lane, once the symbols before its own have been heard, and of a frame, once it has left the
receiver (log entry 36). A frame `u.OnlyTouches ps t` says that every part of the state not listed in `ps` is as it was. `dt`, the stages of a request and the
operands of a request are the model's form of a command: log entries 2 and 13. -/
open Sys2Proof Sys2Proof.Machine

/-! ### The queue of commands, RESET_N, and what every step keeps -/

/-- A step takes the command at the front of the queue and answers what `exec` answers on the queue's rest; on an empty queue
the part idles (the model's choice: log entry 1). -/
def Obligations.StepRunsTheFrontCommand : Prop :=
  (∀ (s : State) (c : Instr) (rest : List Instr), s.pending = c :: rest → step s = exec c { s with pending := rest }) ∧
  ∀ s : State, s.pending = [] → step s = .next s

/-- RESET_N falling takes every block to its values after reset and holds it there; RESET_N rising lets it go from those
values. While it is low nothing but its own edges changes the part. RESTART takes every block to its values after reset, and no
answer follows. The waiting commands stay, being the model's and not the part's. The model's choices in it: log entries 13, 22, 24,
31. -/
def Obligations.ResetNAndRestartTakeResetValues : Prop :=
  (∀ (s : State) (c : Instr), s.resetLow = true → c ≠ .resetN → (∀ dt, c ≠ .resetNRelease dt) → exec c s = .next s) ∧
  (∀ s : State, exec .resetN s = .next { State.reset with resetLow := true, pending := s.pending }) ∧
  (∀ (s : State) (dt : Nat), s.resetLow = true →
    exec (.resetNRelease dt) s = .next { State.reset with pending := s.pending }) ∧
  (∀ (s u : State) (dt : Nat), s.At dt u →
    ∃ t, exec (.resetNRelease dt) s = .next t ∧ u.OnlyTouches [.pins] t) ∧
  ∀ (s : State) (dt : Nat) (table : Byte) (req : Request) (stage : Stage), req.NamesNothing →
    s.RequestActs ⟨0x13, table, req⟩ stage →
    ∃ t, exec (.restart dt table req stage) s = .next t ∧ t.mgmt.executing = none ∧ t.mgmt.lastAnswer = none ∧
      t.mgmt.setup = .opened ∧ t.pending = s.pending ∧ State.reset.OnlyTouches [.mgmt, .pending] t

/-- What reset leaves in each block. -/
def Obligations.ResetLeavesTheStatedValues : Prop :=
  let r := State.reset
  (r.tb.state = .freeRun ∧ r.tb.siteTime = 0 ∧ r.tb.runCounter = 0 ∧ r.tb.e = none ∧ r.tb.siteClass = .none ∧
    r.tb.freqCorr = 0 ∧ r.tb.selected = none ∧ r.tb.forced = none ∧ r.tb.assist = none ∧ r.tb.restore = none ∧
    r.tb.lockRun = 0 ∧ r.tb.unlockRun = 0 ∧ r.tb.lockedTime = 0 ∧ r.tb.h = none ∧ r.tb.lastBoundary = 0 ∧
    r.tb.stepNumber = 0 ∧ r.tb.rev = 0 ∧
    r.tb.settings = ⟨false, 300, .slewWhileServing, 1000, 100, 50, 500, 300, (100, 350, 1100, 5000), 1, 1800, 1⟩) ∧
  (∀ i, (r.ref i).state = .disabled ∧ (r.ref i).enabled = false ∧ (r.ref i).faultCause = none ∧
    (r.ref i).faultScore = 0 ∧ (r.ref i).usableSince = none ∧ (r.ref i).boundLease = none ∧ (r.ref i).rev = 0 ∧
    (r.ref i).progress = 0 ∧ (r.ref i).holdOffRemaining = none ∧ (r.ref i).lastOffset = none ∧
    (r.ref i).lastFreq = none ∧ (r.ref i).pendingLabel = none ∧ (r.ref i).priority = 8 ∧ (r.ref i).inputDelay = 0 ∧
    (r.ref i).edge = .rising ∧ (r.ref i).qualifyTarget = 30 ∧ (r.ref i).holdOff = 60) ∧
  ((r.ref 0).declaredError = 40 ∧ (r.ref 1).declaredError = 40 ∧ (r.ref 2).declaredError = 150 ∧
    (r.ref 3).declaredError = 100 ∧ (r.ref 6).declaredError = 60 ∧ (r.ref 7).declaredError = 60 ∧
    (r.ref 4).freqLimit = 50 ∧ (r.ref 5).freqLimit = 50) ∧
  (∀ p, (r.port p).state = .closed ∧ (r.port p).linkUp = false ∧ (r.port p).asymmetry = 0 ∧
    (r.port p).spreadLimit = 50 ∧ (r.port p).scanInterval = 10 ∧ (r.port p).liveLeases = 0 ∧ (r.port p).rev = 0 ∧
    (r.port p).queue = [] ∧ (r.port p).schedule = [] ∧ (r.port p).scanner = ⟨none, none, none, none⟩ ∧
    r.lane p = ⟨0, none⟩) ∧
  (∀ l, r.slot l = ⟨0, none⟩) ∧ (∀ i, r.admissionSlot i = ⟨0, none⟩) ∧
  (∀ i, (r.out i).state = .off ∧ (r.out i).enabled = false ∧ (r.out i).stored = ⟨1, 0, 100000000⟩ ∧
    (r.out i).minClass = .d ∧ (r.out i).rev = 0 ∧ (r.out i).line = .low ∧ (r.out i).nextEdge = none ∧
    (r.out i).fallRemaining = none ∧ (r.out i).plan = none ∧ (r.out i).changeWaiting = false) ∧
  (∀ i : SlotIx, r.alarm.slots[i] = ⟨0, none⟩) ∧ r.alarm.threshold = .minor ∧ r.alarm.attn = false ∧
  r.alarm.attnN = .high ∧ (∀ i : LineIx, r.alarm.lines[i].source = .constant ∧ r.alarm.lines[i].includeAcked = false ∧
    r.alarm.lines[i].polarity = .activeLow ∧ r.alarm.lines[i].rev = 0 ∧ r.alarm.lines[i].active = false ∧
    r.alarm.lines[i].pin = .high) ∧
  r.mgmt.executing = none ∧ r.mgmt.lastAnswer = none ∧ r.mgmt.setup = .opened

/-- ATTN, ATTN_N, the alarm lines and their pins agree with the tables in every state a step answers. The model's choices in
it: log entries 14, 15. -/
def Obligations.PinsAgreeAfterEveryStep : Prop :=
  ∀ s t : State, s.PinsAgree → step s = .next t → t.PinsAgree

/-! ### The management port -/

/-- A status poll: the status byte, then 0x00 for every further byte, and nothing else changes. An answer transaction with an
answer held and no request in execution: the answer's bytes, 0x00 beyond them, and the answer is consumed when all 16 + 5F bytes
were clocked out. With no answer held, or with a request in execution, it shows NOT-READY with every other byte 0 and consumes
nothing. -/
def Obligations.StatusAndAnswerTransactions : Prop :=
  (∀ (s u : State) (dt extra : Nat) (first : Byte), s.At dt u → first ≠ 0x01#8 → first ≠ 0x02#8 →
    ∃ t, exec (.statusPoll dt first extra) s = .next t ∧ u.OnlyTouches [.mgmt, .pins] t ∧
      t.mgmt = { s.mgmt with
        miso := (if s.mgmt.executing.isSome then 0x01 else if s.mgmt.lastAnswer.isSome then 0x02 else 0x00) ::
          List.replicate extra 0x00 }) ∧
  ∀ (s u : State) (dt clocked : Nat), s.At dt u → 1 ≤ clocked →
    (∀ a : Answer, s.mgmt.executing = none → s.mgmt.lastAnswer = some a →
      ∃ t, exec (.answerTransaction dt clocked) s = .next t ∧ u.OnlyTouches [.mgmt, .pins] t ∧
        t.mgmt = { s.mgmt with
          lastAnswer := if 16 + 5 * a.fields.length ≤ clocked then none else some a
          miso := (0x02 :: a.laidOut).take clocked ++ List.replicate (clocked - (16 + 5 * a.fields.length)) 0x00 }) ∧
    (s.mgmt.executing.isSome ∨ s.mgmt.lastAnswer = none →
      ∃ t, exec (.answerTransaction dt clocked) s = .next t ∧ u.OnlyTouches [.mgmt, .pins] t ∧
        t.mgmt = { s.mgmt with
          miso := ((if s.mgmt.executing.isSome then 0x01 else 0x00) :: 0x08 :: List.replicate clocked 0x00).take clocked })

/-- A JOIN matches a live admission entry when its tag and the entry's tag value agree in every bit that is set in the entry's
tag mask, and the port it was received on is in the entry's port set. The entries are read as they stand when the JOIN is taken,
in index order: the first live entry that matches decides the JOIN, and with none the JOIN has no match. A lease a JOIN creates
is admitted by that entry. -/
def Obligations.JoinIsMatchedInIndexOrder : Prop :=
  (∀ (a : Admission) (tag : Tag) (p : PortIx),
    a.admits tag p = true ↔
      (∀ n, n < 32 → a.tagMask.getLsbD n = true → tag.getLsbD n = a.tagValue.getLsbD n) ∧ a.ports.getLsbD p.val = true) ∧
  (∀ (s : State) (tag : Tag) (p : PortIx),
    let admitted := fun i : AdmIx => ∃ a, (s.admissionSlot i).entry = some a ∧ a.admits tag p = true
    (∀ i, s.matching tag p = some i ↔ admitted i ∧ ∀ j, j < i → ¬ admitted j) ∧
    (s.matching tag p = none ↔ ∀ i, ¬ admitted i)) ∧
  ∀ (s u : State) (dt : Nat) (p : PortIx) (heard : List RxSymbol) (body : JoinBody), s.FrameAt dt p heard (.join body) u →
    (∀ k x, u.lease k = some x → x.tag ≠ body.tag) →
    ∃ t, exec (.join dt ⟨p, heard⟩ body) s = .next t ∧
      ∀ l y, t.lease l = some y → y.tag = body.tag → u.matching body.tag p = some y.admission

/-- A request transaction: disregarded while a request is in execution, discarded when CS_N rises early, else taken. `stage`
taken is the transaction alone; a transaction not taken changes nothing in the stage that would carry its effect either (log
entry 13). The instant a request is taken at is the model's own record (log entry 41). -/
def Obligations.RequestTransactionIsTakenOrLeft : Prop :=
  ∀ (s u : State) (i : Instr) (dt : Nat) (x : Executing) (stage : Stage), s.At dt u → i.asRequest = some (dt, x, stage) →
    let taken : Prop := s.mgmt.executing = none ∧ requestLength x.req ≤ x.req.clocked
    let status : Byte := if s.mgmt.executing.isSome then 0x01 else if s.mgmt.lastAnswer.isSome then 0x02 else 0x00
    let miso := (status :: List.replicate x.req.clocked 0x00).take x.req.clocked
    (stage = .taken → taken →
      ∃ t, exec i s = .next t ∧ u.OnlyTouches [.mgmt, .pins] t ∧
        t.mgmt = { executing := some x, lastAnswer := none, setup := s.mgmt.setup, miso := miso, takenAt := u.clock.osc }) ∧
    (stage = .taken ∨ stage = .whole → ¬ taken →
      ∃ t, exec i s = .next t ∧ u.OnlyTouches [.mgmt, .pins] t ∧ t.mgmt = { s.mgmt with miso := miso }) ∧
    (stage = .acts → s.mgmt.executing ≠ some x → ∃ t, exec i s = .next t ∧ u.OnlyTouches [.pins] t)

/-- The four checks before a kind's own, in order: an unknown kind, table, key form or field group gives UNKNOWN-REQUEST, a
field count above 12 BAD-FIELD, a key that names no record NO-SUCH, a revision that is not the record's STALE; nothing else
changes. A SUSPEND that comes second to a suspension by the scanner or a conflict is spared the check of the revision. CREATE and
NEXT answer for their keys themselves. The model's choices in it: log entries 13, 16, 17, 41. -/
def Obligations.ChecksAreMadeInOrder : Prop :=
  ∀ (s u : State) (i : Instr) (dt : Nat) (x : Executing) (stage : Stage), s.At dt u →
    i.asRequest = some (dt, x, stage) → s.RequestActs x stage →
    let refused := fun code => ∃ t rev, exec i s = .next t ∧ u.OnlyTouches [.mgmt, .pins] t ∧
      t.AnsweredRefusal x code rev
    (requestKnown x.kind x.table x.req = false → refused .unknownRequest) ∧
    (requestKnown x.kind x.table x.req = true → 12 < x.req.count.toNat → refused .badField) ∧
    (∀ tab, requestKnown x.kind x.table x.req = true → x.req.count.toNat ≤ 12 → keyless x.kind = false → x.kind ≠ 0x02 →
      x.kind ≠ 0x04 → Table.ofCode x.table.toNat = some tab →
      (u.keyNamed tab x.req = none → refused .noSuch) ∧
      (∀ k, u.keyNamed tab x.req = some k → u.recordAt tab k = false → refused .noSuch) ∧
      (∀ k, u.keyNamed tab x.req = some k → u.recordAt tab k = true → x.kind ∈ [0x03, 0x05, 0x06, 0x07, 0x08, 0x09, 0x0B] →
        x.req.revision ≠ u.slotRevision tab k →
        (∀ l : LeaseIx, x.kind = 0x08 → k = l.val → ¬ u.SuspensionMet l (u.requestTaken stage) x.req.revision) →
        ∃ t, exec i s = .next t ∧ u.OnlyTouches [.mgmt, .pins] t ∧ t.AnsweredRefusal x .stale (u.slotRevision tab k)))

/-- LOOK returns the record its key names, in the group asked for, and changes nothing: an INDEX key on every table, an
ALARM-KEY key on ALARM, whose answer carries the key in that form. The model's choices in it: log entries 13, 14, 16, 17, 40, 49. -/
def Obligations.LookReturnsTheRecord : Prop :=
  ∀ (s u : State) (dt : Nat) (tab : Table) (req : Request) (stage : Stage), s.At dt u →
    s.RequestActs ⟨0x01, BitVec.ofNat 8 tab.code, req⟩ stage →
    (∀ k, req.NamesIndex k → k ∈ tableKeys tab → u.recordAt tab k = true →
      ∃ t, exec (.look dt tab req stage) s = .next t ∧ u.OnlyTouches [.mgmt, .pins] t ∧ t.AnsweredDone 0x01 tab k req.group) ∧
    (∀ (i : SlotIx) (r : AlarmRecord), tab = .alarm → req.form = formAlarmKey → req.NamesNothing →
      u.keyNamed .alarm req = some i.val → u.alarm.slots[i].record = some r →
      ∃ t, exec (.look dt tab req stage) s = .next t ∧ u.OnlyTouches [.mgmt, .pins] t ∧
        t.Answered
          { code := .done, kind := 0x01, table := 0x07, form := formAlarmKey, group := req.group, key := r.alarmKey,
            revision := u.alarm.slots[i].rev, fields := inGroup req.group r.fields })

/-- NEXT walks a table. On a table other than ALARM, or with an INDEX key, it returns the first record in index order, or the
first above the index sent. On ALARM, START-KEY and ALARM-KEY walk by key, START-ATTENTION and ATTENTION by severity, first
raised and slot. At the end of the walk it answers NO-SUCH. The model's choices in it: log entries 5, 13, 14, 16, 17. -/
def Obligations.NextWalksTheTable : Prop :=
  ∀ (s u : State) (dt : Nat) (tab : Table) (req : Request) (stage : Stage), s.At dt u → req.NamesNothing →
    s.RequestActs ⟨0x02, BitVec.ofNat 8 tab.code, req⟩ stage →
    let ended := ∃ t rev, exec (.next dt tab req stage) s = .next t ∧ u.OnlyTouches [.mgmt, .pins] t ∧
      t.AnsweredRefusal ⟨0x02, BitVec.ofNat 8 tab.code, req⟩ .noSuch rev
    (∀ place : Option Nat, tab ∈ [.reference, .admission, .lease, .port, .output, .alarm, .alarmKind, .alarmLine] →
      (req.form = formStartKey ∧ tab ≠ .alarm ∧ place = none ∨ req.form = formIndex ∧ place = some (keyIndex req.key)) →
      (∀ k, k ∈ tableKeys tab → (∀ p, place = some p → p < k) → u.recordAt tab k = true →
        (∀ j, j ∈ tableKeys tab → (∀ p, place = some p → p < j) → j < k → u.recordAt tab j = false) →
        ∃ t, exec (.next dt tab req stage) s = .next t ∧ u.OnlyTouches [.mgmt, .pins] t ∧ t.AnsweredDone 0x02 tab k req.group) ∧
      ((∀ k, k ∈ tableKeys tab → (∀ p, place = some p → p < k) → u.recordAt tab k = false) → ended)) ∧
    (∀ (byAttention : Bool) (place : Option Nat), tab = .alarm →
      (byAttention = false ∧ (req.form = formStartKey ∧ place = none ∨
          req.form = formAlarmKey ∧ place = some (alarmKeyNumber req.key)) ∨
        byAttention = true ∧ (req.form = formStartAttention ∧ place = none ∨
          req.form = formAttention ∧ place = some (attentionKeyNumber req.key))) →
      let order := fun (i : SlotIx) (r : AlarmRecord) =>
        if byAttention then attentionNumber r.severity.code r.firstRaised i.val else r.keyNumber
      let beyond := fun (i : SlotIx) (r : AlarmRecord) => u.alarm.slots[i].record = some r ∧ ∀ p, place = some p → p < order i r
      (∀ i r, beyond i r → (∀ j q, beyond j q → j ≠ i → order i r < order j q) →
        ∃ t, exec (.next dt tab req stage) s = .next t ∧ u.OnlyTouches [.mgmt, .pins] t ∧
          t.Answered
            { code := .done, kind := 0x02, table := 0x07, form := if byAttention then formAttention else formAlarmKey
              group := req.group, key := if byAttention then r.attentionKey i else r.alarmKey
              revision := u.alarm.slots[i].rev, fields := inGroup req.group r.fields }) ∧
      ((∀ i r, ¬ beyond i r) → ended))

/-- STATUS returns the status summary and changes nothing. The model's choices in it: log entries 13, 14, 16. -/
def Obligations.StatusReturnsTheSummary : Prop :=
  ∀ (s u : State) (dt : Nat) (table : Byte) (req : Request) (stage : Stage), s.At dt u → req.NamesNothing →
    s.RequestActs ⟨0x14, table, req⟩ stage →
    ∃ t, exec (.status dt table req stage) s = .next t ∧ u.OnlyTouches [.mgmt, .pins] t ∧ t.AnsweredStatus 0x14 req.group

/-- CLOSE-SETUP while setup is OPEN: setup becomes CLOSED, every CLOSED port moves to OPEN or DOWN by its link up, and the
answer is the status summary. Once setup is CLOSED it is answered WRONG-STATE and changes nothing. The model's choices in it:
log entries 9, 13, 14, 16. -/
def Obligations.CloseSetupOpensThePorts : Prop :=
  ∀ (s u : State) (dt : Nat) (table : Byte) (req : Request) (stage : Stage), s.At dt u → req.NamesNothing →
    s.RequestActs ⟨0x12, table, req⟩ stage →
    (u.mgmt.setup = .opened →
      ∃ t, exec (.closeSetup dt table req stage) s = .next t ∧
        u.OnlyTouches [.mgmt, .setup, .ports, .portStates, .slots, .rooms, .pins] t ∧ t.mgmt.setup = .closed ∧
        (∀ p, (t.port p).standing = (if (u.port p).linkUp then .opened else .down, (u.port p).linkUp, (u.port p).liveLeases,
          (u.port p).rev + 1)) ∧
        t.AnsweredStatus 0x12 req.group) ∧
    (u.mgmt.setup = .closed →
      ∃ t, exec (.closeSetup dt table req stage) s = .next t ∧ u.OnlyTouches [.mgmt, .pins] t ∧
        t.AnsweredRefusal ⟨0x12, table, req⟩ .wrongState 0)

/-! ### Site time, the timebase and selection -/

/-- As `dt` ns of the oscillator pass, site time advances by `dt` times 1,000,000,000 ns plus the frequency correction a
second, the part of a ns kept for later (log entry 4); fall remaining counts down with it; over one oscillator second the
advance is whole. An instant an output took while SQUELCHED is past once site time has advanced (the model's own field: log
entry 48). -/
def Obligations.SiteTimeRuns : Prop :=
  ∀ (s u : State) (dt : Nat), s.At dt u → s.InRange →
    ∃ adv : Nat,
      ((adv * 1000000000 + u.tb.siteFrac : Nat) : Int) = dt * (1000000000 + s.tb.freqCorr) + s.tb.siteFrac ∧
      (dt = 1000000000 → (adv : Int) = 1000000000 + s.tb.freqCorr) ∧ u.tb.siteFrac < 1000000000 ∧
      u.tb = { s.tb with
        siteTime := (s.tb.siteTime + adv) % (281474976710656 * 1000000000)
        siteFrac := u.tb.siteFrac } ∧
      u.clock = { s.clock with osc := s.clock.osc + dt } ∧
      (∀ i, u.out i = { s.out i with
        fallRemaining := (s.out i).fallRemaining.map fun r => r - adv, passed := if adv = 0 then (s.out i).passed else none }) ∧
      s.OnlyTouches [.clock, .tb, .outs] u

/-- RUN_SECOND when an oscillator second has elapsed: the run counter, locked time while LOCKED, E and h in holdover, hold-offs
and decay clocks; then the site class and the SPENT test. Past 2^48−1 the run counter is a free value (log entry 6). The
model's choices in it: log entries 3, 28. -/
def Obligations.RunSecondCounts : Prop :=
  ∀ (s u : State) (dt : Nat), s.At dt u →
    (u.clock.nextRunAt ≤ u.clock.osc →
      let holdover : Prop := u.tb.state = .holdover ∨ u.tb.state = .assisted ∨ u.tb.state = .spent
      let growth : Nat := if u.tb.assist.isSome then u.tb.assistedRate else u.tb.g0 + u.tb.h.getD 0 / u.tb.aging
      let e : Option Nat := if holdover then u.tb.e.map (fun v => min 4294967295 (v + growth)) else u.tb.e
      ∃ t, exec (.runSecond dt) s = .next t ∧
        t.clock = { u.clock with nextRunAt := u.clock.nextRunAt + 1000000000 } ∧
        t.tb = { u.tb with
          runCounter := if u.tb.runCounter + 1 < 281474976710656 then u.tb.runCounter + 1
            else (Config.runCounterPastTop u.clock.osc).toNat
          lockedTime := if u.tb.state = .locked then min 86400 (u.tb.lockedTime + 1) else u.tb.lockedTime
          e := e
          h := if holdover then u.tb.h.map (fun v => min 4294967295 (v + 1)) else u.tb.h
          siteClass := ({ u.tb with e := e } : Timebase).classOf
          state := if (u.tb.state = .holdover ∨ u.tb.state = .assisted) ∧ ∃ v, e = some v ∧ u.tb.thrD < v then .spent
            else u.tb.state
          rev := t.tb.rev } ∧
        (∀ i, t.ref i = { u.ref i with
          holdOffRemaining := (u.ref i).holdOffRemaining.map fun r => r - 1
          decayClock := (u.ref i).decayClock.map fun r => r + 1 }) ∧
        u.OnlyTouches [.clock, .tb, .refs, .ports, .leases, .outs, .slots, .rooms, .pins] t) ∧
    (u.clock.osc < u.clock.nextRunAt → ∃ t, exec (.runSecond dt) s = .next t ∧ u.OnlyTouches [.pins] t)

/-- TIMEBASE_SAMPLE: the sample is discarded, slewed or stepped. A slew moves site time by the offset within the slew limit,
the frequency correction by a sixteenth of it, the runs, E and the site class. A step, beyond the step threshold while one is
allowed, moves site time by the whole offset, enters ACQUIRING, drops every schedule, and gives each output its next edge after
the new time. The model's choices in it: log entries 5, 7, 25, 50. -/
def Obligations.SampleCorrectsSiteTime : Prop :=
  ∀ (s u : State) (dt : Nat) (m : Sample) (rest : List Sample), s.At dt u → u.wires.samples = m :: rest →
    let o := m.offset
    let taken : Prop := u.tb.selected = some m.entry ∧ m.step = u.tb.stepNumber
    let allowed : Prop := u.tb.e = none ∨ u.tb.stepPolicy = .stepAny ∨ ∀ l, u.leaseIn l .inService = false
    let e := min 4294967295 ((u.ref m.entry).declaredError + o.natAbs)
    (¬ taken → ∃ t, exec (.timebaseSample dt) s = .next t ∧ u.OnlyTouches [.wires, .pins] t ∧
      t.wires = { u.wires with samples := rest }) ∧
    (taken → ¬ (u.tb.stepThreshold < o.natAbs ∧ allowed) → u.tb.state = .acquiring →
      let run := if o.natAbs ≤ u.tb.lockThreshold then u.tb.lockRun + 1 else 0
      ∃ t, exec (.timebaseSample dt) s = .next t ∧ t.wires = { u.wires with samples := rest } ∧
        t.tb = { u.tb with
          siteTime := moveSite u.tb.siteTime (max (-(u.tb.slewLimit : Int)) (min u.tb.slewLimit o))
          nextSecond := t.tb.nextSecond
          freqCorr := max (-50000) (min 50000 (u.tb.freqCorr + o.tdiv 16))
          lockRun := min 16 run
          state := if run < 16 then .acquiring else .locked
          e := some e
          siteClass := ({ u.tb with e := some e } : Timebase).classOf
          rev := t.tb.rev } ∧
        u.OnlyTouches [.wires, .tb, .ports, .leases, .outs, .slots, .rooms, .pins] t) ∧
    (taken → ¬ (u.tb.stepThreshold < o.natAbs ∧ allowed) → u.tb.state = .locked →
      let run := if 4 * u.tb.lockThreshold < o.natAbs then u.tb.unlockRun + 1 else 0
      ∃ t, exec (.timebaseSample dt) s = .next t ∧ t.wires = { u.wires with samples := rest } ∧
        t.tb = { u.tb with
          siteTime := moveSite u.tb.siteTime (max (-(u.tb.slewLimit : Int)) (min u.tb.slewLimit o))
          nextSecond := t.tb.nextSecond
          freqCorr := max (-50000) (min 50000 (u.tb.freqCorr + o.tdiv 16))
          lockRun := if run < 4 then u.tb.lockRun else 0
          unlockRun := if run < 4 then run else 0
          lockedTime := if run < 4 then u.tb.lockedTime else 0
          h := if run < 4 then u.tb.h else none
          assist := if run < 4 then u.tb.assist else none
          state := if run < 4 then .locked else .acquiring
          e := some e
          siteClass := ({ u.tb with e := some e } : Timebase).classOf
          rev := t.tb.rev } ∧
        u.OnlyTouches [.wires, .tb, .ports, .leases, .outs, .slots, .rooms, .pins] t) ∧
    (taken → u.tb.stepThreshold < o.natAbs → allowed →
      let now := moveSite u.tb.siteTime o
      ∃ t, exec (.timebaseSample dt) s = .next t ∧ t.wires = { u.wires with samples := rest } ∧
        t.tb = { u.tb with
          siteTime := now
          lastBoundary := now / 1000000000
          nextSecond := (now / 1000000000 + 1) % 281474976710656
          stepNumber := u.tb.stepNumber + 1
          state := .acquiring
          assist := none
          lockRun := 0
          unlockRun := 0
          lockedTime := 0
          h := none
          e := some e
          siteClass := ({ u.tb with e := some e } : Timebase).classOf
          rev := t.tb.rev } ∧
        (∀ p, (t.port p).schedule = []) ∧
        (t.tb.siteClass = u.tb.siteClass → ∀ i, (u.out i).state = .running → ∀ p, (u.out i).plan = some p →
          t.out i = { u.out i with nextEdge := some (p.after now) }) ∧
        u.OnlyTouches [.wires, .tb, .ports, .leases, .outs, .slots, .rooms, .pins] t)

/-- ASSIST_MEASUREMENT: a measurement of the assist reference moves the frequency correction, any other is discarded.
REVERTIVE_SWITCH: a restore candidate whose due second the run counter has reached is selected; else nothing happens. The
model's choices in it: log entries 3, 7, 46. -/
def Obligations.AssistAndRevertiveSwitch : Prop :=
  ∀ (s u : State) (dt : Nat), s.At dt u →
    (∀ (m : Measurement) (rest : List Measurement), u.wires.measurements = m :: rest →
      ∃ t, exec (.assistMeasurement dt) s = .next t ∧ t.wires = { u.wires with measurements := rest } ∧
        t.tb = { u.tb with
          freqCorr := if u.tb.assist = some m.line then max (-50000) (min 50000 (u.tb.freqCorr - m.freq)) else u.tb.freqCorr } ∧
        u.OnlyTouches [.wires, .tb, .pins] t) ∧
    (∀ i, u.tb.restore = some i → (u.ref i).usableSince.getD 0 + u.tb.waitToRestore ≤ u.tb.runCounter →
      ∃ t, exec (.revertiveSwitch dt) s = .next t ∧
        t.tb = { u.tb with
          state := .acquiring
          selected := some i
          assist := none
          lockRun := 0
          unlockRun := 0
          lockedTime := 0
          h := none
          restore := t.tb.restore
          rev := t.tb.rev } ∧
        u.OnlyTouches [.tb, .slots, .rooms, .pins] t) ∧
    (u.tb.restore = none ∨ (∃ i, u.tb.restore = some i ∧
        u.tb.runCounter < (u.ref i).usableSince.getD 0 + u.tb.waitToRestore) →
      ∃ t, exec (.revertiveSwitch dt) s = .next t ∧ u.OnlyTouches [.pins] t)

/-- The selected reference is lost (here by a missing sample). With another candidate the best of them is selected; with none
the timebase enters holdover after a lock long enough, E being known, else FREE-RUN. A forced reference that is lost is not
forced any more. The model's choices in it: log entry 3. -/
def Obligations.LossOfTheSelectedReference : Prop :=
  ∀ (s u : State) (dt : Nat) (i : RefIx) (since : Nat), s.At dt u → u.tb.selected = some i → (u.ref i).state = .usable →
    i ≠ 4 → i ≠ 5 → (u.ref i).missingSince = some since → since + 1250000000 ≤ u.clock.osc →
    let forced := if u.tb.forced = some i then none else u.tb.forced
    let long : Prop := u.tb.minLockTime ≤ u.tb.lockedTime ∧ u.tb.e.isSome
    (∀ j, j ≠ i → u.candidate j = true → (∀ k, k ≠ i → k ≠ j → u.candidate k = true → u.ranksBetter j k = true) →
      ∃ t, exec (.missingSampleTimerExpiry dt i) s = .next t ∧ u.OnlyTouches Part.ofFault t ∧
        t.tb = { u.tb with
          state := .acquiring, selected := some j, forced := forced, assist := none, lockRun := 0, unlockRun := 0
          lockedTime := 0, h := none, restore := none, rev := t.tb.rev }) ∧
    ((∀ j, j ≠ i → u.candidate j = false) → long →
      ∃ t, exec (.missingSampleTimerExpiry dt i) s = .next t ∧ u.OnlyTouches Part.ofFault t ∧
        t.tb = { u.tb with
          state := if u.tb.spentE then .spent else if u.bestLine.isSome then .assisted else .holdover
          selected := none, forced := forced, assist := u.bestLine, lockRun := 0, unlockRun := 0, h := some 0
          restore := none, rev := t.tb.rev }) ∧
    ((∀ j, j ≠ i → u.candidate j = false) → ¬ long →
      ∃ t, exec (.missingSampleTimerExpiry dt i) s = .next t ∧ u.OnlyTouches Part.ofFault t ∧
        t.tb = { u.tb with
          state := .freeRun, selected := none, forced := forced, assist := none, lockRun := 0, unlockRun := 0, h := none
          e := none, siteClass := .none, restore := none, rev := t.tb.rev })

/-- SITE_SECOND_BOUNDARY for second `n`, when the consistency check finds no deviant: the MARK of every IN-SERVICE lease for
second `n` + 1 is queued at its OPEN port while there is room, then its boundary symbol is scheduled. `n` is the next second
that the last boundary second does not name: after a slew back across a second that had its boundary, the one after it. While
site time is in the second that the last boundary second names, and before `n` is reached, nothing happens. The model's choices
in it: log entries 3, 5, 25, 26, 50. -/
def Obligations.BoundaryQueuesMarksAndSymbols : Prop :=
  ∀ (s u : State) (dt : Nat), s.At dt u → u.InRange →
    let n := if u.tb.nextSecond = u.tb.lastBoundary then (u.tb.lastBoundary + 1) % 281474976710656 else u.tb.nextSecond
    let marks := fun p : PortIx => (List.finRange 32).filterMap fun l =>
      (u.lease l).bind fun x => if x.state = .inService ∧ x.port = p then
        some (Frame.mark l ((n + 1) % 281474976710656) (x.compensation.getD 0) u.tb.siteClass
          (!u.tb.siteClass.meets x.required) u.tb.state.inHoldover) else none
    let symbols := fun p : PortIx => (List.finRange 32).filterMap fun l =>
      (u.lease l).bind fun x => if x.state = .inService ∧ x.port = p then
        some (SymbolEntry.mk l
          (((n + 1) * 1000000000 + 281474976710656000000000 - x.compensation.getD 0) % 281474976710656000000000)
          ((n + 1) % 281474976710656) u.tb.stepNumber) else none
    (u.tb.secondReached = true →
      (u.tb.state = .locked → ∀ i o, u.judged i = some o → o.natAbs ≤ u.tb.wanderLimit) →
      ∃ t, exec (.siteSecondBoundary dt) s = .next t ∧
        t.tb = { u.tb with nextSecond := (n + 1) % 281474976710656, lastBoundary := n } ∧
        (∀ p, t.port p = { u.port p with
          queue := if (u.port p).state = .opened then ((u.port p).queue ++ marks p).take 16 else (u.port p).queue
          schedule := (u.port p).schedule ++ symbols p }) ∧
        u.OnlyTouches [.tb, .ports, .pins] t) ∧
    (u.tb.nextSecond = u.tb.lastBoundary → u.tb.siteTime / 1000000000 = u.tb.lastBoundary →
      ∃ t, exec (.siteSecondBoundary dt) s = .next t ∧ u.OnlyTouches [.pins] t) ∧
    (u.tb.secondReached = false → ∃ t, exec (.siteSecondBoundary dt) s = .next t ∧ u.OnlyTouches [.pins] t)

/-- The consistency check of a boundary while LOCKED: of the USABLE phase-capable entries not selected whose last offset is
fresh, those off by more than the wander limit are deviant. When two of them agree within the limit the selected reference is
faulted OUTVOTED, else each of them is faulted WANDER. The model's choices in it: log entries 5, 9, 20, 25, 26, 38. -/
def Obligations.ConsistencyCheckFaults : Prop :=
  ∀ (s u : State) (dt : Nat) (sel : RefIx), s.At dt u → u.tb.secondReached = true →
    u.tb.state = .locked → u.tb.selected = some sel → (u.ref sel).state = .usable →
    let deviant := fun (i : RefIx) (o : Int) => (u.ref i).state = .usable ∧ i ≠ 4 ∧ i ≠ 5 ∧ i ≠ sel ∧
      (∃ x, (u.ref i).lastOffset = some x ∧ x.value = o ∧ u.clock.osc ≤ x.formedAt + 1250000000 ∧ x.step = u.tb.stepNumber) ∧
      u.tb.wanderLimit < o.natAbs
    let agree := ∃ i j o q, i ≠ j ∧ deviant i o ∧ deviant j q ∧ (o - q).natAbs ≤ u.tb.wanderLimit
    ∃ t, exec (.siteSecondBoundary dt) s = .next t ∧ u.OnlyTouches Part.ofFault t ∧
      (agree → t.ref sel = (u.ref sel).faulted .outvoted ∧ ∀ i, i ≠ sel → t.ref i = u.ref i) ∧
      (¬ agree → ∀ i, ((∃ o, deviant i o) → t.ref i = (u.ref i).faulted .wander) ∧
        ((∀ o, ¬ deviant i o) → t.ref i = u.ref i))

/-- FORCE of a candidate selects it and holds it forced; RELEASE makes the forced reference absent. FORCE of an entry that is
no candidate, and RELEASE with none forced, are answered WRONG-STATE. The model's choices in it: log entries 9, 13, 14, 16, 17. -/
def Obligations.ForceAndRelease : Prop :=
  ∀ (s u : State) (dt : Nat) (req : Request) (stage : Stage), s.At dt u →
    (∀ i : RefIx, req.NamesIndex i.val → s.RequestActs ⟨0x0E, 0x02, req⟩ stage →
      (u.candidate i = true → u.tb.selected = some i →
        ∃ t, exec (.force dt req stage) s = .next t ∧ u.OnlyTouches [.mgmt, .tb, .pins] t ∧ t.AnsweredDone 0x0E .timebase 0 req.group ∧
          t.tb = { u.tb with
            forced := some i, restore := none, rev := u.tb.rev + (if u.tb.forced = some i then 0 else 1) }) ∧
      (u.candidate i = true → u.tb.selected ≠ some i →
        ∃ t, exec (.force dt req stage) s = .next t ∧ u.OnlyTouches [.mgmt, .tb, .slots, .rooms, .pins] t ∧
          t.AnsweredDone 0x0E .timebase 0 req.group ∧
          t.tb = { u.tb with
            state := .acquiring, selected := some i, forced := some i, assist := none, lockRun := 0, unlockRun := 0
            lockedTime := 0, h := none, restore := none, rev := t.tb.rev }) ∧
      (u.candidate i = false →
        ∃ t rev, exec (.force dt req stage) s = .next t ∧ u.OnlyTouches [.mgmt, .pins] t ∧
          t.AnsweredRefusal ⟨0x0E, 0x02, req⟩ .wrongState rev)) ∧
    (req.NamesNothing → s.RequestActs ⟨0x0F, 0x01, req⟩ stage →
      (u.tb.forced.isSome →
        ∃ t, exec (.release dt req stage) s = .next t ∧ u.OnlyTouches [.mgmt, .tb, .slots, .rooms, .pins] t ∧
          t.AnsweredDone 0x0F .timebase 0 req.group ∧ t.tb.forced = none ∧
          (t.tb.selected = u.tb.selected → t.tb = { u.tb with forced := none, restore := t.tb.restore, rev := u.tb.rev + 1 })) ∧
      (u.tb.forced = none →
        ∃ t rev, exec (.release dt req stage) s = .next t ∧ u.OnlyTouches [.mgmt, .pins] t ∧
          t.AnsweredRefusal ⟨0x0F, 0x01, req⟩ .wrongState rev))

/-! ### Reference entries -/

/-- LABEL_FRAME: characters of 86,806 ns each that follow one another without a gap of more than 500 µs, the last ending now. After
a gap they begin a frame, and the tenth ends it. A frame with correct stop bits, marker 0x5C, a status, the seconds and a correct
check is taken by an entry in QUALIFYING or USABLE that has been out of DISABLED since the frame began: a VALID label becomes the
pending label, one that is not VALID is fault REPORTED. Any other frame is discarded. Fewer than ten are held by the receiver,
and what follows them without a gap joins them; what follows a tenth without a gap belongs to no frame. The model's choices in
it: log entries 9, 37. -/
def Obligations.LabelFrameIsTaken : Prop :=
  ∀ (s u : State) (dt : Nat) (k : Fin 4) (first : LabelChar) (rest : List LineChar), s.At dt u →
    let i := pulseEntry k
    let e := u.ref i
    let lasts := 86806 + (rest.map fun c => c.wait + 86806).sum
    let start := u.clock.osc - lasts
    let chars := first :: rest.map fun c => c.char
    let others := fun t : State => ∀ j, j ≠ i → t.ref j = u.ref j
    let held := fun f : Option LabelRun => ∃ t, exec (.labelFrame dt k first rest) s = .next t ∧ u.OnlyTouches [.refs, .pins] t ∧
      others t ∧ t.ref i = { e with receiver := ⟨u.clock.osc, f⟩ }
    let listens : Prop := (e.state = .qualifying ∨ e.state = .usable) ∧ ∃ x, e.listenSince = some x ∧ x ≤ start
    lasts ≤ u.clock.osc → (∀ c ∈ rest, c.wait ≤ 500000) →
    (e.receiver.quietSince + 500000 < start →
      (chars.length < 10 → held (some ⟨start, chars⟩)) ∧
      (10 ≤ chars.length → ¬ listens ∨ labelOfChars (chars.take 10) = none → held none) ∧
      ∀ (seconds : BitVec 48) (valid : Bool),
        let body : List Byte := [0x5C, if valid then 1 else 0] ++
          (List.range 6).map fun j => seconds.extractLsb' (40 - 8 * j) 8
        let check := crc16 body
        listens → chars.take 10 = (body ++ [check.extractLsb' 8 8, check.extractLsb' 0 8]).map (fun b => LabelChar.mk b true) →
        (valid = true →
          ∃ t, exec (.labelFrame dt k first rest) s = .next t ∧ u.OnlyTouches [.refs, .pins] t ∧ others t ∧
            t.ref i = { e with receiver := ⟨u.clock.osc, none⟩, pendingLabel := some ⟨seconds, true⟩ }) ∧
        (valid = false →
          ∃ t, exec (.labelFrame dt k first rest) s = .next t ∧ u.OnlyTouches Part.ofFault t ∧ others t ∧
            t.ref i = ({ e with receiver := ⟨u.clock.osc, none⟩ } : RefEntry).faulted .reported)) ∧
    (start ≤ e.receiver.quietSince + 500000 →
      (e.receiver.frame = none → held none) ∧
      ∀ f, e.receiver.frame = some f → f.chars.length + chars.length < 10 → held (some ⟨f.startedAt, f.chars ++ chars⟩))

/-- REFERENCE_EDGE of the selected polarity on an entry in QUALIFYING or USABLE whose missing-sample timer has not passed its
end, 750 ms or more after the previous accepted edge and with a pending label: the offset is the label's second less the edge's
site time less the input delay. It is stored, offered when the entry is USABLE and selected, and adds to the qualify progress.
The model's choices in it: log entries 3, 7, 8, 9, 21. -/
def Obligations.EdgeGivesASample : Prop :=
  ∀ (s u : State) (dt : Nat) (k : Fin 4) (prev : Nat) (b : Label), s.At dt u →
    let i := pulseEntry k
    let e := u.ref i
    let o : Int := b.seconds.toNat * 1000000000 - (u.tb.siteTime - e.inputDelay)
    let stored := some (Offset.mk (max (-9223372036854775807) (min 9223372036854775807 o)) u.clock.osc u.tb.stepNumber)
    let after : RefEntry := { e with
      prevEdge := some u.clock.osc, missingSince := some u.clock.osc, pendingLabel := none, labelLess := 0, lastOffset := stored }
    e.prevEdge = some prev → prev + 750000000 ≤ u.clock.osc → e.pendingLabel = some b →
    (∀ x, e.missingSince = some x → u.clock.osc ≤ x + 1250000000) → ¬ (u.tb.state = .locked ∧ 500000000 < o.natAbs) →
    (e.state = .usable →
      ∃ t, exec (.referenceEdge dt k e.edge) s = .next t ∧ u.OnlyTouches [.refs, .wires, .pins] t ∧ t.ref i = after ∧
        (∀ j, j ≠ i → t.ref j = u.ref j) ∧
        t.wires = { u.wires with
          samples := u.wires.samples ++ if u.tb.selected = some i then [⟨i, o, u.tb.stepNumber⟩] else [] }) ∧
    (e.state = .qualifying →
      ∃ t, exec (.referenceEdge dt k e.edge) s = .next t ∧ u.OnlyTouches [.refs, .tb, .slots, .rooms, .pins] t ∧
        (∀ j, j ≠ i → t.ref j = u.ref j) ∧
        t.ref i =
          if u.tb.state = .locked ∧ u.tb.wanderLimit < o.natAbs then { after with progress := 0 }
          else if e.progress + 1 < e.qualifyTarget then { after with progress := e.progress + 1 }
          else { after with
            state := .usable, progress := e.qualifyTarget, usableSince := some u.tb.runCounter, faultCause := none
            decayClock := some 0, rev := e.rev + 1 })

/-- REFERENCE_EDGE otherwise: a starting edge; an edge sooner than 750 ms is fault GLITCH; a second edge running without a
label is fault LABEL-MISSING; an offset beyond 500 ms while LOCKED is fault LABEL-MISMATCH; a timer already past its end gives
its MISSING first (the model's order: log entry 3); an edge of the other polarity, or on an entry in another state, does
nothing. -/
def Obligations.EdgeStartsOrFaults : Prop :=
  ∀ (s u : State) (dt : Nat) (k : Fin 4) (edge : Edge), s.At dt u →
    let i := pulseEntry k
    let e := u.ref i
    let live : Prop := e.state = .qualifying ∨ e.state = .usable
    let others := fun t : State => ∀ j, j ≠ i → t.ref j = u.ref j
    let taken : RefEntry := { e with prevEdge := some u.clock.osc, missingSince := some u.clock.osc, pendingLabel := none }
    let faults := fun c => ∃ t, exec (.referenceEdge dt k edge) s = .next t ∧ u.OnlyTouches Part.ofFault t ∧ others t ∧
      (t.ref i).faultCause = some c ∧ (t.ref i).faultScore = e.faultScore + 1 ∧
      (t.ref i).state = if e.faultScore + 1 < 4 then .faulted else .lockedOut
    (¬ live ∨ edge ≠ e.edge → ∃ t, exec (.referenceEdge dt k edge) s = .next t ∧ u.OnlyTouches [.pins] t) ∧
    (live → edge = e.edge → ∀ x, e.missingSince = some x → x + 1250000000 < u.clock.osc → faults .missing) ∧
    (live → edge = e.edge → (∀ x, e.missingSince = some x → u.clock.osc ≤ x + 1250000000) →
      (e.prevEdge = none → ∀ b, e.pendingLabel = some b →
        ∃ t, exec (.referenceEdge dt k edge) s = .next t ∧ u.OnlyTouches [.refs, .pins] t ∧ others t ∧ t.ref i = taken) ∧
      (∀ p, e.prevEdge = some p → u.clock.osc < p + 750000000 → faults .glitch) ∧
      ((∀ p, e.prevEdge = some p → p + 750000000 ≤ u.clock.osc) → e.pendingLabel = none → e.labelLess = 0 →
        ∃ t, exec (.referenceEdge dt k edge) s = .next t ∧ u.OnlyTouches [.refs, .pins] t ∧ others t ∧
          t.ref i = { taken with labelLess := 1 }) ∧
      ((∀ p, e.prevEdge = some p → p + 750000000 ≤ u.clock.osc) → e.pendingLabel = none → e.labelLess = 1 →
        faults .labelMissing) ∧
      (∀ p b, e.prevEdge = some p → p + 750000000 ≤ u.clock.osc → e.pendingLabel = some b → u.tb.state = .locked →
        500000000 < ((b.seconds.toNat * 1000000000 : Int) - (u.tb.siteTime - e.inputDelay)).natAbs → faults .labelMismatch))

/-- LINE_PULSE on an entry in QUALIFYING or USABLE whose missing-sample timer has not passed its end: the first opens a window;
the pulse that completes 10,000,000 closes it, opens the next, and measures f, unless a step fell within the window; a
measurement beyond the frequency limit is fault FREQUENCY; else it is stored, offered when USABLE, and adds to the progress.
Other states take no pulse. The model's choices in it: log entries 3, 7, 9, 27. -/
def Obligations.LinePulseMeasures : Prop :=
  ∀ (s u : State) (dt : Nat) (l : LineInput), s.At dt u →
    let i := l.entry
    let e := u.ref i
    let others := fun t : State => ∀ j, j ≠ i → t.ref j = u.ref j
    let fresh : Option LineWindow := some ⟨u.tb.siteTime, u.tb.stepNumber, 0⟩
    let live : Prop := (e.state = .qualifying ∨ e.state = .usable) ∧ ∀ x, e.missingSince = some x → u.clock.osc ≤ x + 1250000000
    (¬ (e.state = .qualifying ∨ e.state = .usable) → ∃ t, exec (.linePulse dt l) s = .next t ∧ u.OnlyTouches [.pins] t) ∧
    (live → e.window = none →
      ∃ t, exec (.linePulse dt l) s = .next t ∧ u.OnlyTouches [.refs, .pins] t ∧ others t ∧
        t.ref i = { e with missingSince := some u.clock.osc, window := fresh }) ∧
    (live → ∀ w, e.window = some w → w.pulses + 1 < 10000000 →
      ∃ t, exec (.linePulse dt l) s = .next t ∧ u.OnlyTouches [.refs, .pins] t ∧ others t ∧
        t.ref i = { e with missingSince := some u.clock.osc, window := some { w with pulses := w.pulses + 1 } }) ∧
    (live → ∀ w, e.window = some w → 10000000 ≤ w.pulses + 1 → w.openedStep ≠ u.tb.stepNumber →
      ∃ t, exec (.linePulse dt l) s = .next t ∧ u.OnlyTouches [.refs, .pins] t ∧ others t ∧
        t.ref i = { e with missingSince := some u.clock.osc, window := fresh }) ∧
    (live → ∀ w, e.window = some w → 10000000 ≤ w.pulses + 1 → w.openedStep = u.tb.stepNumber →
      let f := siteDiff u.tb.siteTime w.openedSite - 1000000000
      let after : RefEntry := { e with
        missingSince := some u.clock.osc, window := fresh, lastFreq := some (max (-2147483647) (min 2147483647 f)) }
      (e.freqLimit < f.natAbs →
        ∃ t, exec (.linePulse dt l) s = .next t ∧ u.OnlyTouches Part.ofFault t ∧ others t ∧ t.ref i = after.faulted .frequency) ∧
      (f.natAbs ≤ e.freqLimit → e.state = .usable →
        ∃ t, exec (.linePulse dt l) s = .next t ∧ u.OnlyTouches [.refs, .wires, .pins] t ∧ others t ∧ t.ref i = after ∧
          t.wires = { u.wires with measurements := u.wires.measurements ++ [⟨l, f⟩] }) ∧
      (f.natAbs ≤ e.freqLimit → e.state = .qualifying →
        ∃ t, exec (.linePulse dt l) s = .next t ∧ u.OnlyTouches [.refs, .tb, .slots, .rooms, .pins] t ∧ others t ∧
          t.ref i = if e.progress + 1 < e.qualifyTarget then { after with progress := e.progress + 1 } else { after with
            state := .usable, progress := e.qualifyTarget, usableSince := some u.tb.runCounter, faultCause := none
            decayClock := some 0, rev := e.rev + 1 }))

/-- A fault of an entry in QUALIFYING or USABLE, here MISSING at the expiry of its missing-sample timer: the fault score
advances, and the entry is FAULTED with its hold-off, or LOCKED-OUT at score 4. HOLD_OFF_EXPIRY of a FAULTED entry whose
hold-off remaining is 0: QUALIFYING, its score and cause kept. FAULT_SCORE_DECAY of a USABLE entry whose decay clock has run
900 run seconds: the score is lowered by one if above 0, and the clock starts again. Before they are due the timers do nothing.
The model's choices in it: log entries 3, 9. -/
def Obligations.ReferenceTimersExpire : Prop :=
  ∀ (s u : State) (dt : Nat) (i : RefIx), s.At dt u →
    let e := u.ref i
    let others := fun t : State => ∀ j, j ≠ i → t.ref j = u.ref j
    let due : Prop := ∃ x, e.missingSince = some x ∧ x + 1250000000 ≤ u.clock.osc
    (e.state = .qualifying ∨ e.state = .usable → due →
      ∃ t, exec (.missingSampleTimerExpiry dt i) s = .next t ∧ u.OnlyTouches Part.ofFault t ∧
        others t ∧
        (e.state = .qualifying → e.faultScore < 3 → u.OnlyTouches [.refs, .slots, .rooms, .pins] t) ∧
        t.ref i = { e with
          state := if e.faultScore + 1 < 4 then .faulted else .lockedOut
          faultCause := some .missing
          faultScore := e.faultScore + 1
          usableSince := none
          rev := e.rev + 1
          progress := 0
          holdOffRemaining := if e.faultScore + 1 < 4 then some e.holdOff else none
          pendingLabel := none
          labelLess := 0
          missingSince := none
          decayClock := none
          window := none }) ∧
    (¬ due ∨ ¬ (e.state = .qualifying ∨ e.state = .usable) →
      ∃ t, exec (.missingSampleTimerExpiry dt i) s = .next t ∧ u.OnlyTouches [.pins] t) ∧
    (e.state = .faulted → e.holdOffRemaining = some 0 → e.faultScore < 4 →
      ∃ t, exec (.holdOffExpiry dt i) s = .next t ∧ u.OnlyTouches [.refs, .slots, .rooms, .pins] t ∧ others t ∧
        t.ref i = { e with
          state := .qualifying, rev := e.rev + 1, progress := 0, holdOffRemaining := none, pendingLabel := none
          prevEdge := none, labelLess := 0, window := none, missingSince := (t.ref i).missingSince } ∧
        (i.val < 6 → (t.ref i).missingSince = some u.clock.osc)) ∧
    (e.state ≠ .faulted ∨ e.holdOffRemaining ≠ some 0 →
      ∃ t, exec (.holdOffExpiry dt i) s = .next t ∧ u.OnlyTouches [.pins] t) ∧
    (∀ n, e.state = .usable → e.decayClock = some n → 900 ≤ n →
      ∃ t, exec (.faultScoreDecay dt i) s = .next t ∧ u.OnlyTouches [.refs, .pins] t ∧ others t ∧
        t.ref i = { e with
          faultScore := e.faultScore - 1
          rev := e.rev + if 0 < e.faultScore then 1 else 0
          decayClock := some (n - 900) }) ∧
    (e.state ≠ .usable ∨ (∀ n, e.decayClock = some n → n < 900) →
      ∃ t, exec (.faultScoreDecay dt i) s = .next t ∧ u.OnlyTouches [.pins] t)

/-- CLEAR-LOCKOUT: a LOCKED-OUT entry goes to QUALIFYING with score 0 and REF-LOCKED-OUT is cleared; a DISABLED entry with
score 4 stays DISABLED with score 0; any other is answered WRONG-STATE and nothing changes; the fault cause is kept. The
model's choices in it: log entries 9, 13, 14, 16, 17. -/
def Obligations.ClearLockoutFollowsTheState : Prop :=
  ∀ (s u : State) (dt : Nat) (req : Request) (stage : Stage) (i : RefIx), s.At dt u → req.NamesIndex i.val →
    s.RequestActs ⟨0x0D, 0x02, req⟩ stage →
    let e := u.ref i
    let others := fun t : State => ∀ j, j ≠ i → t.ref j = u.ref j
    (e.state = .lockedOut →
      ∃ t, exec (.clearLockout dt req stage) s = .next t ∧ u.OnlyTouches [.mgmt, .refs, .slots, .rooms, .pins] t ∧ others t ∧
        t.AnsweredDone 0x0D .reference i.val req.group ∧
        t.alarm.slots = (u.alarm.clear u.siteSec .refLockedOut i.val).slots ∧
        t.ref i = { e with
          state := .qualifying, faultScore := 0, rev := e.rev + 1, progress := 0, holdOffRemaining := none
          pendingLabel := none, prevEdge := none, labelLess := 0, window := none, missingSince := (t.ref i).missingSince } ∧
        (i.val < 6 → (t.ref i).missingSince = some u.clock.osc)) ∧
    (e.state = .disabled → e.faultScore = 4 →
      ∃ t, exec (.clearLockout dt req stage) s = .next t ∧ u.OnlyTouches [.mgmt, .refs, .pins] t ∧ others t ∧
        t.AnsweredDone 0x0D .reference i.val req.group ∧ t.ref i = { e with faultScore := 0, rev := e.rev + 1 }) ∧
    (e.state ≠ .lockedOut → ¬ (e.state = .disabled ∧ e.faultScore = 4) →
      ∃ t rev, exec (.clearLockout dt req stage) s = .next t ∧ u.OnlyTouches [.mgmt, .pins] t ∧
        t.AnsweredRefusal ⟨0x0D, 0x02, req⟩ .wrongState rev)

/-! ### Ports -/

/-- A lane's receiver without lock counts consecutive valid symbols, and the 1024th gains lock: link up is set, and a DOWN port
opens. With lock it counts consecutive symbols that are not valid, and the sixteenth loses lock: link up is cleared, the frame still
open is discarded, and an OPEN port goes DOWN, its queue, schedule and scanner emptied and its leases retired. A count starts again
at a symbol of the other sort, and at every gain and loss. LANE_LOCK_GAINED hears a valid symbol, LANE_LOCK_LOST one that is not;
what a valid one does with lock is another statement's (LaneReceiverAssemblesFrames). The model's choices in it: log entries 9, 10,
36, 57, 58. -/
def Obligations.LockOpensAndDownsThePort : Prop :=
  ∀ (s u : State) (dt : Nat) (p : PortIx) (heard : List RxSymbol), s.LaneAt dt p heard 1 u →
    let r := u.port p
    let others := fun t : State => ∀ q, q ≠ p → t.lane q = u.lane q
    let counted := fun (c : Instr) (n : Nat) => ∃ t, exec c s = .next t ∧ u.OnlyTouches [.lanes, .pins] t ∧ others t ∧
      t.lane p = { u.lane p with run := n }
    (r.linkUp = false → ∀ y : LineSymbol,
      ((u.lane p).run + 1 < 1024 → counted (.laneLockGained dt ⟨p, heard, y⟩) ((u.lane p).run + 1)) ∧
      (1024 ≤ (u.lane p).run + 1 → r.state = .down →
        ∃ t, exec (.laneLockGained dt ⟨p, heard, y⟩) s = .next t ∧
          u.OnlyTouches [.lanes, .ports, .portStates, .slots, .rooms, .pins] t ∧ others t ∧ t.lane p = ⟨0, none⟩ ∧
          (t.port p).standing = (.opened, true, r.liveLeases, r.rev + 2) ∧ ∀ q, q ≠ p → t.port q = u.port q) ∧
      (1024 ≤ (u.lane p).run + 1 → r.state ≠ .down →
        ∃ t, exec (.laneLockGained dt ⟨p, heard, y⟩) s = .next t ∧ u.OnlyTouches [.lanes, .ports, .portStates, .pins] t ∧
          others t ∧ t.lane p = ⟨0, none⟩ ∧ t.port p = { r with linkUp := true, rev := r.rev + 1 } ∧
          ∀ q, q ≠ p → t.port q = u.port q)) ∧
    (r.linkUp = true →
      ((u.lane p).run + 1 < 16 → counted (.laneLockLost dt ⟨p, heard⟩) ((u.lane p).run + 1)) ∧
      (16 ≤ (u.lane p).run + 1 → r.state = .opened →
        ∃ t, exec (.laneLockLost dt ⟨p, heard⟩) s = .next t ∧ u.OnlyTouches (.lanes :: Part.ofRetirement) t ∧ others t ∧
          t.lane p = ⟨0, none⟩ ∧ (t.port p).state = .down ∧ (t.port p).linkUp = false ∧ u.PortSilent t p ∧
          (∀ q, q ≠ p → (t.port q).standing = (u.port q).standing) ∧
          ∀ l, if u.leaseOn l p then u.LeaseRetired t l else u.LeaseKept t l) ∧
      (16 ≤ (u.lane p).run + 1 → r.state ≠ .opened →
        ∃ t, exec (.laneLockLost dt ⟨p, heard⟩) s = .next t ∧ u.OnlyTouches [.lanes, .ports, .portStates, .pins] t ∧
          others t ∧ t.lane p = ⟨0, none⟩ ∧ t.port p = { r with linkUp := false, rev := r.rev + 1 } ∧
          ∀ q, q ≠ p → t.port q = u.port q)) ∧
    (r.linkUp = false → counted (.laneLockLost dt ⟨p, heard⟩) 0)

/-- A frame is accepted exactly when its data symbols are the coding of a frame of its kind's length: kind, L, body, check. With lock,
FRAME-START begins a frame with the site time and step number of its arrival, cutting one still open; a data symbol joins the frame;
IDLE and a boundary symbol discard it; FRAME-END ends it, and it is delivered, or discarded if it is not accepted. A command that
names a frame is the symbols of that frame, heard one after the other, after those before them. The model's choices in it: log entry
36. -/
def Obligations.LaneReceiverAssemblesFrames : Prop :=
  (∀ (data : List Byte) (f : LaneFrame), frameOfData data = some f ↔ f.fits = true ∧ data = frameData f.kind f.body) ∧
  (∀ (s u : State) (dt : Nat) (p : PortIx) (heard : List RxSymbol) (y : LineSymbol), s.LaneAt dt p heard 1 u →
    (u.port p).linkUp = true →
    let r := u.lane p
    let becomes := fun after : LaneReceiver => ∃ t, exec (.laneLockGained dt ⟨p, heard, y⟩) s = .next t ∧
      u.OnlyTouches [.lanes, .pins] t ∧ t.lane p = after ∧ ∀ q, q ≠ p → t.lane q = u.lane q
    (y = .frameStart → becomes ⟨0, some ⟨⟨(s.elapse dt).tb.siteTime, s.tb.stepNumber⟩, []⟩⟩) ∧
    (∀ b, y = .data b → becomes ⟨0, r.frame.map fun f => { f with data := f.data ++ [b] }⟩) ∧
    (y = .idle ∨ (∃ l, y = .boundary l) → becomes ⟨0, none⟩) ∧
    (y = .frameEnd → (∀ f, r.frame = some f → frameOfData f.data = none) → becomes ⟨0, none⟩) ∧
    ∀ f g, y = .frameEnd → r.frame = some f → frameOfData f.data = some g →
      exec (.laneLockGained dt ⟨p, heard, y⟩) s = .next ((u.setLane p ⟨0, none⟩).deliver p f.captured g).settle) ∧
  (∀ (s : State) (dt : Nat) (p : PortIx) (heard : List RxSymbol),
    let hears := fun (c : Instr) (f : LaneFrame) =>
      exec c s = exec (.laneLockGained dt ⟨p, heard ++ f.line.dropLast.map some, .frameEnd⟩) s
    (∀ body, hears (.join dt ⟨p, heard⟩ body) (.join body)) ∧ (∀ lease, hears (.renew dt ⟨p, heard⟩ lease) (.renew lease)) ∧
    (∀ lease, hears (.leave dt ⟨p, heard⟩ lease) (.leave lease)) ∧ (∀ body, hears (.report dt ⟨p, heard⟩ body) (.report body)) ∧
    (∀ body, hears (.peerMark dt ⟨p, heard⟩ body) (.peerMark body)) ∧
    (∀ lease number, hears (.echoBack dt ⟨p, heard⟩ lease number) (.echoBack ⟨lease, number⟩)) ∧
    ∀ kind body, hears (.hubFrameReceived dt ⟨p, heard⟩ ⟨kind, body⟩) (.hub kind body)) ∧
  ∀ (s u : State) (dt own : Nat) (p : PortIx) (heard : List RxSymbol),
    (s.LaneAt dt p [] own u ↔ s.At dt u) ∧
    (∀ y, s.LaneAt dt p (heard ++ [some y]) 0 u → exec (.laneLockGained dt ⟨p, heard, y⟩) s = .next u.settle) ∧
    (s.LaneAt dt p (heard ++ [none]) 0 u → exec (.laneLockLost dt ⟨p, heard⟩) s = .next u.settle)

/-- HUB_FRAME_RECEIVED of any hub kind, of that kind's length, takes an OPEN port to CONFLICT: it is silenced, its PENDING leases are
retired, and its others are SUSPENDED with cause CONFLICT. On any other port nothing happens. The model's choices in it: log entries
9, 10, 36, 41, 54. -/
def Obligations.HubFrameBringsConflict : Prop :=
  ∀ (s u : State) (dt : Nat) (p : PortIx) (heard : List RxSymbol) (kind : HubKind) (body : List Byte),
    s.FrameAt dt p heard (.hub kind body) u → (LaneFrame.hub kind body).fits = true →
    ((u.port p).state = .opened → u.LeasesAgree →
      ∃ t, exec (.hubFrameReceived dt ⟨p, heard⟩ ⟨kind, body⟩) s = .next t ∧ u.OnlyTouches Part.ofRetirement t ∧
        (t.port p).state = .conflict ∧ (t.port p).linkUp = (u.port p).linkUp ∧ u.PortSilent t p ∧
        (∀ q, q ≠ p → (t.port q).standing = (u.port q).standing) ∧
        (∀ l, u.leaseOn l p = false → u.LeaseKept t l) ∧
        ∀ l x, u.lease l = some x → x.port = p →
          if x.state = .pending then u.LeaseRetired t l
          else u.LeaseMoved t l { x with
              state := .suspended, suspendCause := some .conflict, symbol := if x.state = .inService then none else x.symbol } ∧
            (x.state ≠ .suspended → u.LeaseMarked t l)) ∧
    ((u.port p).state ≠ .opened →
      ∃ t, exec (.hubFrameReceived dt ⟨p, heard⟩ ⟨kind, body⟩) s = .next t ∧ u.OnlyTouches [.pins] t)

/-- FRAME_DEPARTURE on an OPEN port: the head of the queue departs when two IDLE symbols have passed since the transmitter's
last item and the frame would end no later than every scheduled symbol's instant; a MARK's or an ECHO's departure is reported.
A queue that held 16 frames takes the first notice that waits. Otherwise nothing happens. The model's choices in it: log
entries 3, 5, 7, 19. -/
def Obligations.FrameDeparts : Prop :=
  ∀ (s u : State) (dt : Nat) (p : PortIx), s.At dt u →
    let r := u.port p
    let ready := fun f : Frame => r.state = .opened ∧ (∀ x, r.tx = some x → x.endsAt + 16 ≤ u.clock.osc) ∧
      ∀ e ∈ r.schedule, reached e.instant ((u.tb.siteTime + 8 * f.symbols) % (281474976710656 * 1000000000)) = true
    let waiting : Option Frame := (List.finRange 32).findSome? fun l => (u.lease l).bind fun x =>
      if x.port = p then x.notice.map fun n => Frame.notice l n.kind n.value else none
    (∀ f rest, r.queue = f :: rest → ready f →
      ∃ t, exec (.frameDeparture dt p) s = .next t ∧
        u.OnlyTouches (if r.queue.length = 16 then [.ports, .leases, .pins] else [.ports, .pins]) t ∧
        (∀ q, q ≠ p → t.port q = u.port q) ∧
        t.port p = { r with
          queue := rest ++ if r.queue.length = 16 then waiting.toList else []
          tx := some ⟨.frame f, u.clock.osc + 8 * f.symbols⟩
          reports := r.reports ++ match f with
            | .mark l seconds _ _ _ _ => [.mark l seconds]
            | .echo l n => [.echo l n ⟨u.tb.siteTime, u.tb.stepNumber⟩]
            | .accept .. | .wait _ | .refuse .. | .notice .. => [] }) ∧
    (r.queue = [] ∨ (∃ f rest, r.queue = f :: rest ∧ ¬ ready f) →
      ∃ t, exec (.frameDeparture dt p) s = .next t ∧ u.OnlyTouches [.pins] t)

/-- BOUNDARY_SYMBOL_EMISSION: of the scheduled symbols whose instant site time has reached the one that goes first is emitted
when the transmitter is free; its lease keeps the second and the step number as its symbol record, and a first emission since
the lease entered IN-SERVICE starts the missing-sample timer of its bound entry. The model's choices in it: log entries 3, 5,
19, 29. -/
def Obligations.BoundarySymbolIsEmitted : Prop :=
  ∀ (s u : State) (dt : Nat) (p : PortIx), s.At dt u →
    let r := u.port p
    let due := fun e : SymbolEntry => e ∈ r.schedule ∧ reached u.tb.siteTime e.instant = true
    let free : Prop := ∀ x, r.tx = some x → x.endsAt ≤ u.clock.osc
    (∀ e, due e → (∀ x, due x → x ≠ e → e.before x = true ∧ x.before e = false) → free →
      ∃ t, exec (.boundarySymbolEmission dt p) s = .next t ∧ u.OnlyTouches [.ports, .leases, .leaseCore, .refs, .pins] t ∧
        t.port p = { r with schedule := r.schedule.erase e, tx := some ⟨.symbol e.lease, u.clock.osc + 8⟩ } ∧
        (∀ q, q ≠ p → t.port q = u.port q) ∧ (∀ l, l ≠ e.lease → t.slot l = u.slot l) ∧
        t.slot e.lease = ⟨(u.slot e.lease).rev, (u.lease e.lease).map fun x => { x with symbol := some ⟨e.seconds, e.step⟩ }⟩ ∧
        ∀ i, t.ref i =
          if (∃ x, u.lease e.lease = some x ∧ x.symbol = none ∧ x.offer.entry = some i) ∧
              ((u.ref i).state = .qualifying ∨ (u.ref i).state = .usable) then
            { u.ref i with missingSince := some u.clock.osc } else u.ref i) ∧
    ((∀ e, ¬ due e) ∨ ¬ free → ∃ t, exec (.boundarySymbolEmission dt p) s = .next t ∧ u.OnlyTouches [.pins] t)

/-- REOPEN and CLOSE act after CLOSE-SETUP only. REOPEN opens a CLOSED port, or takes it DOWN without link; from CONFLICT with
link the port's leases return to MEASURING. CLOSE closes a port and retires its leases; a CLOSED port is left as it is. The
model's choices in it: log entries 9, 10, 13, 14, 16, 17. -/
def Obligations.ReopenAndClose : Prop :=
  ∀ (s u : State) (dt : Nat) (req : Request) (stage : Stage) (p : PortIx), s.At dt u → req.NamesIndex p.val →
    let r := u.port p
    (s.RequestActs ⟨0x10, 0x05, req⟩ stage →
      (u.mgmt.setup = .opened → ∃ t rev, exec (.reopen dt req stage) s = .next t ∧ u.OnlyTouches [.mgmt, .pins] t ∧
        t.AnsweredRefusal ⟨0x10, 0x05, req⟩ .setupClosed rev) ∧
      (u.mgmt.setup = .closed → r.state = .opened ∨ r.state = .down →
        ∃ t rev, exec (.reopen dt req stage) s = .next t ∧ u.OnlyTouches [.mgmt, .pins] t ∧
          t.AnsweredRefusal ⟨0x10, 0x05, req⟩ .wrongState rev) ∧
      (u.mgmt.setup = .closed → r.state = .closed →
        ∃ t, exec (.reopen dt req stage) s = .next t ∧ u.OnlyTouches [.mgmt, .ports, .portStates, .slots, .rooms, .pins] t ∧
          t.AnsweredDone 0x10 .port p.val req.group ∧ (∀ q, q ≠ p → t.port q = u.port q) ∧
          (t.port p).standing = (if r.linkUp then .opened else .down, r.linkUp, r.liveLeases, r.rev + 1)) ∧
      (u.mgmt.setup = .closed → r.state = .conflict → r.linkUp = true →
        ∃ t, exec (.reopen dt req stage) s = .next t ∧
          u.OnlyTouches [.mgmt, .ports, .portStates, .leases, .leaseCore, .slots, .rooms, .pins] t ∧
          t.AnsweredDone 0x10 .port p.val req.group ∧ (∀ q, q ≠ p → t.port q = u.port q) ∧
          (t.port p).standing = (.opened, true, r.liveLeases, r.rev + 1) ∧
          (∀ l, u.leaseOn l p = false → t.slot l = u.slot l) ∧
          ∀ l x, u.lease l = some x → x.port = p → u.LeaseMoved t l { x with
            state := .measuring, suspendCause := none, compensation := none, lastMeasured := none, rejected := 0 }) ∧
      (u.mgmt.setup = .closed → r.state = .conflict → r.linkUp = false →
        ∃ t, exec (.reopen dt req stage) s = .next t ∧ u.OnlyTouches (.mgmt :: Part.ofRetirement) t ∧
          t.AnsweredDone 0x10 .port p.val req.group ∧ (t.port p).state = .down ∧
          (∀ q, q ≠ p → (t.port q).standing = (u.port q).standing) ∧
          ∀ l, if u.leaseOn l p then u.LeaseRetired t l else u.LeaseKept t l)) ∧
    (s.RequestActs ⟨0x11, 0x05, req⟩ stage →
      (u.mgmt.setup = .opened → ∃ t rev, exec (.close dt req stage) s = .next t ∧ u.OnlyTouches [.mgmt, .pins] t ∧
        t.AnsweredRefusal ⟨0x11, 0x05, req⟩ .setupClosed rev) ∧
      (u.mgmt.setup = .closed → r.state = .closed →
        ∃ t, exec (.close dt req stage) s = .next t ∧ u.OnlyTouches [.mgmt, .pins] t ∧ t.AnsweredDone 0x11 .port p.val req.group) ∧
      (u.mgmt.setup = .closed → r.state ≠ .closed →
        ∃ t, exec (.close dt req stage) s = .next t ∧ u.OnlyTouches (.mgmt :: Part.ofRetirement) t ∧
          t.AnsweredDone 0x11 .port p.val req.group ∧ (t.port p).state = .closed ∧ (r.state = .opened → u.PortSilent t p) ∧
          (∀ q, q ≠ p → (t.port q).standing = (u.port q).standing) ∧
          ∀ l, if u.leaseOn l p then u.LeaseRetired t l else u.LeaseKept t l))

/-! ### Leases and delay measurement -/

/-- MARK_DEPARTURE takes the oldest report of a MARK's departure: an IN-SERVICE lease on that port with credit 2 or more spends
one unit and receives RENEW-DUE at the renewal point, and one with limited credit below 2, 0 included, is retired.
ECHO_DEPARTURE takes the oldest of an ECHO's: the WAITING echo it names becomes DEPARTED and its timer starts. Other reports
are disregarded. The model's choices in it: log entries 7, 10, 43, 52. -/
def Obligations.DepartureReportsAreTaken : Prop :=
  ∀ (s u : State) (dt : Nat) (p : PortIx) (pre post : List DepartureReport) (l : LeaseIx), s.At dt u →
    let r := u.port p
    let only := fun (i : Instr) => ∃ t, exec i s = .next t ∧ u.OnlyTouches [.ports, .pins] t ∧
      t.port p = { r with reports := pre ++ post } ∧ ∀ q, q ≠ p → t.port q = u.port q
    (∀ seconds, r.reports = pre ++ .mark l seconds :: post → (∀ d ∈ pre, d.isMark = false) →
      (∀ x c, u.lease l = some x → x.state = .inService → x.credit = some c → x.port = p → 2 ≤ c →
        let due : Prop := c = 9 ∨ (x.grantedCredit ≤ 8 ∧ c = x.grantedCredit)
        ∃ t, exec (.markDeparture dt p) s = .next t ∧ u.OnlyTouches [.ports, .leases, .leaseCore, .pins] t ∧
          (∀ q, q ≠ p → t.port q = u.port q) ∧ (∀ k, k ≠ l → t.slot k = u.slot k) ∧
          t.port p = { r with
            reports := pre ++ post
            queue := r.queue ++ if due ∧ r.state = .opened ∧ r.queue.length < 16 then
              [Frame.notice l .renewDue ((c - 1 : Nat) : Int)] else [] } ∧
          t.slot l = ⟨(u.slot l).rev, some { x with
            credit := some (c - 1)
            notice := if due ∧ r.state = .opened ∧ 16 ≤ r.queue.length then some ⟨.renewDue, ((c - 1 : Nat) : Int)⟩
              else x.notice }⟩) ∧
      (∀ x c, u.lease l = some x → x.state = .inService → x.credit = some c → c ≤ 1 →
        ∃ t, exec (.markDeparture dt p) s = .next t ∧ u.OnlyTouches Part.ofRetirement t ∧ u.LeaseRetired t l ∧
          ∀ k, k ≠ l → u.LeaseKept t k) ∧
      ((∀ x, u.lease l = some x → x.state ≠ .inService ∨ x.credit = none) → only (.markDeparture dt p))) ∧
    (∀ number sent, r.reports = pre ++ .echo l number sent :: post → (∀ d ∈ pre, d.isMark = true) →
      (∀ b, r.scanner.batch = some b → b.lease = l → b.number = number → b.standing = .waiting →
        ∃ t, exec (.echoDeparture dt p) s = .next t ∧ u.OnlyTouches [.ports, .pins] t ∧
          (∀ q, q ≠ p → t.port q = u.port q) ∧
          t.port p = { r with
            reports := pre ++ post
            scanner := { r.scanner with batch := some { b with standing := .departed sent.site sent.step u.clock.osc } } }) ∧
      ((∀ b, r.scanner.batch = some b → b.lease ≠ l ∨ b.number ≠ number ∨ b.standing ≠ .waiting) →
        only (.echoDeparture dt p)))

/-- ECHO_BACK, captured at its FRAME-START, seven symbols before its FRAME-END. On a port that is not OPEN, with a number out of range,
or naming no live lease there, it is discarded. On an OPEN port for the batch lease and the DEPARTED echo in flight, its timer not
past its end: captured after a step it gives no sample; else it is a sample, and a fourth one ends the batch in a judgement: entry to
IN-SERVICE, a re-measure, a delay jump (the lockout of a bound entry that it causes suspends the lease), or a first or second
rejection. Any other ECHO_BACK changes nothing. A third rejection in a row and a timer past its end are left out. The model's choices
in it: log entries 3, 5, 9, 11, 18, 36. -/
def Obligations.EchoBackGivesASample : Prop :=
  (∀ (s u : State) (dt : Nat) (p : PortIx) (heard : List RxSymbol) (body : EchoBackBody),
    s.FrameAt dt p heard (.echoBack body) u →
    ((u.port p).state ≠ .opened ∨ 3 < body.number.toNat ∨
      (∀ (l : LeaseIx) x, body.lease.toNat = l.val → u.lease l = some x → x.port ≠ p) →
      ∃ t, exec (.echoBack dt ⟨p, heard⟩ body.lease body.number) s = .next t ∧ u.OnlyTouches [.pins] t)) ∧
  ∀ (s u : State) (dt : Nat) (p : PortIx) (heard : List RxSymbol) (body : EchoBackBody) (l : LeaseIx) (x : Lease)
    (b : Batch) (t1 : SiteNs) (mark : BitVec 8) (timer : Nat), s.FrameAt dt p heard (.echoBack body) u →
    (u.port p).state = .opened → body.lease.toNat = l.val → u.lease l = some x → x.port = p →
    (u.port p).scanner.batch = some b →
    let r := u.port p
    let captured : Capture := ⟨(s.elapse (dt - 56)).tb.siteTime, s.tb.stepNumber⟩
    let matching : Prop := b.lease = l ∧ body.number.toNat = b.number.toNat ∧ b.standing = .departed t1 mark timer
    let sample : Int := siteDiff captured.site t1 - x.turnaround
    let samples := b.samples ++ [sample]
    let next := fun after : Batch => ∃ t, exec (.echoBack dt ⟨p, heard⟩ body.lease body.number) s = .next t ∧ u.OnlyTouches [.ports, .pins] t ∧
      (∀ q, q ≠ p → t.port q = u.port q) ∧
      t.port p = { r with
        queue := r.queue ++ if r.queue.length < 16 then [Frame.echo l (b.number + 1)] else []
        scanner := { r.scanner with batch := some { after with
          number := b.number + 1
          standing := if r.queue.length < 16 then .waiting else .refused u.clock.osc } } }
    let locksOut : Prop := ∃ e, x.offer = .bound e ∧ 3 ≤ (u.ref e.entry).faultScore ∧
      ((u.ref e.entry).state = .qualifying ∨ (u.ref e.entry).state = .usable)
    let rerun : Batch := ⟨l, b.origin, [], 0, 0, if r.queue.length < 16 then .waiting else .refused u.clock.osc⟩
    let result : Int := samples.sum / 8 + r.asymmetry
    let good : Prop := (∀ y ∈ samples, ∀ z ∈ samples, y - z ≤ r.spreadLimit) ∧ 0 ≤ result ∧ result ≤ 100000
    (matching → u.clock.osc ≤ timer + 2000000 → captured.step ≠ mark → next b) ∧
    (matching → u.clock.osc ≤ timer + 2000000 → captured.step = mark → samples.length < 4 →
      next { b with samples := samples, timeouts := 0 }) ∧
    (matching → u.clock.osc ≤ timer + 2000000 → captured.step = mark → 4 ≤ samples.length → good → x.state = .measuring →
      ∃ t, exec (.echoBack dt ⟨p, heard⟩ body.lease body.number) s = .next t ∧
        u.OnlyTouches [.ports, .leases, .leaseCore, .slots, .rooms, .pins] t ∧ (∀ k, k ≠ l → t.slot k = u.slot k) ∧
        u.LeaseMoved t l { x with
          state := .inService, compensation := some result.toNat, lastMeasured := some u.tb.runCounter, rejected := 0
          delayJump := false }) ∧
    (matching → u.clock.osc ≤ timer + 2000000 → captured.step = mark → 4 ≤ samples.length → good → x.state = .inService →
      (∀ c, x.compensation = some c → (result - c).natAbs ≤ 20 →
        ∃ t, exec (.echoBack dt ⟨p, heard⟩ body.lease body.number) s = .next t ∧ u.OnlyTouches [.ports, .leases, .leaseCore, .pins] t ∧
          (∀ k, k ≠ l → t.slot k = u.slot k) ∧
          t.lease l = some { x with
            compensation := some result.toNat, lastMeasured := some u.tb.runCounter, rejected := 0 }) ∧
      (∀ c, x.compensation = some c → 20 < (result - c).natAbs → u.LeasesAgree →
        ∃ t, exec (.echoBack dt ⟨p, heard⟩ body.lease body.number) s = .next t ∧ u.OnlyTouches Part.ofFault t ∧
          (∀ k, k ≠ l → u.LeaseKept t k) ∧
          (locksOut → ∃ y, t.lease l = some y ∧ y.state = .suspended ∧ y.suspendCause = some .source ∧ y.delayJump = true) ∧
          (¬ locksOut → u.LeaseMoved t l { x with
            state := .measuring, lastMeasured := some u.tb.runCounter, rejected := 0, delayJump := true, symbol := none }))) ∧
    (matching → u.clock.osc ≤ timer + 2000000 → captured.step = mark → 4 ≤ samples.length → ¬ good → x.rejected < 2 →
      ∃ t, exec (.echoBack dt ⟨p, heard⟩ body.lease body.number) s = .next t ∧ u.OnlyTouches [.ports, .leases, .leaseCore, .pins] t ∧
        (∀ q, q ≠ p → t.port q = u.port q) ∧ (∀ k, k ≠ l → t.slot k = u.slot k) ∧
        t.slot l = ⟨(u.slot l).rev + 1, some { x with rejected := x.rejected + 1 }⟩ ∧
        (t.port p).scanner = { r.scanner with batch := some rerun }) ∧
    ((∀ t0, b.standing.timer = some t0 → u.clock.osc ≤ t0 + 2000000) →
      b.lease ≠ l ∨ body.number.toNat ≠ b.number.toNat ∨ (∀ a c d, b.standing ≠ .departed a c d) →
      ∃ t, exec (.echoBack dt ⟨p, heard⟩ body.lease body.number) s = .next t ∧ u.OnlyTouches [.pins] t)

/-- ECHO_TIMER_EXPIRY when the echo timer has reached 2 ms: the next echo, or at the third consecutive timeout the lease is
SUSPENDED with cause UNREACHABLE. ROUTINE_BATCH_DUE of an OPEN port with nothing else to measure: a batch for the next
IN-SERVICE lease in the round-robin starts when the scan interval has run. Before they are due they do nothing. The model's
choices in it: log entries 3, 9, 11, 41, 46, 53, 54. -/
def Obligations.EchoTimerAndRoutineBatch : Prop :=
  ∀ (s u : State) (dt : Nat) (p : PortIx), s.At dt u →
    let r := u.port p
    let standing : EchoStanding := if r.state = .opened ∧ r.queue.length < 16 then .waiting else .refused u.clock.osc
    let after := fun j : LeaseIx => ∀ k, r.scanner.roundRobin = some k → k < j
    let sent := fun (l : LeaseIx) (n : BitVec 2) (c : Scanner) => { r with
      queue := r.queue ++ if r.state = .opened ∧ r.queue.length < 16 then [Frame.echo l n] else []
      scanner := c }
    (∀ b t0, r.scanner.batch = some b → b.standing.timer = some t0 → t0 + 2000000 ≤ u.clock.osc →
      (b.timeouts < 2 →
        ∃ t, exec (.echoTimerExpiry dt p) s = .next t ∧ u.OnlyTouches [.ports, .pins] t ∧
          (∀ q, q ≠ p → t.port q = u.port q) ∧
          t.port p = sent b.lease (b.number + 1) { r.scanner with
            batch := some { b with timeouts := b.timeouts + 1, number := b.number + 1, standing := standing } }) ∧
      (∀ x, 2 ≤ b.timeouts → u.lease b.lease = some x → x.port = p → x.state = .measuring ∨ x.state = .inService →
        u.LeasesAgree →
        ∃ t, exec (.echoTimerExpiry dt p) s = .next t ∧ u.OnlyTouches Part.ofFault t ∧
          (∀ k, k ≠ b.lease → u.LeaseKept t k) ∧
          u.LeaseMoved t b.lease { x with
            state := .suspended, suspendCause := some .unreachable
            symbol := if x.state = .inService then none else x.symbol } ∧
          u.LeaseMarked t b.lease)) ∧
    ((∀ b t0, r.scanner.batch = some b → b.standing.timer = some t0 → u.clock.osc < t0 + 2000000) →
      ∃ t, exec (.echoTimerExpiry dt p) s = .next t ∧ u.OnlyTouches [.pins] t) ∧
    (∀ l, r.state = .opened → r.scanner.batch = none → r.scanner.injection = none →
      (∀ k, u.leaseOnIn k p .measuring = false) →
      (∀ x, r.scanner.lastRoutine = some x → x + r.scanInterval ≤ u.tb.runCounter) → u.leaseOnIn l p .inService = true →
      (after l ∧ ∀ j, j < l → after j → u.leaseOnIn j p .inService = false) ∨
        ((∀ j, after j → u.leaseOnIn j p .inService = false) ∧ ∀ j, j < l → u.leaseOnIn j p .inService = false) →
      ∃ t, exec (.routineBatchDue dt p) s = .next t ∧ u.OnlyTouches [.ports, .pins] t ∧
        (∀ q, q ≠ p → t.port q = u.port q) ∧
        t.port p = sent l 0 { r.scanner with
          batch := some ⟨l, .routine, [], 0, 0, standing⟩, roundRobin := some l, lastRoutine := some u.tb.runCounter }) ∧
    ((∃ x, r.scanner.lastRoutine = some x ∧ u.tb.runCounter < x + r.scanInterval) ∨ r.state ≠ .opened ∨
        r.scanner.batch.isSome →
      ∃ t, exec (.routineBatchDue dt p) s = .next t ∧ u.OnlyTouches [.pins] t)

/-- JOIN of a tag that no live lease holds, admitted by the first matching entry with room in the table and on the port: a
lease is created in the lowest free slot that no alarm record names, else in the lowest free slot; WAIT or ACCEPT is queued
while there is room, before an ECHO of the same event, and the offer binds its entry. The model's choices in it: log entries 9,
11, 46. -/
def Obligations.JoinCreatesALease : Prop :=
  ∀ (s u : State) (dt : Nat) (p : PortIx) (heard : List RxSymbol) (body : JoinBody) (wanted : Grade) (i : AdmIx) (a : Admission)
    (l : LeaseIx), s.FrameAt dt p heard (.join body) u → (u.port p).state = .opened → Grade.ofCode body.wanted.toNat = some wanted → body.offer.toNat ≤ 1 →
    (∀ k x, u.lease k = some x → x.tag ≠ body.tag) →
    (u.admissionSlot i).entry = some a → a.admits body.tag p = true → a.decision ≠ .deny →
    (∀ j, j < i → ∀ b, (u.admissionSlot j).entry = some b → b.admits body.tag p = false) →
    u.liveCount < 32 → u.liveOn p < 4 → u.lease l = none →
    ((u.slotNamed l = false ∧ ∀ k, k < l → u.lease k = none → u.slotNamed k = true) ∨
      ((∀ k, u.lease k = none → u.slotNamed k = true) ∧ ∀ k, k < l → u.lease k ≠ none)) →
    let free := fun i : RefIx => (u.ref i).state = .disabled ∧ (u.ref i).boundLease = none ∧ (u.ref i).faultScore < 4
    let offer : Offer :=
      if body.offer = 1#8 ∧ a.offerAllowed = true then
        (if free 6 then .bound .six else if free 7 then .bound .seven else .refused) else .none
    let required := if wanted.rank ≤ a.bestClass.rank then a.bestClass else wanted
    let credit := if a.grantedCredit = 255 then none else some a.grantedCredit
    let answer : Frame := if a.decision = .ask then .wait body.tag else .accept body.tag l required a.grantedCredit
    ∃ t, exec (.join dt ⟨p, heard⟩ body) s = .next t ∧
      u.OnlyTouches [.refs, .ports, .portStates, .leases, .leaseCore, .slots, .rooms, .pins] t ∧
      t.slot l = ⟨(u.slot l).rev + 1, some {
        state := if a.decision = .ask then .pending else .measuring
        tag := body.tag, port := p, required := required, grantedCredit := a.grantedCredit
        turnaround := body.turnaround.toNat, compensation := none, lastMeasured := none, rejected := 0, delayJump := false
        offer := offer, suspendCause := none
        deadline := if a.decision = .ask then some (u.tb.runCounter + a.approvalWait) else none
        admission := i, report := ⟨none, [], 0⟩, credit := credit, notice := none, symbol := none, mark := none }⟩ ∧
      (∀ k, k ≠ l → t.slot k = u.slot k) ∧ (∀ q, q ≠ p → t.port q = u.port q) ∧
      (t.port p).standing = (.opened, (u.port p).linkUp, (u.port p).liveLeases + 1, (u.port p).rev + 1) ∧
      (∃ more, (t.port p).queue = (u.port p).queue ++ (if (u.port p).queue.length < 16 then [answer] else []) ++ more) ∧
      (∀ e, offer = .bound e → (t.ref e.entry).boundLease = some l ∧ (t.ref e.entry).enabled = true ∧
        (t.ref e.entry).state = .qualifying) ∧
      ∀ j, (∀ e, offer = .bound e → j ≠ e.entry) → t.ref j = u.ref j

/-- JOIN otherwise: discarded with a value out of range or on a port not OPEN; DUPLICATE for a tag live on another port; a
re-join on the same port, which returns the lease to MEASURING unless its departure from IN-SERVICE locks its bound entry out:
then the lease is SUSPENDED with cause SOURCE; DENIED, FULL and PORT-FULL in that order. The model's choices in it: log entry
9. -/
def Obligations.JoinIsRefusedOrRejoins : Prop :=
  ∀ (s u : State) (dt : Nat) (p : PortIx) (heard : List RxSymbol) (body : JoinBody) (wanted : Grade),
    s.FrameAt dt p heard (.join body) u →
    let r := u.port p
    let refused := fun (reason : RefuseReason) => ∃ t, exec (.join dt ⟨p, heard⟩ body) s = .next t ∧
      u.OnlyTouches [.ports, .slots, .rooms, .pins] t ∧ (∀ q, q ≠ p → t.port q = u.port q) ∧
      t.port p = { r with queue := r.queue ++ if r.queue.length < 16 then [Frame.refuse body.tag reason] else [] }
    (Grade.ofCode body.wanted.toNat = none ∨ 1 < body.offer.toNat ∨ r.state ≠ .opened →
      ∃ t, exec (.join dt ⟨p, heard⟩ body) s = .next t ∧ u.OnlyTouches [.pins] t) ∧
    (Grade.ofCode body.wanted.toNat = some wanted → body.offer.toNat ≤ 1 → r.state = .opened →
      (∀ l x, u.lease l = some x → x.tag = body.tag → u.LeasesAgree →
        (x.port ≠ p → refused .duplicate) ∧
        (x.port = p → x.state = .pending → ∃ t, exec (.join dt ⟨p, heard⟩ body) s = .next t ∧ u.OnlyTouches [.ports, .pins] t ∧
          (∀ q, q ≠ p → t.port q = u.port q) ∧
          t.port p = { r with queue := r.queue ++ if r.queue.length < 16 then [Frame.wait body.tag] else [] }) ∧
        (x.port = p → x.state = .suspended → x.suspendCause = some .host → refused .notServing) ∧
        (x.port = p → x.state ≠ .pending → ¬ (x.state = .suspended ∧ x.suspendCause = some .host) →
          let best := match (u.admissionSlot x.admission).entry with
            | none => x.required
            | some a => a.bestClass
          let locksOut : Prop := x.state = .inService ∧ ∃ e, x.offer = .bound e ∧ 3 ≤ (u.ref e.entry).faultScore ∧
            ((u.ref e.entry).state = .qualifying ∨ (u.ref e.entry).state = .usable)
          ∃ t, exec (.join dt ⟨p, heard⟩ body) s = .next t ∧ u.OnlyTouches Part.ofFault t ∧ (∀ k, k ≠ l → u.LeaseKept t k) ∧
            (locksOut → ∃ y, t.lease l = some y ∧ y.state = .suspended ∧ y.suspendCause = some .source) ∧
            (¬ locksOut → u.LeaseMoved t l { x with
                state := .measuring, required := if wanted.rank ≤ best.rank then best else wanted, turnaround := body.turnaround.toNat, compensation := none
                lastMeasured := none, rejected := 0, delayJump := false, suspendCause := none
                credit := if x.grantedCredit = 255 then none else some x.grantedCredit
                symbol := if x.state = .inService then none else x.symbol }))) ∧
      ((∀ k x, u.lease k = some x → x.tag ≠ body.tag) →
        let denied : Prop := (∀ j, ∀ b, (u.admissionSlot j).entry = some b → b.admits body.tag p = false) ∨
          ∃ i a, (u.admissionSlot i).entry = some a ∧ a.admits body.tag p = true ∧ a.decision = .deny ∧
            ∀ j, j < i → ∀ b, (u.admissionSlot j).entry = some b → b.admits body.tag p = false
        (denied → refused .denied) ∧ (¬ denied → 32 ≤ u.liveCount → refused .full) ∧
        (¬ denied → u.liveCount < 32 → 4 ≤ u.liveOn p → refused .portFull)))

/-- LEAVE, RETIRE of a lease, DENY of a PENDING lease and the expiry of an approval deadline retire the lease: its slot is free
and its revision advances, the port counts one lease less, and RETIRED or REFUSE is offered: it is queued when the queue is not
full, or when the removal of the lease's frames makes room that no other lease's notice waits for. DENY of another lease is
answered WRONG-STATE; a deadline not reached, or a LEAVE that names no live lease of an OPEN port, does nothing. The model's
choices in it: log entries 3, 9, 10, 11, 12, 13, 16, 17. -/
def Obligations.LeasesAreRetired : Prop :=
  ∀ (s u : State) (dt : Nat) (l : LeaseIx) (x : Lease), u.lease l = some x →
    let r := u.port x.port
    let emptied : Prop := r.queue.length = 16 ∧ (∃ f ∈ r.queue, Frame.carries l f = true) ∧
      ∀ k y, k ≠ l → u.lease k = some y → y.port = x.port → y.notice = none
    let retired := fun (i : Instr) (extra : List Part) (frame : Frame) (answered : State → Prop) =>
      ∃ t, exec i s = .next t ∧ u.OnlyTouches (extra ++ Part.ofRetirement) t ∧ u.LeaseRetired t l ∧
        (∀ k, k ≠ l → u.LeaseKept t k) ∧ (∀ q, q ≠ x.port → (t.port q).standing = (u.port q).standing) ∧
        (t.port x.port).standing = (r.state, r.linkUp, r.liveLeases - 1, r.rev + 1) ∧
        (r.state = .opened → r.queue.length < 16 ∨ emptied → frame ∈ (t.port x.port).queue) ∧ answered t
    (∀ (p : PortIx) (heard : List RxSymbol) (lease : Byte), s.FrameAt dt p heard (.leave lease) u → lease.toNat = l.val →
      (p = x.port → r.state = .opened → retired (.leave dt ⟨p, heard⟩ lease) [] (.notice l .retired 2) fun _ => True) ∧
      (p ≠ x.port ∨ r.state ≠ .opened →
        ∃ t, exec (.leave dt ⟨p, heard⟩ lease) s = .next t ∧ u.OnlyTouches [.pins] t)) ∧
    (s.At dt u →
      (∀ d, x.state = .pending → x.deadline = some d →
        (d ≤ u.tb.runCounter →
          retired (.approvalDeadlineExpiry dt l) [] (.refuse x.tag .approvalTimeout) fun _ => True) ∧
        (u.tb.runCounter < d → ∃ t, exec (.approvalDeadlineExpiry dt l) s = .next t ∧ u.OnlyTouches [.pins] t)) ∧
      (x.state ≠ .pending → ∃ t, exec (.approvalDeadlineExpiry dt l) s = .next t ∧ u.OnlyTouches [.pins] t) ∧
      ∀ (req : Request) (stage : Stage), req.NamesIndex l.val → req.revision = (u.slot l).rev →
        (s.RequestActs ⟨0x05, 0x04, req⟩ stage →
          retired (.retireLease dt req stage) [.mgmt] (.notice l .retired 3) fun t => t.AnsweredSlot 0x05 .lease l.val req.group) ∧
        (s.RequestActs ⟨0x07, 0x04, req⟩ stage →
          (x.state = .pending →
            retired (.deny dt req stage) [.mgmt] (.refuse x.tag .host) fun t => t.AnsweredSlot 0x07 .lease l.val req.group) ∧
          (x.state ≠ .pending → ∃ t rev, exec (.deny dt req stage) s = .next t ∧ u.OnlyTouches [.mgmt, .pins] t ∧
            t.AnsweredRefusal ⟨0x07, 0x04, req⟩ .wrongState rev)))

/-- RENEW for a live lease on its OPEN port: IN-SERVICE or SUSPENDED, the credit returns to the granted credit and a waiting
RENEW-DUE is removed; with unlimited credit, or the credit at the granted credit, nothing changes; PENDING or MEASURING, it is
ignored. A RENEW for no such lease is discarded. -/
def Obligations.RenewRestoresTheCredit : Prop :=
  ∀ (s u : State) (dt : Nat) (p : PortIx) (heard : List RxSymbol) (lease : Byte), s.FrameAt dt p heard (.renew lease) u →
    (∀ l x, lease.toNat = l.val → u.lease l = some x → x.port = p → (u.port p).state = .opened →
      let granted := if x.grantedCredit = 255 then none else some x.grantedCredit
      (x.state = .inService ∨ x.state = .suspended → x.credit ≠ granted →
        ∃ t, exec (.renew dt ⟨p, heard⟩ lease) s = .next t ∧ u.OnlyTouches [.leases, .leaseCore, .pins] t ∧
          (∀ k, k ≠ l → t.slot k = u.slot k) ∧
          t.slot l = ⟨(u.slot l).rev, some { x with
            credit := granted
            notice := x.notice.filter fun n => n.kind ≠ .renewDue }⟩) ∧
      (x.state = .pending ∨ x.state = .measuring ∨ x.credit = granted →
        ∃ t, exec (.renew dt ⟨p, heard⟩ lease) s = .next t ∧ u.OnlyTouches [.pins] t)) ∧
    ((u.port p).state ≠ .opened ∨ (∀ (l : LeaseIx) x, lease.toNat = l.val → u.lease l = some x → x.port ≠ p) →
      ∃ t, exec (.renew dt ⟨p, heard⟩ lease) s = .next t ∧ u.OnlyTouches [.pins] t)

/-- REPORT for a live lease on its OPEN port, not PENDING: the report slot takes severity and words, the sequence advances, and
UNIT-REPORTED is raised at the report's severity, or cleared for NONE. PEER_MARK for a lease whose offer is BOUND, after its
first boundary symbol, its entry in QUALIFYING or USABLE and its timer not past its end: seconds less the symbol record's plus
the difference is the offset, with the record's step number; not VALID is fault REPORTED, and an offset beyond 500 ms while
LOCKED LABEL-MISMATCH. Either is discarded with a value out of its range, on a port not OPEN, or naming no live lease there. The
model's choices in it: log entries 3, 7, 8, 9, 21. -/
def Obligations.ReportAndPeerMark : Prop :=
  (∀ (s u : State) (dt : Nat) (heard : List RxSymbol) (body : ReportBody) (l : LeaseIx) (x : Lease),
    s.FrameAt dt x.port heard (.report body) u → body.lease.toNat = l.val →
    u.lease l = some x → (u.port x.port).state = .opened → body.severity.toNat ≤ 4 → body.words.length ≤ 6 →
    let severity := Severity.ofCode body.severity.toNat
    let raise : Raise := ⟨.unitReported, l.val, some x.tag, some (.sequence (x.report.sequence + 1).toNat), severity⟩
    (x.state ≠ .pending →
      ∃ t, exec (.report dt ⟨x.port, heard⟩ body) s = .next t ∧ u.OnlyTouches [.leases, .leaseCore, .slots, .rooms, .pins] t ∧
        (∀ k, k ≠ l → t.slot k = u.slot k) ∧
        t.slot l = ⟨(u.slot l).rev + 1, some { x with report := ⟨severity, body.words, x.report.sequence + 1⟩ }⟩ ∧
        t.alarm.slots = (match severity with
          | none => u.alarm.clear u.siteSec .unitReported l.val
          | some _ => u.alarm.raise u.siteSec raise).slots) ∧
    (x.state = .pending → ∃ t, exec (.report dt ⟨x.port, heard⟩ body) s = .next t ∧ u.OnlyTouches [.pins] t)) ∧
  (∀ (s u : State) (dt : Nat) (heard : List RxSymbol) (body : PeerMarkBody) (l : LeaseIx) (x : Lease),
    s.FrameAt dt x.port heard (.peerMark body) u → body.lease.toNat = l.val →
    u.lease l = some x → (u.port x.port).state = .opened → body.valid.toNat ≤ 1 →
    (∀ (e : Peer) (r : SymbolRecord), x.offer = .bound e → x.symbol = some r →
      let i := e.entry
      let o : Int := (body.seconds.toNat - r.seconds) * 1000000000 + body.difference.toInt
      let live : Prop := ((u.ref i).state = .qualifying ∨ (u.ref i).state = .usable) ∧
        ∀ y, (u.ref i).missingSince = some y → u.clock.osc ≤ y + 1250000000
      let after : RefEntry := { u.ref i with
        missingSince := some u.clock.osc
        lastOffset := some ⟨max (-9223372036854775807) (min 9223372036854775807 o), u.clock.osc, r.step⟩ }
      (live → body.valid = 1#8 → ¬ (u.tb.state = .locked ∧ 500000000 < o.natAbs) → (u.ref i).state = .usable →
        ∃ t, exec (.peerMark dt ⟨x.port, heard⟩ body) s = .next t ∧ u.OnlyTouches [.refs, .wires, .pins] t ∧ t.ref i = after ∧
          (∀ j, j ≠ i → t.ref j = u.ref j) ∧
          t.wires = { u.wires with
            samples := u.wires.samples ++ if u.tb.selected = some i then [⟨i, o, r.step⟩] else [] }) ∧
      (live → body.valid = 1#8 → ¬ (u.tb.state = .locked ∧ 500000000 < o.natAbs) → (u.ref i).state = .qualifying →
        ∃ t, exec (.peerMark dt ⟨x.port, heard⟩ body) s = .next t ∧ u.OnlyTouches [.refs, .tb, .slots, .rooms, .pins] t ∧
          (∀ j, j ≠ i → t.ref j = u.ref j) ∧
          t.ref i =
            if u.tb.state = .locked ∧ u.tb.wanderLimit < o.natAbs then { after with progress := 0 }
            else if (u.ref i).progress + 1 < (u.ref i).qualifyTarget then { after with progress := (u.ref i).progress + 1 }
            else if u.boundInService i = false then { after with progress := (u.ref i).qualifyTarget - 1 }
            else { after with
              state := .usable, progress := (u.ref i).qualifyTarget, usableSince := some u.tb.runCounter
              faultCause := none, decayClock := some 0, rev := (u.ref i).rev + 1 }) ∧
      (live → body.valid = 0#8 ∨ (u.tb.state = .locked ∧ 500000000 < o.natAbs) →
        ∃ t, exec (.peerMark dt ⟨x.port, heard⟩ body) s = .next t ∧ u.OnlyTouches Part.ofFault t ∧
          (∀ j, j ≠ i → t.ref j = u.ref j) ∧ (t.ref i).faultScore = (u.ref i).faultScore + 1 ∧
          (t.ref i).faultCause = some (if body.valid = 0#8 then .reported else .labelMismatch))) ∧
    (∀ e : Peer, x.offer = .bound e → x.symbol = none →
      (∀ y, (u.ref e.entry).missingSince = some y → u.clock.osc ≤ y + 1250000000) →
      ∃ t, exec (.peerMark dt ⟨x.port, heard⟩ body) s = .next t ∧ u.OnlyTouches [.pins] t) ∧
    (x.offer = .none ∨ x.offer = .refused →
      ∃ t, exec (.peerMark dt ⟨x.port, heard⟩ body) s = .next t ∧ u.OnlyTouches [.pins] t)) ∧
  ∀ (s u : State) (dt : Nat) (p : PortIx) (heard : List RxSymbol),
    let discards := fun lease : Byte => (u.port p).state ≠ .opened ∨
      ∀ (l : LeaseIx) x, lease.toNat = l.val → u.lease l = some x → x.port ≠ p
    (∀ body, s.FrameAt dt p heard (.report body) u → body.words.length ≤ 6 → 4 < body.severity.toNat ∨ discards body.lease →
      ∃ t, exec (.report dt ⟨p, heard⟩ body) s = .next t ∧ u.OnlyTouches [.pins] t) ∧
    ∀ body, s.FrameAt dt p heard (.peerMark body) u → 1 < body.valid.toNat ∨ discards body.lease →
      ∃ t, exec (.peerMark dt ⟨p, heard⟩ body) s = .next t ∧ u.OnlyTouches [.pins] t

/-- APPROVE of a PENDING lease, SUSPEND of a MEASURING or IN-SERVICE one, RESUME of a SUSPENDED one on an OPEN port; ACCEPT or
the notice is queued while there is room, before an ECHO of the same event. In any other state each is answered WRONG-STATE and
nothing changes, and so is a SUSPEND that comes second to a suspension by the scanner or a conflict, with the revision from before
it. The model's choices in it: log entries 9, 11, 13, 14, 16, 17, 41, 54. -/
def Obligations.ApproveSuspendResume : Prop :=
  ∀ (s u : State) (dt : Nat) (req : Request) (stage : Stage) (l : LeaseIx) (x : Lease), s.At dt u → req.NamesIndex l.val →
    u.lease l = some x →
    let r := u.port x.port
    let fenced : Prop := req.revision = (u.slot l).rev
    let wrong := fun (i : Instr) (kind : Byte) => ∃ t rev, exec i s = .next t ∧ u.OnlyTouches [.mgmt, .pins] t ∧
      t.AnsweredRefusal ⟨kind, 0x04, req⟩ .wrongState rev
    (s.RequestActs ⟨0x06, 0x04, req⟩ stage → fenced →
      (x.state = .pending →
        ∃ t, exec (.approve dt req stage) s = .next t ∧
          u.OnlyTouches [.mgmt, .leases, .leaseCore, .ports, .slots, .rooms, .pins] t ∧
          t.AnsweredDone 0x06 .lease l.val req.group ∧ (∀ k, k ≠ l → t.slot k = u.slot k) ∧
          t.slot l = ⟨(u.slot l).rev + 1, some { x with state := .measuring, deadline := none }⟩ ∧
          (r.state = .opened → r.queue.length < 16 →
            ∃ more, (t.port x.port).queue = r.queue ++ Frame.accept x.tag l x.required x.grantedCredit :: more)) ∧
      (x.state ≠ .pending → wrong (.approve dt req stage) 0x06)) ∧
    (s.RequestActs ⟨0x08, 0x04, req⟩ stage → fenced →
      (x.state = .measuring ∨ x.state = .inService → u.LeasesAgree →
        ∃ t, exec (.suspend dt req stage) s = .next t ∧ u.OnlyTouches (.mgmt :: Part.ofFault) t ∧
          t.AnsweredDone 0x08 .lease l.val req.group ∧ (∀ k, k ≠ l → u.LeaseKept t k) ∧
          u.LeaseMoved t l { x with
            state := .suspended, suspendCause := some .host, symbol := if x.state = .inService then none else x.symbol } ∧
          (r.state = .opened → r.queue.length < 16 → Frame.notice l .suspended 5 ∈ (t.port x.port).queue)) ∧
      (x.state = .pending ∨ x.state = .suspended → wrong (.suspend dt req stage) 0x08)) ∧
    (s.RequestActs ⟨0x08, 0x04, req⟩ stage → u.SuspensionMet l (u.requestTaken stage) req.revision →
      wrong (.suspend dt req stage) 0x08) ∧
    (s.RequestActs ⟨0x09, 0x04, req⟩ stage → fenced →
      (x.state = .suspended → r.state = .opened →
        ∃ t, exec (.resume dt req stage) s = .next t ∧
          u.OnlyTouches [.mgmt, .leases, .leaseCore, .ports, .slots, .rooms, .pins] t ∧
          t.AnsweredDone 0x09 .lease l.val req.group ∧ (∀ k, k ≠ l → t.slot k = u.slot k) ∧
          t.slot l = ⟨(u.slot l).rev + 1, some { x with
            state := .measuring, suspendCause := none, compensation := none, lastMeasured := none, rejected := 0 }⟩) ∧
      (x.state ≠ .suspended ∨ r.state ≠ .opened → wrong (.resume dt req stage) 0x09))

/-- MEASURE of a MEASURING or IN-SERVICE lease fills the empty injection slot of its port, or starts the batch at once when the
port is OPEN and none is in flight; the lease record does not change. PENDING or SUSPENDED gives WRONG-STATE, a filled slot
FULL. The model's choices in it: log entries 11, 13, 14, 16, 17. -/
def Obligations.MeasureInjectsABatch : Prop :=
  ∀ (s u : State) (dt : Nat) (req : Request) (stage : Stage) (l : LeaseIx) (x : Lease), s.At dt u → req.NamesIndex l.val →
    u.lease l = some x → s.RequestActs ⟨0x0A, 0x04, req⟩ stage →
    let r := u.port x.port
    let started : Batch := ⟨l, .injected, [], 0, 0, if r.queue.length < 16 then .waiting else .refused u.clock.osc⟩
    (x.state = .pending ∨ x.state = .suspended →
      ∃ t rev, exec (.measure dt req stage) s = .next t ∧ u.OnlyTouches [.mgmt, .pins] t ∧
        t.AnsweredRefusal ⟨0x0A, 0x04, req⟩ .wrongState rev) ∧
    (x.state = .measuring ∨ x.state = .inService → r.scanner.injection.isSome →
      ∃ t rev, exec (.measure dt req stage) s = .next t ∧ u.OnlyTouches [.mgmt, .pins] t ∧
        t.AnsweredRefusal ⟨0x0A, 0x04, req⟩ .full rev) ∧
    (x.state = .measuring ∨ x.state = .inService → r.scanner.injection = none →
      ∃ t, exec (.measure dt req stage) s = .next t ∧ u.OnlyTouches [.mgmt, .ports, .pins] t ∧
        t.AnsweredDone 0x0A .lease l.val req.group ∧ (∀ q, q ≠ x.port → t.port q = u.port q) ∧
        t.port x.port =
          if r.state = .opened ∧ r.scanner.batch = none then { r with
            queue := r.queue ++ if r.queue.length < 16 then [Frame.echo l 0] else []
            scanner := { r.scanner with batch := some started } }
          else { r with scanner := { r.scanner with injection := some l } })

/-- CHANGE of a lease that names required class, granted credit and, or not, credit, each in its range: with values that the
checks of 07:R137 admit the fields take them in one event and the revision advances by one, a credit of 0 after unlimited
credit included, and else the answer is BAD-FIELD. A list that names another field gives BAD-FIELD, and an empty one changes
nothing. Lists that name one of required class and granted credit alone are left out. The model's choices in it: log entries 9, 13, 14, 16, 17, 43, 47. -/
def Obligations.ChangeLeaseTakesItsFields : Prop :=
  ∀ (s u : State) (dt : Nat) (req : Request) (stage : Stage) (l : LeaseIx) (x : Lease) (required : Grade) (granted : Nat)
    (credit : Option Nat), s.At dt u → req.NamesIndex l.val → u.lease l = some x → req.revision = (u.slot l).rev →
    s.RequestActs ⟨0x03, 0x04, req⟩ stage →
    let badField := ∃ t rev, exec (.changeLease dt req stage) s = .next t ∧ u.OnlyTouches [.mgmt, .pins] t ∧
      t.AnsweredRefusal ⟨0x03, 0x04, req⟩ .badField rev
    let fields := fun c : Option Nat =>
      [Sys2Proof.Field.mk 4 (BitVec.ofNat 32 required.code), Sys2Proof.Field.mk 5 (BitVec.ofNat 32 granted)] ++
        c.toList.map fun v => Sys2Proof.Field.mk 25 (BitVec.ofNat 32 v)
    (req.fields = fields credit → 1 ≤ granted → granted ≤ 255 → (∀ c, credit = some c → c < 4294967296) →
      let fits : Prop :=
        (∀ c, credit = some c → granted ≠ 255 ∧ c ≤ granted ∧ ∀ y, x.credit = some y → y ≤ c) ∧
        (credit = none → granted ≠ 255 → ∀ y, x.credit = some y → y ≤ granted)
      (fits →
        ∃ t, exec (.changeLease dt req stage) s = .next t ∧
          u.OnlyTouches [.mgmt, .leases, .leaseCore, .ports, .slots, .rooms, .pins] t ∧
          t.AnsweredDone 0x03 .lease l.val req.group ∧ (∀ k, k ≠ l → t.slot k = u.slot k) ∧
          u.LeaseMoved t l { x with
            required := required, grantedCredit := granted
            credit := if granted = 255 then none else credit.or (x.credit.or (some granted)) }) ∧
      (¬ fits → badField)) ∧
    ((∃ f ∈ req.fields, f.id.toNat ≠ 4 ∧ f.id.toNat ≠ 5 ∧ f.id.toNat ≠ 25) → badField) ∧
    (req.fields = [] → ∃ t, exec (.changeLease dt req stage) s = .next t ∧ u.OnlyTouches [.mgmt, .pins] t ∧
      t.AnsweredDone 0x03 .lease l.val req.group)

/-- RETIRE of an admission entry: a free slot gives NO-SUCH, a revision that differs STALE; else the slot becomes free, its
revision advances by one, and the answer carries the index and the new revision with no fields. Leases and other entries are
left as they are. The model's choices in it: log entries 13, 16, 17. -/
def Obligations.RetireAdmissionFreesTheSlot : Prop :=
  ∀ (s u : State) (dt : Nat) (req : Request) (stage : Stage) (i : AdmIx), s.At dt u → req.NamesIndex i.val →
    s.RequestActs ⟨0x05, 0x03, req⟩ stage →
    let slot := u.admissionSlot i
    let refused := fun code => ∃ t rev, exec (.retireAdmission dt req stage) s = .next t ∧ u.OnlyTouches [.mgmt, .pins] t ∧
      t.AnsweredRefusal ⟨0x05, 0x03, req⟩ code rev
    (slot.entry = none → refused .noSuch) ∧
    (slot.entry.isSome → req.revision ≠ slot.rev → refused .stale) ∧
    (slot.entry.isSome → req.revision = slot.rev →
      ∃ t, exec (.retireAdmission dt req stage) s = .next t ∧ u.OnlyTouches [.mgmt, .admission, .pins] t ∧
        t.AnsweredSlot 0x05 .admission i.val req.group ∧ t.admissionSlot i = ⟨slot.rev + 1, none⟩ ∧
        ∀ j, j ≠ i → t.admissionSlot j = u.admissionSlot j)

/-- CREATE fills a free admission slot with the named values and the defaults; a live slot gives WRONG-STATE, a list without a
required field BAD-FIELD. CHANGE of a live entry takes the named values, here all eight. The model's choices in it: log entries
13, 14, 16, 17. -/
def Obligations.CreateAndChangeAdmission : Prop :=
  ∀ (s u : State) (dt : Nat) (req : Request) (stage : Stage) (i : AdmIx) (a : Admission), s.At dt u → req.NamesIndex i.val →
    let slot := u.admissionSlot i
    let required : List Sys2Proof.Field := [⟨1, a.tagValue⟩, ⟨2, a.tagMask⟩, ⟨3, a.ports.setWidth 32⟩, ⟨4, BitVec.ofNat 32 a.decision.code⟩]
    let others : List Sys2Proof.Field := [⟨5, BitVec.ofNat 32 a.bestClass.code⟩, ⟨6, BitVec.ofNat 32 a.grantedCredit⟩,
      ⟨7, if a.offerAllowed then 1 else 0⟩, ⟨8, BitVec.ofNat 32 a.approvalWait⟩]
    let inRange : Prop := a.ports ≠ 0 ∧ 1 ≤ a.grantedCredit ∧ a.grantedCredit ≤ 255 ∧ 1 ≤ a.approvalWait ∧ a.approvalWait ≤ 255
    let takes := fun (c : Instr) (kind : Byte) (b : Admission) => ∃ t, exec c s = .next t ∧
      u.OnlyTouches [.mgmt, .admission, .pins] t ∧ t.AnsweredDone kind .admission i.val req.group ∧
      t.admissionSlot i = ⟨slot.rev + 1, some b⟩ ∧ ∀ j, j ≠ i → t.admissionSlot j = u.admissionSlot j
    let refused := fun (c : Instr) (kind : Byte) (code : AnswerCode) => ∃ t rev, exec c s = .next t ∧
      u.OnlyTouches [.mgmt, .pins] t ∧ t.AnsweredRefusal ⟨kind, 0x03, req⟩ code rev
    (s.RequestActs ⟨0x04, 0x03, req⟩ stage →
      (slot.entry.isSome → refused (.create dt req stage) 0x04 .wrongState) ∧
      (slot.entry = none → inRange → req.fields = required ++ others → takes (.create dt req stage) 0x04 a) ∧
      (slot.entry = none → inRange → req.fields = required → takes (.create dt req stage) 0x04 { a with
        bestClass := .a, grantedCredit := 60, offerAllowed := false, approvalWait := 10 }) ∧
      (slot.entry = none → (∃ k ∈ [1, 2, 3, 4], ∀ f ∈ req.fields, f.id.toNat ≠ k) →
        refused (.create dt req stage) 0x04 .badField)) ∧
    (s.RequestActs ⟨0x03, 0x03, req⟩ stage → slot.entry.isSome → req.revision = slot.rev → inRange →
      req.fields = required ++ others → takes (.changeAdmission dt req stage) 0x03 a)

/-! ### Timing outputs -/

/-- OUTPUT_RISING_EDGE of a RUNNING output whose next edge site time has reached: passed over while the line is HIGH and its
fall not due; else the pulse rises and the next edge lies one period on, or in the plan that was waiting. OUTPUT_FALL lowers
the line when fall remaining is 0. Neither acts before it is due. An instant of the stored plan of a SQUELCHED output produces
nothing, and is noted as taken. A class change event takes a RUNNING output whose minimum class the new class does not meet to
SQUELCHED, and a SQUELCHED one whose minimum class it meets to RUNNING: its next edge is the first instant at or after site
time, or the following one when the instant at that site time was taken first; any other output stays as it is. The instants of
a plan are those whose ns modulo the period equal the phase offset. The model's choices in it: log entries 3, 5, 23, 48. -/
def Obligations.OutputsFollowTheirPlan : Prop :=
  (∀ (s u : State) (dt : Nat) (i : OutIx), s.At dt u →
    let o := u.out i
    let others := fun t : State => ∀ j, j ≠ i → t.out j = u.out j
    let done := fun (c : Instr) (after : Output) => ∃ t, exec c s = .next t ∧ u.OnlyTouches [.outs, .pins] t ∧ others t ∧
      t.out i = after
    let stored : Plan := ⟨o.n, o.phase, o.width⟩
    let standing : Prop := o.line = .high ∧ o.fallRemaining ≠ some 0
    (∀ e p, o.state = .running → o.nextEdge = some e → o.plan = some p → reached u.tb.siteTime e = true →
      let onward := some ((e + 1000000000 / p.n) % (281474976710656 * 1000000000))
      (standing → done (.outputRisingEdge dt i) { o with nextEdge := onward }) ∧
      (¬ standing → o.changeWaiting = false → done (.outputRisingEdge dt i)
        { o with line := .high, fallRemaining := some p.width, nextEdge := onward }) ∧
      (¬ standing → o.changeWaiting = true → done (.outputRisingEdge dt i)
        { o with
          line := .high, fallRemaining := some o.width, nextEdge := some (stored.after e)
          plan := some stored, changeWaiting := false })) ∧
    (o.state = .squelched → stored.atOrAfter u.tb.siteTime = u.tb.siteTime →
      done (.outputRisingEdge dt i) { o with passed := some (stored, u.tb.siteTime) }) ∧
    (o.state = .off ∨ (o.state = .squelched ∧ stored.atOrAfter u.tb.siteTime ≠ u.tb.siteTime) ∨
        (o.state = .running ∧ ∀ e, o.nextEdge = some e → reached u.tb.siteTime e = false) →
      ∃ t, exec (.outputRisingEdge dt i) s = .next t ∧ u.OnlyTouches [.pins] t) ∧
    (o.fallRemaining = some 0 → done (.outputFall dt i) { o with line := .low, fallRemaining := none }) ∧
    (o.fallRemaining ≠ some 0 → ∃ t, exec (.outputFall dt i) s = .next t ∧ u.OnlyTouches [.pins] t)) ∧
  (∀ (s : State) (cls : SiteClass) (i : OutIx),
    let o := s.out i
    let after := (s.crossClass cls).out i
    let stored : Plan := ⟨o.n, o.phase, o.width⟩
    let meets : Prop := cls.rank ≤ o.minClass.rank
    (o.enabled = true → o.state = .running → ¬ meets →
      after = { o with
        state := .squelched, rev := o.rev + 1, line := .low, nextEdge := none, fallRemaining := none, plan := none
        changeWaiting := false, passed := none }) ∧
    (o.enabled = true → o.state = .squelched → meets →
      after = { o with
        state := .running, rev := o.rev + 1, plan := some stored, changeWaiting := false, passed := none
        nextEdge := some (if o.passed = some (stored, s.tb.siteTime) then stored.after s.tb.siteTime
          else stored.atOrAfter s.tb.siteTime) }) ∧
    (o.enabled = true ∧ o.state = .running ∧ meets ∨ o.enabled = true ∧ o.state = .squelched ∧ ¬ meets ∨
      o.enabled = false ∧ o.state = .off → after = o)) ∧
  ∀ (p : Plan) (now : Nat), 0 < p.n → p.n ∣ 1000000000 → p.phase < 1000000000 / p.n →
    now + 1000000001 < 281474976710656 * 1000000000 →
    let period := 1000000000 / p.n
    now ≤ p.atOrAfter now ∧ p.atOrAfter now % period = p.phase ∧ now < p.after now ∧ p.after now % period = p.phase ∧
    (∀ x, now ≤ x → x % period = p.phase → p.atOrAfter now ≤ x) ∧ ∀ x, now < x → x % period = p.phase → p.after now ≤ x

/-- CHANGE of an output naming all five fields. With N a divisor of 1,000,000,000 and phase offset and width below the period
the values are taken, the output takes the state its enabled field, its minimum class and the site class give, and an output
RUNNING before and after keeps its plan until its next edge; else BAD-FIELD. The model's choices in it: log entries 9, 13, 14,
16, 17, 23, 48. -/
def Obligations.ChangeOutputActs : Prop :=
  ∀ (s u : State) (dt : Nat) (req : Request) (stage : Stage) (i : OutIx) (enabled : Bool) (n phase width : Nat) (cls : Grade),
    s.At dt u → req.NamesIndex i.val → req.revision = (u.out i).rev → s.RequestActs ⟨0x03, 0x06, req⟩ stage →
    req.fields = [⟨2, if enabled then 1 else 0⟩, ⟨3, BitVec.ofNat 32 n⟩, ⟨4, BitVec.ofNat 32 phase⟩,
      ⟨5, BitVec.ofNat 32 width⟩, ⟨6, BitVec.ofNat 32 cls.code⟩] →
    n < 4294967296 → phase < 4294967296 → width < 4294967296 →
    let fits : Prop := 1 ≤ n ∧ n ≤ 1000 ∧ n ∣ 1000000000 ∧ phase < 1000000000 / n ∧ 1 ≤ width ∧ width < 1000000000 / n
    let o := u.out i
    let new : Output := { o with enabled := enabled, n := n, phase := phase, width := width, minClass := cls }
    let due : OutState := if enabled then (if u.tb.siteClass.rank ≤ cls.rank then .running else .squelched) else .off
    (fits →
      ∃ t, exec (.changeOutput dt req stage) s = .next t ∧
        u.OnlyTouches [.mgmt, .outs, .outSettings, .slots, .rooms, .pins] t ∧ t.AnsweredDone 0x03 .output i.val req.group ∧
        (∀ j, j ≠ i → t.out j = u.out j) ∧
        t.out i =
          if o.state = due then { new with rev := o.rev + 1, changeWaiting := if due = .running then true else o.changeWaiting }
          else if due = .running then
            { new with
              state := .running, rev := o.rev + 2, nextEdge := some ((Plan.mk n phase width).atOrAfter u.tb.siteTime)
              plan := some ⟨n, phase, width⟩, changeWaiting := false, passed := none }
          else
            { new with
              state := due, rev := o.rev + 2, line := .low, nextEdge := none, fallRemaining := none, plan := none
              changeWaiting := false, passed := none }) ∧
    (¬ fits →
      ∃ t rev, exec (.changeOutput dt req stage) s = .next t ∧ u.OnlyTouches [.mgmt, .pins] t ∧
        t.AnsweredRefusal ⟨0x03, 0x06, req⟩ .badField rev)

/-! ### The alarm unit -/

/-- A raise at the alarm unit: it updates the record of its key; else creates one in the lowest free general slot, or in the
place of the CLEARED-UNSEEN record changed longest ago, its site seconds the lowest number, among those not more severe; else
it is lost and the overflow record in slot 0 is raised. The model's choices in it: log entries 5, 34. -/
def Obligations.RaiseTakesASlot : Prop :=
  ∀ (a : AlarmUnit) (sec : Nat) (r : Raise),
    let severity : Severity := match r.severity, a.kinds[r.kind.index].severity with
      | some v, _ => v
      | none, some v => v
      | none, none => .warning
    let state : AlarmState := if r.kind.momentary then .clearedUnseen else .activeNew
    let created : AlarmRecord := ⟨state, r.kind, r.subject, r.tag, severity, r.detail, 1, sec, sec⟩
    let replaced := fun (i : SlotIx) (n : Rev) (x : AlarmRecord) => a.raise sec r =
      { a with slots := a.slots.set i ⟨a.slots[i].rev + n, some x⟩ }
    let fresh : Prop := ∀ (i : SlotIx) (x : AlarmRecord), a.slots[i].record = some x → ¬ (x.kind = r.kind ∧ x.subject = r.subject)
    let yields := fun (i : SlotIx) (x : AlarmRecord) => i ≠ 0 ∧ a.slots[i].record = some x ∧ x.state = .clearedUnseen ∧
      x.severity.code ≤ severity.code
    (∀ (i : SlotIx) (x : AlarmRecord), a.slots[i].record = some x → x.kind = r.kind → x.subject = r.subject →
      (∀ (j : SlotIx) (y : AlarmRecord), a.slots[j].record = some y → y.kind = r.kind → y.subject = r.subject → j = i) →
      replaced i 1 { x with
        state := state, tag := r.tag, severity := severity, detail := r.detail, count := min 255 (x.count + 1), lastChanged := sec }) ∧
    (fresh → ∀ i : SlotIx, i ≠ 0 → a.slots[i].record = none → (∀ j : SlotIx, j ≠ 0 → j < i → a.slots[j].record ≠ none) → replaced i 1 created) ∧
    (fresh → (∀ i : SlotIx, i ≠ 0 → a.slots[i].record ≠ none) → ∀ (i : SlotIx) (x : AlarmRecord), yields i x →
      (∀ (j : SlotIx) (y : AlarmRecord), yields j y → j ≠ i → x.lastChanged < y.lastChanged ∨ (x.lastChanged = y.lastChanged ∧ i < j)) →
      replaced i 2 created) ∧
    (fresh → (∀ i : SlotIx, i ≠ 0 → a.slots[i].record ≠ none) → (∀ (i : SlotIx) (x : AlarmRecord), ¬ yields i x) →
      let overflow : Severity := a.kinds[(19 : Fin 20)].severity.getD .warning
      (a.slots[(0 : SlotIx)].record = none →
        replaced 0 1 ⟨.activeNew, .alarmOverflow, 0, none, overflow, some (.kind r.kind), 1, sec, sec⟩) ∧
      ∀ x : AlarmRecord, a.slots[(0 : SlotIx)].record = some x → replaced 0 1 { x with
        state := .activeNew, tag := none, severity := overflow, detail := some (.kind r.kind), count := min 255 (x.count + 1)
        lastChanged := sec })

/-- A clear at the alarm unit: an ACTIVE-NEW record becomes CLEARED-UNSEEN, an ACTIVE-SEEN one is retired and its slot freed,
any other key is left as it is. Freeing a general slot while the overflow record is ACTIVE clears that record and announces
room to every block. The model's choices in it: log entry 7 (an announcement waits in `rooms` until its block takes it). -/
def Obligations.ClearFollowsTheState : Prop :=
  ∀ (a : AlarmUnit) (sec : Nat) (k : AlarmKind) (subject : Nat),
    let overflow : Prop := ∃ x : AlarmRecord, a.slots[(0 : SlotIx)].record = some x ∧ (x.state = .activeNew ∨ x.state = .activeSeen)
    (∀ (i : SlotIx) (x : AlarmRecord), a.slots[i].record = some x → x.kind = k → x.subject = subject →
      (∀ (j : SlotIx) (y : AlarmRecord), a.slots[j].record = some y → y.kind = k → y.subject = subject → j = i) →
      (x.state = .activeNew → a.clear sec k subject = { a with
        slots := a.slots.set i ⟨a.slots[i].rev + 1, some { x with state := .clearedUnseen, lastChanged := sec }⟩ }) ∧
      (x.state = .clearedUnseen → a.clear sec k subject = a) ∧
      (x.state = .activeSeen → i = 0 ∨ ¬ overflow →
        a.clear sec k subject = { a with slots := a.slots.set i ⟨a.slots[i].rev + 1, none⟩ }) ∧
      (x.state = .activeSeen → i ≠ 0 → overflow →
        (a.clear sec k subject).slots[i] = ⟨a.slots[i].rev + 1, none⟩ ∧
        (∀ j : SlotIx, j ≠ i → j ≠ 0 → (a.clear sec k subject).slots[j] = a.slots[j]) ∧
        (∀ b : Block, (a.clear sec k subject).rooms.count b = a.rooms.count b + 1) ∧
        ∀ y : AlarmRecord, a.slots[(0 : SlotIx)].record = some y → (a.clear sec k subject).slots[(0 : SlotIx)] =
          ⟨a.slots[(0 : SlotIx)].rev + 1,
            if y.state = .activeNew then some { y with state := .clearedUnseen, lastChanged := sec } else none⟩)) ∧
    ((∀ (i : SlotIx) (x : AlarmRecord), a.slots[i].record = some x → ¬ (x.kind = k ∧ x.subject = subject)) → a.clear sec k subject = a)

/-- ACK of the record that its ALARM-KEY names: ACTIVE-NEW becomes ACTIVE-SEEN, CLEARED-UNSEEN is retired, ACTIVE-SEEN gives
WRONG-STATE. ACK-ALL does the same for every record and reports how many it acknowledged and retired (the answer's other bytes:
log entry 16). The model's choices in it: log entries 7, 13, 14, 17. -/
def Obligations.AckFollowsTheState : Prop :=
  ∀ (s u : State) (dt : Nat) (req : Request) (stage : Stage), s.At dt u → req.NamesNothing →
    let slots := u.alarm.slots
    let active : Prop := ∃ x : AlarmRecord, slots[(0 : SlotIx)].record = some x ∧ x.state.active = true
    (∀ (i : SlotIx) (r : AlarmRecord), req.form = formAlarmKey → u.keyNamed .alarm req = some i.val → slots[i].record = some r →
      req.revision = slots[i].rev → s.RequestActs ⟨0x0B, 0x07, req⟩ stage →
      (r.state = .activeNew →
        let after : AlarmRecord := { r with state := .activeSeen, lastChanged := u.siteSec }
        ∃ t, exec (.ack dt req stage) s = .next t ∧ u.OnlyTouches [.mgmt, .slots, .pins] t ∧
          t.alarm.slots = slots.set i ⟨slots[i].rev + 1, some after⟩ ∧
          t.Answered
            { code := .done, kind := 0x0B, table := 0x07, form := formAlarmKey, group := req.group, key := r.alarmKey
              revision := slots[i].rev + 1, fields := inGroup req.group after.fields }) ∧
      (r.state = .clearedUnseen →
        ∃ t, exec (.ack dt req stage) s = .next t ∧ u.OnlyTouches [.mgmt, .slots, .rooms, .pins] t ∧
          t.AnsweredSlot 0x0B .alarm i.val req.group ∧ t.alarm.slots[i] = ⟨slots[i].rev + 1, none⟩ ∧
          (i = 0 ∨ ¬ active → t.alarm.rooms = u.alarm.rooms ∧ ∀ j : SlotIx, j ≠ i → t.alarm.slots[j] = slots[j]) ∧
          (i ≠ 0 → active → t.alarm.rooms = u.alarm.rooms ++ [.timebase, .referenceUnit, .leaseController, .ports, .outputs])) ∧
      (r.state = .activeSeen →
        ∃ t rev, exec (.ack dt req stage) s = .next t ∧ u.OnlyTouches [.mgmt, .pins] t ∧
          t.AnsweredRefusal ⟨0x0B, 0x07, req⟩ .wrongState rev)) ∧
    (s.RequestActs ⟨0x0C, 0x07, req⟩ stage →
      ∃ t, exec (.ackAll dt req stage) s = .next t ∧ u.OnlyTouches [.mgmt, .slots, .rooms, .pins] t ∧
        (∀ i : SlotIx, i ≠ 0 → t.alarm.slots[i] =
          match slots[i].record with
          | none => slots[i]
          | some r => match r.state with
            | .activeNew => ⟨slots[i].rev + 1, some { r with state := .activeSeen, lastChanged := u.siteSec }⟩
            | .clearedUnseen => ⟨slots[i].rev + 1, none⟩
            | .activeSeen => slots[i]) ∧
        (active → (∃ (i : SlotIx) (r : AlarmRecord), i ≠ 0 ∧ slots[i].record = some r ∧ r.state = .clearedUnseen) →
          t.alarm.slots[(0 : SlotIx)].record = none ∧
          t.alarm.rooms = u.alarm.rooms ++ [.timebase, .referenceUnit, .leaseController, .ports, .outputs]) ∧
        t.mgmt.executing = none ∧
        ∃ a, t.mgmt.lastAnswer = some a ∧ a.code = .done ∧ a.kind = 0x0C ∧ a.group = req.group ∧
          a.fields = if req.group = 0#8 then
            [⟨1, BitVec.ofNat 32 (countIx fun i : SlotIx => slots[i].record.any fun r => r.state = .activeNew)⟩,
              ⟨2, BitVec.ofNat 32 (countIx fun i : SlotIx => slots[i].record.any fun r => r.state = .clearedUnseen)⟩] else [])

/-- CHANGE of an alarm kind's severity, of the ATTN threshold and of an alarm line: the values are taken and the record's
revision advances by one. A severity named for UNIT-REPORTED, and an argument that does not fit the line's source, give
BAD-FIELD. The model's choices in it: log entries 13, 14, 15, 16, 17. -/
def Obligations.AlarmSettingsChange : Prop :=
  ∀ (s u : State) (dt : Nat) (req : Request) (stage : Stage) (v : Severity), s.At dt u →
    let severity : Word := BitVec.ofNat 32 v.code
    (∀ i : Fin 20, req.NamesIndex (i.val + 1) → s.RequestActs ⟨0x03, 0x08, req⟩ stage →
      let k := u.alarm.kinds[i]
      req.revision = k.rev → req.fields = [⟨4, severity⟩] →
      (k.severity.isSome →
        ∃ t, exec (.changeAlarmKind dt req stage) s = .next t ∧ u.OnlyTouches [.mgmt, .kinds, .pins] t ∧
          t.AnsweredDone 0x03 .alarmKind (i.val + 1) req.group ∧ t.alarm.kinds = u.alarm.kinds.set i ⟨some v, k.rev + 1⟩) ∧
      (k.severity = none →
        ∃ t rev, exec (.changeAlarmKind dt req stage) s = .next t ∧ u.OnlyTouches [.mgmt, .pins] t ∧
          t.AnsweredRefusal ⟨0x03, 0x08, req⟩ .badField rev)) ∧
    (req.NamesIndex 0 → s.RequestActs ⟨0x03, 0x0A, req⟩ stage → req.revision = u.alarm.thresholdRev →
      req.fields = [⟨1, severity⟩] →
      ∃ t, exec (.changeAlarmUnit dt req stage) s = .next t ∧ u.OnlyTouches [.mgmt, .threshold, .pins] t ∧
        t.AnsweredDone 0x03 .alarmUnit 0 req.group ∧ t.alarm.threshold = v ∧ t.alarm.thresholdRev = u.alarm.thresholdRev + 1) ∧
    ∀ (i : LineIx) (source : LineSource) (argument : Word) (acked : Bool) (polarity : Polarity), req.NamesIndex i.val →
      s.RequestActs ⟨0x03, 0x09, req⟩ stage → req.revision = u.alarm.lines[i].rev →
      req.fields = [⟨1, BitVec.ofNat 32 source.code⟩, ⟨2, argument⟩, ⟨3, if acked then 1 else 0⟩,
        ⟨4, BitVec.ofNat 32 polarity.code⟩] →
      let n := argument.toNat
      let fits : Prop := match source with
        | .severityAtLeast | .classWorseThan => 1 ≤ n ∧ n ≤ 4
        | .kindActive => n ≤ 19
        | .timebaseIn => 1 ≤ n ∧ n ≤ 63
        | .referenceSelected => n ≤ 7
        | .constant => n ≤ 1
      (fits →
        ∃ t, exec (.changeAlarmLine dt req stage) s = .next t ∧ u.OnlyTouches [.mgmt, .lines, .pins] t ∧
          t.AnsweredDone 0x03 .alarmLine i.val req.group ∧
          t.alarm.lines[i].settings = (source, argument, acked, polarity, u.alarm.lines[i].rev + 1) ∧
          ∀ j : LineIx, j ≠ i → t.alarm.lines[j].settings = u.alarm.lines[j].settings) ∧
      (¬ fits →
        ∃ t rev, exec (.changeAlarmLine dt req stage) s = .next t ∧ u.OnlyTouches [.mgmt, .pins] t ∧
          t.AnsweredRefusal ⟨0x03, 0x09, req⟩ .badField rev)

/-- ROOM_ANNOUNCEMENT: a block to which room was announced raises its standing conditions again, in index order. Without an
announcement nothing happens. The model's choices in it: log entry 7. -/
def Obligations.RoomRaisesStandingConditions : Prop :=
  ∀ (s u : State) (dt : Nat) (b : Block), s.At dt u →
    let raises : List Raise := match b with
      | .timebase => match u.tb.state with
        | .freeRun => if u.mgmt.setup = .closed then [⟨.freeRun, 0, none, none, none⟩] else []
        | .holdover | .assisted => [⟨.holdover, 0, none, none, none⟩]
        | .spent => [⟨.holdoverSpent, 0, none, none, none⟩]
        | .acquiring | .locked => []
      | .referenceUnit => (List.finRange 8).filterMap fun i => match (u.ref i).state with
        | .faulted => some ⟨.refFaulted, i.val, none, (u.ref i).faultCause.map .cause, none⟩
        | .lockedOut => some ⟨.refLockedOut, i.val, none, (u.ref i).faultCause.map .cause, none⟩
        | .disabled | .qualifying | .usable => none
      | .ports => (List.finRange 8).filterMap fun p => match (u.port p).state with
        | .down => some ⟨.portDown, p.val, none, none, none⟩
        | .conflict => some ⟨.portConflict, p.val, none, none, none⟩
        | .closed | .opened => none
      | .outputs => (List.finRange 4).filterMap fun i =>
        if (u.out i).state = .squelched then some ⟨.outputSquelched, i.val, none, none, none⟩ else none
      | .leaseController => ((List.finRange 32).flatMap fun l => (u.lease l).toList.flatMap fun x =>
          (if x.state = .pending then [⟨.leasePending, l.val, some x.tag, none, none⟩] else []) ++
          (if x.state = .inService ∧ ¬ u.tb.siteClass.rank ≤ x.required.rank then
            [⟨.leaseDegraded, l.val, some x.tag, none, none⟩] else []) ++
          (if x.state = .suspended then
            [⟨.leaseSuspended, l.val, some x.tag, x.suspendCause.map .suspended, none⟩] else []) ++
          (if x.delayJump then [⟨.delayJump, l.val, some x.tag, none, none⟩] else []) ++
          (x.report.severity.toList.map fun v =>
            ⟨.unitReported, l.val, some x.tag, some (.sequence x.report.sequence.toNat), some v⟩)) ++
        if 32 ≤ u.liveCount then [⟨.leaseTableFull, 0, none, none, none⟩] else []
    (b ∈ u.alarm.rooms →
      ∃ t, exec (.roomAnnouncement dt b) s = .next t ∧ u.OnlyTouches [.slots, .rooms, .pins] t ∧
        t.alarm.rooms = u.alarm.rooms.erase b ∧
        t.alarm.slots = (raises.foldl (fun a r => a.raise u.siteSec r) u.alarm).slots) ∧
    (b ∉ u.alarm.rooms → ∃ t, exec (.roomAnnouncement dt b) s = .next t ∧ u.OnlyTouches [.pins] t)

/-! ### CHANGE of the timebase record, a port and a reference entry -/

/-- CHANGE of the timebase record's selection and sampling settings; of its class table and holdover profile, which is refused
with SETUP-CLOSED once setup is CLOSED and with BAD-FIELD when the thresholds do not increase, and moves the site class and
SPENT; of a port's settings. The values are taken. The revision is said where it is known to advance by one alone: for the
selection and sampling settings with revertive no, and for a port; with revertive yes and for the class table it is left open.
The model's choices in it: log entries 9, 13, 14, 16, 17. -/
def Obligations.ChangeTimebaseAndPort : Prop :=
  ∀ (s u : State) (dt : Nat) (req : Request) (stage : Stage), s.At dt u →
    (∀ (revertive : Bool) (wait threshold slew lock wander minLock : Nat) (policy : StepPolicy), req.NamesIndex 0 →
      req.revision = u.tb.rev → s.RequestActs ⟨0x03, 0x01, req⟩ stage →
      req.fields = [⟨6, if revertive then 1 else 0⟩, ⟨7, BitVec.ofNat 32 wait⟩, ⟨8, BitVec.ofNat 32 policy.code⟩,
        ⟨9, BitVec.ofNat 32 threshold⟩, ⟨10, BitVec.ofNat 32 slew⟩, ⟨11, BitVec.ofNat 32 lock⟩,
        ⟨12, BitVec.ofNat 32 wander⟩, ⟨13, BitVec.ofNat 32 minLock⟩] →
      1 ≤ wait ∧ wait ≤ 3600 → 100 ≤ threshold ∧ threshold ≤ 1000000 → 1 ≤ slew ∧ slew ≤ 1000 → 10 ≤ lock ∧ lock ≤ 1000 →
      50 ≤ wander ∧ wander ≤ 100000 → minLock ≤ 86400 → u.tb.thrA < u.tb.thrB → u.tb.thrB < u.tb.thrC → u.tb.thrC < u.tb.thrD →
      ∃ t, exec (.changeTimebase dt req stage) s = .next t ∧ u.OnlyTouches [.mgmt, .tb, .tbSettings, .slots, .rooms, .pins] t ∧
        t.AnsweredDone 0x03 .timebase 0 req.group ∧
        t.tb.settings = { u.tb.settings with
          revertive := revertive, waitToRestore := wait, stepPolicy := policy, stepThreshold := threshold, slewLimit := slew
          lockThreshold := lock, wanderLimit := wander, minLockTime := minLock } ∧
        (revertive = false → t.tb.restore = none ∧ t.tb.rev = u.tb.rev + 1 ∧ t.tb.state = u.tb.state ∧
          t.tb.selected = u.tb.selected)) ∧
    (∀ a b c d g0 aging rate : Nat, req.NamesIndex 0 → req.revision = u.tb.rev → s.RequestActs ⟨0x03, 0x01, req⟩ stage →
      req.fields = [⟨14, BitVec.ofNat 32 a⟩, ⟨15, BitVec.ofNat 32 b⟩, ⟨16, BitVec.ofNat 32 c⟩, ⟨17, BitVec.ofNat 32 d⟩,
        ⟨18, BitVec.ofNat 32 g0⟩, ⟨19, BitVec.ofNat 32 aging⟩, ⟨20, BitVec.ofNat 32 rate⟩] →
      1 ≤ a ∧ a ≤ 1000000 → 1 ≤ b ∧ b ≤ 1000000 → 1 ≤ c ∧ c ≤ 1000000 → 1 ≤ d ∧ d ≤ 1000000 → g0 ≤ 1000 →
      1 ≤ aging ∧ aging ≤ 65535 → rate ≤ 1000 →
      let increasing : Prop := a < b ∧ b < c ∧ c < d
      let above : Prop := ∃ e, u.tb.e = some e ∧ d < e
      let refused := fun code => ∃ t rev, exec (.changeTimebase dt req stage) s = .next t ∧ u.OnlyTouches [.mgmt, .pins] t ∧
        t.AnsweredRefusal ⟨0x03, 0x01, req⟩ code rev
      (¬ increasing → refused .badField) ∧
      (increasing → u.mgmt.setup = .closed → refused .setupClosed) ∧
      (increasing → u.mgmt.setup = .opened →
        ∃ t, exec (.changeTimebase dt req stage) s = .next t ∧
          u.OnlyTouches [.mgmt, .tb, .tbSettings, .ports, .leases, .outs, .slots, .rooms, .pins] t ∧
          t.AnsweredDone 0x03 .timebase 0 req.group ∧
          t.tb = { u.tb with
            thrA := a, thrB := b, thrC := c, thrD := d, g0 := g0, aging := aging, assistedRate := rate
            siteClass := ({ u.tb with thrA := a, thrB := b, thrC := c, thrD := d } : Timebase).classOf
            state :=
              if u.tb.state = .spent ∧ ¬ above then (if u.tb.assist.isSome then .assisted else .holdover)
              else if (u.tb.state = .holdover ∨ u.tb.state = .assisted) ∧ above then .spent
              else u.tb.state
            rev := t.tb.rev })) ∧
    ∀ (p : PortIx) (asymmetry : Int) (limit interval : Nat), req.NamesIndex p.val → req.revision = (u.port p).rev →
      s.RequestActs ⟨0x03, 0x05, req⟩ stage →
      req.fields = [⟨3, BitVec.ofInt 32 asymmetry⟩, ⟨4, BitVec.ofNat 32 limit⟩, ⟨5, BitVec.ofNat 32 interval⟩] →
      -10000 ≤ asymmetry ∧ asymmetry ≤ 10000 → 1 ≤ limit ∧ limit ≤ 1000 → 1 ≤ interval ∧ interval ≤ 600 →
      ∃ t, exec (.changePort dt req stage) s = .next t ∧
        u.OnlyTouches [.mgmt, .ports, .portSettings, .portStates, .pins] t ∧ t.AnsweredDone 0x03 .port p.val req.group ∧
        (∀ q, q ≠ p → t.port q = u.port q) ∧
        t.port p = { u.port p with
          asymmetry := asymmetry, spreadLimit := limit, scanInterval := interval, rev := (u.port p).rev + 1 }

/-- CHANGE of a reference entry. Enabled yes starts a DISABLED entry: QUALIFYING, or LOCKED-OUT at fault score 4; enabled no
takes it to DISABLED; on entries 6 and 7 it gives WRONG-STATE. Its settings are taken and its revision advances; edge named
makes its next edge a starting edge; a field that does not apply to the entry's kind gives BAD-FIELD. The model's choices in
it: log entries 9, 13, 14, 16, 17, 33. -/
def Obligations.ChangeReferenceActs : Prop :=
  ∀ (s u : State) (dt : Nat) (req : Request) (stage : Stage) (i : RefIx), s.At dt u → req.NamesIndex i.val →
    req.revision = (u.ref i).rev → s.RequestActs ⟨0x03, 0x02, req⟩ stage →
    let e := u.ref i
    let others := fun t : State => ∀ j, j ≠ i → t.ref j = u.ref j
    let answered := fun t : State => t.AnsweredDone 0x03 .reference i.val req.group
    let refused := fun code => ∃ t rev, exec (.changeReference dt req stage) s = .next t ∧ u.OnlyTouches [.mgmt, .pins] t ∧
      t.AnsweredRefusal ⟨0x03, 0x02, req⟩ code rev
    (req.fields = [⟨2, 1⟩] → i.val < 6 → e.state = .disabled → e.enabled = false →
      ∃ t, exec (.changeReference dt req stage) s = .next t ∧ u.OnlyTouches [.mgmt, .refs, .slots, .rooms, .pins] t ∧
        others t ∧ answered t ∧
        t.ref i = if e.faultScore < 4 then { e with
          state := .qualifying, enabled := true, rev := e.rev + 2, progress := 0, holdOffRemaining := none, pendingLabel := none
          prevEdge := none, labelLess := 0, missingSince := some u.clock.osc, window := none, listenSince := some u.clock.osc }
          else { e with state := .lockedOut, enabled := true, rev := e.rev + 2, listenSince := some u.clock.osc }) ∧
    (req.fields = [⟨2, 0⟩] → i.val < 6 → e.enabled = true →
      ∃ t, exec (.changeReference dt req stage) s = .next t ∧ u.OnlyTouches (.mgmt :: Part.ofFault) t ∧ others t ∧ answered t ∧
        t.ref i = { e with
          state := .disabled, enabled := false, rev := e.rev + 2, usableSince := none, progress := 0, holdOffRemaining := none
          lastOffset := none, lastFreq := none, pendingLabel := none, prevEdge := none, labelLess := 0, missingSince := none
          decayClock := none, window := none, listenSince := none }) ∧
    (6 ≤ i.val → req.fields = [⟨2, 1⟩] ∨ req.fields = [⟨2, 0⟩] → refused .wrongState) ∧
    (∀ (priority declared holdOff : Nat) (delay : Int) (edge : Edge), i.val < 4 → e.state ≠ .usable →
      req.fields = [⟨3, BitVec.ofNat 32 priority⟩, ⟨4, BitVec.ofNat 32 declared⟩, ⟨5, BitVec.ofInt 32 delay⟩,
        ⟨6, BitVec.ofNat 32 (edgeCode edge)⟩, ⟨8, BitVec.ofNat 32 holdOff⟩] →
      priority ≤ 15 → declared ≤ 5000 → -100000 ≤ delay ∧ delay ≤ 100000 → 1 ≤ holdOff ∧ holdOff ≤ 3600 →
      ∃ t, exec (.changeReference dt req stage) s = .next t ∧ u.OnlyTouches [.mgmt, .refs, .refSettings, .pins] t ∧ others t ∧
        answered t ∧
        t.ref i = { e with
          priority := priority, declaredError := declared, inputDelay := delay, edge := edge, holdOff := holdOff
          rev := e.rev + 1, prevEdge := none, labelLess := 0, missingSince := e.missingSince.map fun _ => u.clock.osc }) ∧
    (∀ limit : Nat, req.fields = [⟨9, BitVec.ofNat 32 limit⟩] → 1 ≤ limit → limit ≤ 10000 →
      (i = 4 ∨ i = 5 →
        ∃ t, exec (.changeReference dt req stage) s = .next t ∧ u.OnlyTouches [.mgmt, .refs, .refSettings, .pins] t ∧
          others t ∧ answered t ∧ t.ref i = { e with freqLimit := limit, rev := e.rev + 1 }) ∧
      (i ≠ 4 → i ≠ 5 → refused .badField))

/-! ### What every step keeps -/

/-- The state table of the timebase, the class of E and the SPENT law hold after every step from a state in which they hold. -/
def Obligations.TimebaseAgreesAfterEveryStep : Prop :=
  ∀ s t : State, s.TimebaseAgrees → step s = .next t → t.TimebaseAgrees

/-- The running values stay in their ranges, and LOCKED-OUT goes with fault score 4. A port that is OPEN has lock and one that is
DOWN has none, and a lane receiver's count stays below that of a gain or loss of lock. The model's choices in it: log entries 4,
25, 57. -/
def Obligations.RunningValuesStayInRange : Prop :=
  (∀ s t : State, s.InRange → s.LockoutAgrees → step s = .next t → t.InRange ∧ t.LockoutAgrees) ∧
  ∀ s t : State, s.LanesAgree → step s = .next t → t.LanesAgree

/-- Every output stays in the state its enabled field and the site class give, LOW and without a plan when it is not RUNNING.
The model's choices in it: log entry 23. -/
def Obligations.OutputsAgreeAfterEveryStep : Prop :=
  ∀ s t : State, s.OutputsAgree → step s = .next t → t.OutputsAgree

/-- Tags stay unique among live leases, ports count their leases, and bound entries name their leases. -/
def Obligations.LeasesAgreeAfterEveryStep : Prop :=
  ∀ s t : State, s.LeasesAgree → step s = .next t → t.LeasesAgree

/-- The alarm table holds at most one record per key, and an ACTIVE record about a lease names a live lease with its tag. -/
def Obligations.AlarmsAgreeAfterEveryStep : Prop :=
  ∀ s t : State, s.LeasesAgree → s.AlarmsAgree → step s = .next t → t.AlarmsAgree

/-- What every step keeps holds after reset. -/
def Obligations.ReachableInvariantsHoldAtReset : Prop :=
  State.reset.PinsAgree ∧ State.reset.TimebaseAgrees ∧ State.reset.InRange ∧ State.reset.LockoutAgrees ∧
  State.reset.LanesAgree ∧ State.reset.OutputsAgree ∧ State.reset.LeasesAgree ∧ State.reset.AlarmsAgree
end

