-- ==== Sys2Proof/Laws/State.lean ====
section
/-! SUPPORT. One lemma per field and writer of the state, true by unfolding, so that no later proof unfolds a record update. -/
namespace Sys2Proof.Machine
open Sys2Proof

variable (s : State)

@[simp] theorem setClock_clock (c : Clock) : (s.setClock c).clock = c := rfl
@[simp] theorem setClock_tb (c : Clock) : (s.setClock c).tb = s.tb := rfl
@[simp] theorem setClock_wires (c : Clock) : (s.setClock c).wires = s.wires := rfl
@[simp] theorem setClock_refs (c : Clock) : (s.setClock c).refs = s.refs := rfl
@[simp] theorem setClock_ports (c : Clock) : (s.setClock c).ports = s.ports := rfl
@[simp] theorem setClock_lanes (c : Clock) : (s.setClock c).lanes = s.lanes := rfl
@[simp] theorem setClock_leases (c : Clock) : (s.setClock c).leases = s.leases := rfl
@[simp] theorem setClock_admission (c : Clock) : (s.setClock c).admission = s.admission := rfl
@[simp] theorem setClock_outs (c : Clock) : (s.setClock c).outs = s.outs := rfl
@[simp] theorem setClock_alarm (c : Clock) : (s.setClock c).alarm = s.alarm := rfl
@[simp] theorem setClock_mgmt (c : Clock) : (s.setClock c).mgmt = s.mgmt := rfl
@[simp] theorem setClock_resetLow (c : Clock) : (s.setClock c).resetLow = s.resetLow := rfl
@[simp] theorem setClock_pending (c : Clock) : (s.setClock c).pending = s.pending := rfl

@[simp] theorem setTb_clock (b : Timebase) : (s.setTb b).clock = s.clock := rfl
@[simp] theorem setTb_tb (b : Timebase) : (s.setTb b).tb = b := rfl
@[simp] theorem setTb_wires (b : Timebase) : (s.setTb b).wires = s.wires := rfl
@[simp] theorem setTb_refs (b : Timebase) : (s.setTb b).refs = s.refs := rfl
@[simp] theorem setTb_ports (b : Timebase) : (s.setTb b).ports = s.ports := rfl
@[simp] theorem setTb_lanes (b : Timebase) : (s.setTb b).lanes = s.lanes := rfl
@[simp] theorem setTb_leases (b : Timebase) : (s.setTb b).leases = s.leases := rfl
@[simp] theorem setTb_admission (b : Timebase) : (s.setTb b).admission = s.admission := rfl
@[simp] theorem setTb_outs (b : Timebase) : (s.setTb b).outs = s.outs := rfl
@[simp] theorem setTb_alarm (b : Timebase) : (s.setTb b).alarm = s.alarm := rfl
@[simp] theorem setTb_mgmt (b : Timebase) : (s.setTb b).mgmt = s.mgmt := rfl
@[simp] theorem setTb_resetLow (b : Timebase) : (s.setTb b).resetLow = s.resetLow := rfl
@[simp] theorem setTb_pending (b : Timebase) : (s.setTb b).pending = s.pending := rfl

@[simp] theorem setWires_clock (w : Wires) : (s.setWires w).clock = s.clock := rfl
@[simp] theorem setWires_tb (w : Wires) : (s.setWires w).tb = s.tb := rfl
@[simp] theorem setWires_wires (w : Wires) : (s.setWires w).wires = w := rfl
@[simp] theorem setWires_refs (w : Wires) : (s.setWires w).refs = s.refs := rfl
@[simp] theorem setWires_ports (w : Wires) : (s.setWires w).ports = s.ports := rfl
@[simp] theorem setWires_lanes (w : Wires) : (s.setWires w).lanes = s.lanes := rfl
@[simp] theorem setWires_leases (w : Wires) : (s.setWires w).leases = s.leases := rfl
@[simp] theorem setWires_admission (w : Wires) : (s.setWires w).admission = s.admission := rfl
@[simp] theorem setWires_outs (w : Wires) : (s.setWires w).outs = s.outs := rfl
@[simp] theorem setWires_alarm (w : Wires) : (s.setWires w).alarm = s.alarm := rfl
@[simp] theorem setWires_mgmt (w : Wires) : (s.setWires w).mgmt = s.mgmt := rfl
@[simp] theorem setWires_resetLow (w : Wires) : (s.setWires w).resetLow = s.resetLow := rfl
@[simp] theorem setWires_pending (w : Wires) : (s.setWires w).pending = s.pending := rfl

@[simp] theorem setAlarm_clock (a : AlarmUnit) : (s.setAlarm a).clock = s.clock := rfl
@[simp] theorem setAlarm_tb (a : AlarmUnit) : (s.setAlarm a).tb = s.tb := rfl
@[simp] theorem setAlarm_wires (a : AlarmUnit) : (s.setAlarm a).wires = s.wires := rfl
@[simp] theorem setAlarm_refs (a : AlarmUnit) : (s.setAlarm a).refs = s.refs := rfl
@[simp] theorem setAlarm_ports (a : AlarmUnit) : (s.setAlarm a).ports = s.ports := rfl
@[simp] theorem setAlarm_lanes (a : AlarmUnit) : (s.setAlarm a).lanes = s.lanes := rfl
@[simp] theorem setAlarm_leases (a : AlarmUnit) : (s.setAlarm a).leases = s.leases := rfl
@[simp] theorem setAlarm_admission (a : AlarmUnit) : (s.setAlarm a).admission = s.admission := rfl
@[simp] theorem setAlarm_outs (a : AlarmUnit) : (s.setAlarm a).outs = s.outs := rfl
@[simp] theorem setAlarm_alarm (a : AlarmUnit) : (s.setAlarm a).alarm = a := rfl
@[simp] theorem setAlarm_mgmt (a : AlarmUnit) : (s.setAlarm a).mgmt = s.mgmt := rfl
@[simp] theorem setAlarm_resetLow (a : AlarmUnit) : (s.setAlarm a).resetLow = s.resetLow := rfl
@[simp] theorem setAlarm_pending (a : AlarmUnit) : (s.setAlarm a).pending = s.pending := rfl

@[simp] theorem setMgmt_clock (m : Mgmt) : (s.setMgmt m).clock = s.clock := rfl
@[simp] theorem setMgmt_tb (m : Mgmt) : (s.setMgmt m).tb = s.tb := rfl
@[simp] theorem setMgmt_wires (m : Mgmt) : (s.setMgmt m).wires = s.wires := rfl
@[simp] theorem setMgmt_refs (m : Mgmt) : (s.setMgmt m).refs = s.refs := rfl
@[simp] theorem setMgmt_ports (m : Mgmt) : (s.setMgmt m).ports = s.ports := rfl
@[simp] theorem setMgmt_lanes (m : Mgmt) : (s.setMgmt m).lanes = s.lanes := rfl
@[simp] theorem setMgmt_leases (m : Mgmt) : (s.setMgmt m).leases = s.leases := rfl
@[simp] theorem setMgmt_admission (m : Mgmt) : (s.setMgmt m).admission = s.admission := rfl
@[simp] theorem setMgmt_outs (m : Mgmt) : (s.setMgmt m).outs = s.outs := rfl
@[simp] theorem setMgmt_alarm (m : Mgmt) : (s.setMgmt m).alarm = s.alarm := rfl
@[simp] theorem setMgmt_mgmt (m : Mgmt) : (s.setMgmt m).mgmt = m := rfl
@[simp] theorem setMgmt_resetLow (m : Mgmt) : (s.setMgmt m).resetLow = s.resetLow := rfl
@[simp] theorem setMgmt_pending (m : Mgmt) : (s.setMgmt m).pending = s.pending := rfl

@[simp] theorem withPending_clock (q : List Instr) : (s.withPending q).clock = s.clock := rfl
@[simp] theorem withPending_tb (q : List Instr) : (s.withPending q).tb = s.tb := rfl
@[simp] theorem withPending_wires (q : List Instr) : (s.withPending q).wires = s.wires := rfl
@[simp] theorem withPending_refs (q : List Instr) : (s.withPending q).refs = s.refs := rfl
@[simp] theorem withPending_ports (q : List Instr) : (s.withPending q).ports = s.ports := rfl
@[simp] theorem withPending_lanes (q : List Instr) : (s.withPending q).lanes = s.lanes := rfl
@[simp] theorem withPending_leases (q : List Instr) : (s.withPending q).leases = s.leases := rfl
@[simp] theorem withPending_admission (q : List Instr) : (s.withPending q).admission = s.admission := rfl
@[simp] theorem withPending_outs (q : List Instr) : (s.withPending q).outs = s.outs := rfl
@[simp] theorem withPending_alarm (q : List Instr) : (s.withPending q).alarm = s.alarm := rfl
@[simp] theorem withPending_mgmt (q : List Instr) : (s.withPending q).mgmt = s.mgmt := rfl
@[simp] theorem withPending_resetLow (q : List Instr) : (s.withPending q).resetLow = s.resetLow := rfl
@[simp] theorem withPending_pending (q : List Instr) : (s.withPending q).pending = q := rfl

@[simp] theorem setRef_clock (i : RefIx) (e : RefEntry) : (s.setRef i e).clock = s.clock := rfl
@[simp] theorem setRef_tb (i : RefIx) (e : RefEntry) : (s.setRef i e).tb = s.tb := rfl
@[simp] theorem setRef_wires (i : RefIx) (e : RefEntry) : (s.setRef i e).wires = s.wires := rfl
@[simp] theorem setRef_refs (i : RefIx) (e : RefEntry) : (s.setRef i e).refs = s.refs.set i e := rfl
@[simp] theorem setRef_ports (i : RefIx) (e : RefEntry) : (s.setRef i e).ports = s.ports := rfl
@[simp] theorem setRef_lanes (i : RefIx) (e : RefEntry) : (s.setRef i e).lanes = s.lanes := rfl
@[simp] theorem setRef_leases (i : RefIx) (e : RefEntry) : (s.setRef i e).leases = s.leases := rfl
@[simp] theorem setRef_admission (i : RefIx) (e : RefEntry) : (s.setRef i e).admission = s.admission := rfl
@[simp] theorem setRef_outs (i : RefIx) (e : RefEntry) : (s.setRef i e).outs = s.outs := rfl
@[simp] theorem setRef_alarm (i : RefIx) (e : RefEntry) : (s.setRef i e).alarm = s.alarm := rfl
@[simp] theorem setRef_mgmt (i : RefIx) (e : RefEntry) : (s.setRef i e).mgmt = s.mgmt := rfl
@[simp] theorem setRef_resetLow (i : RefIx) (e : RefEntry) : (s.setRef i e).resetLow = s.resetLow := rfl
@[simp] theorem setRef_pending (i : RefIx) (e : RefEntry) : (s.setRef i e).pending = s.pending := rfl

@[simp] theorem setPort_clock (p : PortIx) (r : Port) : (s.setPort p r).clock = s.clock := rfl
@[simp] theorem setPort_tb (p : PortIx) (r : Port) : (s.setPort p r).tb = s.tb := rfl
@[simp] theorem setPort_wires (p : PortIx) (r : Port) : (s.setPort p r).wires = s.wires := rfl
@[simp] theorem setPort_refs (p : PortIx) (r : Port) : (s.setPort p r).refs = s.refs := rfl
@[simp] theorem setPort_ports (p : PortIx) (r : Port) : (s.setPort p r).ports = s.ports.set p r := rfl
@[simp] theorem setPort_lanes (p : PortIx) (r : Port) : (s.setPort p r).lanes = s.lanes := rfl
@[simp] theorem setPort_leases (p : PortIx) (r : Port) : (s.setPort p r).leases = s.leases := rfl
@[simp] theorem setPort_admission (p : PortIx) (r : Port) : (s.setPort p r).admission = s.admission := rfl
@[simp] theorem setPort_outs (p : PortIx) (r : Port) : (s.setPort p r).outs = s.outs := rfl
@[simp] theorem setPort_alarm (p : PortIx) (r : Port) : (s.setPort p r).alarm = s.alarm := rfl
@[simp] theorem setPort_mgmt (p : PortIx) (r : Port) : (s.setPort p r).mgmt = s.mgmt := rfl
@[simp] theorem setPort_resetLow (p : PortIx) (r : Port) : (s.setPort p r).resetLow = s.resetLow := rfl
@[simp] theorem setPort_pending (p : PortIx) (r : Port) : (s.setPort p r).pending = s.pending := rfl

@[simp] theorem setLeaseSlot_clock (l : LeaseIx) (x : LeaseSlot) : (s.setLeaseSlot l x).clock = s.clock := rfl
@[simp] theorem setLeaseSlot_tb (l : LeaseIx) (x : LeaseSlot) : (s.setLeaseSlot l x).tb = s.tb := rfl
@[simp] theorem setLeaseSlot_wires (l : LeaseIx) (x : LeaseSlot) : (s.setLeaseSlot l x).wires = s.wires := rfl
@[simp] theorem setLeaseSlot_refs (l : LeaseIx) (x : LeaseSlot) : (s.setLeaseSlot l x).refs = s.refs := rfl
@[simp] theorem setLeaseSlot_ports (l : LeaseIx) (x : LeaseSlot) : (s.setLeaseSlot l x).ports = s.ports := rfl
@[simp] theorem setLeaseSlot_lanes (l : LeaseIx) (x : LeaseSlot) : (s.setLeaseSlot l x).lanes = s.lanes := rfl
@[simp] theorem setLeaseSlot_leases (l : LeaseIx) (x : LeaseSlot) : (s.setLeaseSlot l x).leases = s.leases.set l x := rfl
@[simp] theorem setLeaseSlot_admission (l : LeaseIx) (x : LeaseSlot) : (s.setLeaseSlot l x).admission = s.admission := rfl
@[simp] theorem setLeaseSlot_outs (l : LeaseIx) (x : LeaseSlot) : (s.setLeaseSlot l x).outs = s.outs := rfl
@[simp] theorem setLeaseSlot_alarm (l : LeaseIx) (x : LeaseSlot) : (s.setLeaseSlot l x).alarm = s.alarm := rfl
@[simp] theorem setLeaseSlot_mgmt (l : LeaseIx) (x : LeaseSlot) : (s.setLeaseSlot l x).mgmt = s.mgmt := rfl
@[simp] theorem setLeaseSlot_resetLow (l : LeaseIx) (x : LeaseSlot) : (s.setLeaseSlot l x).resetLow = s.resetLow := rfl
@[simp] theorem setLeaseSlot_pending (l : LeaseIx) (x : LeaseSlot) : (s.setLeaseSlot l x).pending = s.pending := rfl

@[simp] theorem setAdmission_clock (i : AdmIx) (x : AdmissionSlot) : (s.setAdmission i x).clock = s.clock := rfl
@[simp] theorem setAdmission_tb (i : AdmIx) (x : AdmissionSlot) : (s.setAdmission i x).tb = s.tb := rfl
@[simp] theorem setAdmission_wires (i : AdmIx) (x : AdmissionSlot) : (s.setAdmission i x).wires = s.wires := rfl
@[simp] theorem setAdmission_refs (i : AdmIx) (x : AdmissionSlot) : (s.setAdmission i x).refs = s.refs := rfl
@[simp] theorem setAdmission_ports (i : AdmIx) (x : AdmissionSlot) : (s.setAdmission i x).ports = s.ports := rfl
@[simp] theorem setAdmission_lanes (i : AdmIx) (x : AdmissionSlot) : (s.setAdmission i x).lanes = s.lanes := rfl
@[simp] theorem setAdmission_leases (i : AdmIx) (x : AdmissionSlot) : (s.setAdmission i x).leases = s.leases := rfl
@[simp] theorem setAdmission_admission (i : AdmIx) (x : AdmissionSlot) : (s.setAdmission i x).admission = s.admission.set i x := rfl
@[simp] theorem setAdmission_outs (i : AdmIx) (x : AdmissionSlot) : (s.setAdmission i x).outs = s.outs := rfl
@[simp] theorem setAdmission_alarm (i : AdmIx) (x : AdmissionSlot) : (s.setAdmission i x).alarm = s.alarm := rfl
@[simp] theorem setAdmission_mgmt (i : AdmIx) (x : AdmissionSlot) : (s.setAdmission i x).mgmt = s.mgmt := rfl
@[simp] theorem setAdmission_resetLow (i : AdmIx) (x : AdmissionSlot) : (s.setAdmission i x).resetLow = s.resetLow := rfl
@[simp] theorem setAdmission_pending (i : AdmIx) (x : AdmissionSlot) : (s.setAdmission i x).pending = s.pending := rfl

@[simp] theorem setOut_clock (i : OutIx) (o : Output) : (s.setOut i o).clock = s.clock := rfl
@[simp] theorem setOut_tb (i : OutIx) (o : Output) : (s.setOut i o).tb = s.tb := rfl
@[simp] theorem setOut_wires (i : OutIx) (o : Output) : (s.setOut i o).wires = s.wires := rfl
@[simp] theorem setOut_refs (i : OutIx) (o : Output) : (s.setOut i o).refs = s.refs := rfl
@[simp] theorem setOut_ports (i : OutIx) (o : Output) : (s.setOut i o).ports = s.ports := rfl
@[simp] theorem setOut_lanes (i : OutIx) (o : Output) : (s.setOut i o).lanes = s.lanes := rfl
@[simp] theorem setOut_leases (i : OutIx) (o : Output) : (s.setOut i o).leases = s.leases := rfl
@[simp] theorem setOut_admission (i : OutIx) (o : Output) : (s.setOut i o).admission = s.admission := rfl
@[simp] theorem setOut_outs (i : OutIx) (o : Output) : (s.setOut i o).outs = s.outs.set i o := rfl
@[simp] theorem setOut_alarm (i : OutIx) (o : Output) : (s.setOut i o).alarm = s.alarm := rfl
@[simp] theorem setOut_mgmt (i : OutIx) (o : Output) : (s.setOut i o).mgmt = s.mgmt := rfl
@[simp] theorem setOut_resetLow (i : OutIx) (o : Output) : (s.setOut i o).resetLow = s.resetLow := rfl
@[simp] theorem setOut_pending (i : OutIx) (o : Output) : (s.setOut i o).pending = s.pending := rfl

@[simp] theorem setLane_clock (p : PortIx) (r : LaneReceiver) : (s.setLane p r).clock = s.clock := rfl
@[simp] theorem setLane_tb (p : PortIx) (r : LaneReceiver) : (s.setLane p r).tb = s.tb := rfl
@[simp] theorem setLane_wires (p : PortIx) (r : LaneReceiver) : (s.setLane p r).wires = s.wires := rfl
@[simp] theorem setLane_refs (p : PortIx) (r : LaneReceiver) : (s.setLane p r).refs = s.refs := rfl
@[simp] theorem setLane_ports (p : PortIx) (r : LaneReceiver) : (s.setLane p r).ports = s.ports := rfl
@[simp] theorem setLane_lanes (p : PortIx) (r : LaneReceiver) : (s.setLane p r).lanes = s.lanes.set p r := rfl
@[simp] theorem setLane_leases (p : PortIx) (r : LaneReceiver) : (s.setLane p r).leases = s.leases := rfl
@[simp] theorem setLane_admission (p : PortIx) (r : LaneReceiver) : (s.setLane p r).admission = s.admission := rfl
@[simp] theorem setLane_outs (p : PortIx) (r : LaneReceiver) : (s.setLane p r).outs = s.outs := rfl
@[simp] theorem setLane_alarm (p : PortIx) (r : LaneReceiver) : (s.setLane p r).alarm = s.alarm := rfl
@[simp] theorem setLane_mgmt (p : PortIx) (r : LaneReceiver) : (s.setLane p r).mgmt = s.mgmt := rfl
@[simp] theorem setLane_resetLow (p : PortIx) (r : LaneReceiver) : (s.setLane p r).resetLow = s.resetLow := rfl
@[simp] theorem setLane_pending (p : PortIx) (r : LaneReceiver) : (s.setLane p r).pending = s.pending := rfl

/-! ### Readers through writers -/

@[simp] theorem setClock_ref (c : Clock) (k : RefIx) : (s.setClock c).ref k = s.ref k := rfl
@[simp] theorem setClock_port (c : Clock) (k : PortIx) : (s.setClock c).port k = s.port k := rfl
@[simp] theorem setClock_slot (c : Clock) (k : LeaseIx) : (s.setClock c).slot k = s.slot k := rfl
@[simp] theorem setClock_lane (c : Clock) (k : PortIx) : (s.setClock c).lane k = s.lane k := rfl
@[simp] theorem setClock_admissionSlot (c : Clock) (k : AdmIx) : (s.setClock c).admissionSlot k = s.admissionSlot k := rfl
@[simp] theorem setClock_out (c : Clock) (k : OutIx) : (s.setClock c).out k = s.out k := rfl
@[simp] theorem setClock_lease (c : Clock) (k : LeaseIx) : (s.setClock c).lease k = s.lease k := rfl
@[simp] theorem setTb_ref (b : Timebase) (k : RefIx) : (s.setTb b).ref k = s.ref k := rfl
@[simp] theorem setTb_port (b : Timebase) (k : PortIx) : (s.setTb b).port k = s.port k := rfl
@[simp] theorem setTb_slot (b : Timebase) (k : LeaseIx) : (s.setTb b).slot k = s.slot k := rfl
@[simp] theorem setTb_lane (b : Timebase) (k : PortIx) : (s.setTb b).lane k = s.lane k := rfl
@[simp] theorem setTb_admissionSlot (b : Timebase) (k : AdmIx) : (s.setTb b).admissionSlot k = s.admissionSlot k := rfl
@[simp] theorem setTb_out (b : Timebase) (k : OutIx) : (s.setTb b).out k = s.out k := rfl
@[simp] theorem setTb_lease (b : Timebase) (k : LeaseIx) : (s.setTb b).lease k = s.lease k := rfl
@[simp] theorem setWires_ref (w : Wires) (k : RefIx) : (s.setWires w).ref k = s.ref k := rfl
@[simp] theorem setWires_port (w : Wires) (k : PortIx) : (s.setWires w).port k = s.port k := rfl
@[simp] theorem setWires_slot (w : Wires) (k : LeaseIx) : (s.setWires w).slot k = s.slot k := rfl
@[simp] theorem setWires_lane (w : Wires) (k : PortIx) : (s.setWires w).lane k = s.lane k := rfl
@[simp] theorem setWires_admissionSlot (w : Wires) (k : AdmIx) : (s.setWires w).admissionSlot k = s.admissionSlot k := rfl
@[simp] theorem setWires_out (w : Wires) (k : OutIx) : (s.setWires w).out k = s.out k := rfl
@[simp] theorem setWires_lease (w : Wires) (k : LeaseIx) : (s.setWires w).lease k = s.lease k := rfl
@[simp] theorem setAlarm_ref (a : AlarmUnit) (k : RefIx) : (s.setAlarm a).ref k = s.ref k := rfl
@[simp] theorem setAlarm_port (a : AlarmUnit) (k : PortIx) : (s.setAlarm a).port k = s.port k := rfl
@[simp] theorem setAlarm_slot (a : AlarmUnit) (k : LeaseIx) : (s.setAlarm a).slot k = s.slot k := rfl
@[simp] theorem setAlarm_lane (a : AlarmUnit) (k : PortIx) : (s.setAlarm a).lane k = s.lane k := rfl
@[simp] theorem setAlarm_admissionSlot (a : AlarmUnit) (k : AdmIx) : (s.setAlarm a).admissionSlot k = s.admissionSlot k := rfl
@[simp] theorem setAlarm_out (a : AlarmUnit) (k : OutIx) : (s.setAlarm a).out k = s.out k := rfl
@[simp] theorem setAlarm_lease (a : AlarmUnit) (k : LeaseIx) : (s.setAlarm a).lease k = s.lease k := rfl
@[simp] theorem setMgmt_ref (m : Mgmt) (k : RefIx) : (s.setMgmt m).ref k = s.ref k := rfl
@[simp] theorem setMgmt_port (m : Mgmt) (k : PortIx) : (s.setMgmt m).port k = s.port k := rfl
@[simp] theorem setMgmt_slot (m : Mgmt) (k : LeaseIx) : (s.setMgmt m).slot k = s.slot k := rfl
@[simp] theorem setMgmt_lane (m : Mgmt) (k : PortIx) : (s.setMgmt m).lane k = s.lane k := rfl
@[simp] theorem setMgmt_admissionSlot (m : Mgmt) (k : AdmIx) : (s.setMgmt m).admissionSlot k = s.admissionSlot k := rfl
@[simp] theorem setMgmt_out (m : Mgmt) (k : OutIx) : (s.setMgmt m).out k = s.out k := rfl
@[simp] theorem setMgmt_lease (m : Mgmt) (k : LeaseIx) : (s.setMgmt m).lease k = s.lease k := rfl
@[simp] theorem withPending_ref (q : List Instr) (k : RefIx) : (s.withPending q).ref k = s.ref k := rfl
@[simp] theorem withPending_port (q : List Instr) (k : PortIx) : (s.withPending q).port k = s.port k := rfl
@[simp] theorem withPending_slot (q : List Instr) (k : LeaseIx) : (s.withPending q).slot k = s.slot k := rfl
@[simp] theorem withPending_lane (q : List Instr) (k : PortIx) : (s.withPending q).lane k = s.lane k := rfl
@[simp] theorem withPending_admissionSlot (q : List Instr) (k : AdmIx) : (s.withPending q).admissionSlot k = s.admissionSlot k := rfl
@[simp] theorem withPending_out (q : List Instr) (k : OutIx) : (s.withPending q).out k = s.out k := rfl
@[simp] theorem withPending_lease (q : List Instr) (k : LeaseIx) : (s.withPending q).lease k = s.lease k := rfl
@[simp] theorem setRef_ref (i : RefIx) (e : RefEntry) : (s.setRef i e).ref i = e := by simp [State.setRef, State.ref]
theorem setRef_ref_ne {i k : RefIx} (h : i ≠ k) (e : RefEntry) : (s.setRef i e).ref k = s.ref k := by
  have h' : ¬ (i.val = k.val) := fun e => h (Fin.ext e)
  simp [State.setRef, State.ref, h']
theorem setRef_ref_if (i k : RefIx) (e : RefEntry) : (s.setRef i e).ref k = if i = k then e else s.ref k := by
  by_cases h : i = k
  · subst h; simp
  · simp [setRef_ref_ne s h, h]
@[simp] theorem setRef_port (i : RefIx) (e : RefEntry) (k : PortIx) : (s.setRef i e).port k = s.port k := rfl
@[simp] theorem setRef_slot (i : RefIx) (e : RefEntry) (k : LeaseIx) : (s.setRef i e).slot k = s.slot k := rfl
@[simp] theorem setRef_lane (i : RefIx) (e : RefEntry) (k : PortIx) : (s.setRef i e).lane k = s.lane k := rfl
@[simp] theorem setRef_admissionSlot (i : RefIx) (e : RefEntry) (k : AdmIx) : (s.setRef i e).admissionSlot k = s.admissionSlot k := rfl
@[simp] theorem setRef_out (i : RefIx) (e : RefEntry) (k : OutIx) : (s.setRef i e).out k = s.out k := rfl
@[simp] theorem setRef_lease (i : RefIx) (e : RefEntry) (k : LeaseIx) : (s.setRef i e).lease k = s.lease k := rfl
@[simp] theorem setPort_ref (p : PortIx) (r : Port) (k : RefIx) : (s.setPort p r).ref k = s.ref k := rfl
@[simp] theorem setPort_port (p : PortIx) (r : Port) : (s.setPort p r).port p = r := by simp [State.setPort, State.port]
theorem setPort_port_ne {p k : PortIx} (h : p ≠ k) (r : Port) : (s.setPort p r).port k = s.port k := by
  have h' : ¬ (p.val = k.val) := fun e => h (Fin.ext e)
  simp [State.setPort, State.port, h']
theorem setPort_port_if (p k : PortIx) (r : Port) : (s.setPort p r).port k = if p = k then r else s.port k := by
  by_cases h : p = k
  · subst h; simp
  · simp [setPort_port_ne s h, h]
@[simp] theorem setPort_slot (p : PortIx) (r : Port) (k : LeaseIx) : (s.setPort p r).slot k = s.slot k := rfl
@[simp] theorem setPort_lane (p : PortIx) (r : Port) (k : PortIx) : (s.setPort p r).lane k = s.lane k := rfl
@[simp] theorem setPort_admissionSlot (p : PortIx) (r : Port) (k : AdmIx) : (s.setPort p r).admissionSlot k = s.admissionSlot k := rfl
@[simp] theorem setPort_out (p : PortIx) (r : Port) (k : OutIx) : (s.setPort p r).out k = s.out k := rfl
@[simp] theorem setPort_lease (p : PortIx) (r : Port) (k : LeaseIx) : (s.setPort p r).lease k = s.lease k := rfl
@[simp] theorem setLane_ref (p : PortIx) (r : LaneReceiver) (k : RefIx) : (s.setLane p r).ref k = s.ref k := rfl
@[simp] theorem setLane_port (p : PortIx) (r : LaneReceiver) (k : PortIx) : (s.setLane p r).port k = s.port k := rfl
@[simp] theorem setLane_slot (p : PortIx) (r : LaneReceiver) (k : LeaseIx) : (s.setLane p r).slot k = s.slot k := rfl
@[simp] theorem setLane_admissionSlot (p : PortIx) (r : LaneReceiver) (k : AdmIx) : (s.setLane p r).admissionSlot k = s.admissionSlot k := rfl
@[simp] theorem setLane_out (p : PortIx) (r : LaneReceiver) (k : OutIx) : (s.setLane p r).out k = s.out k := rfl
@[simp] theorem setLane_lease (p : PortIx) (r : LaneReceiver) (k : LeaseIx) : (s.setLane p r).lease k = s.lease k := rfl
@[simp] theorem setLane_lane (p : PortIx) (r : LaneReceiver) : (s.setLane p r).lane p = r := by simp [State.setLane, State.lane]
@[simp] theorem setLane_setLane (p : PortIx) (r q : LaneReceiver) : (s.setLane p r).setLane p q = s.setLane p q := by
  simp [State.setLane]
theorem setLane_lane_ne {p k : PortIx} (h : p ≠ k) (r : LaneReceiver) : (s.setLane p r).lane k = s.lane k := by
  have h' : ¬ (p.val = k.val) := fun e => h (Fin.ext e)
  simp [State.setLane, State.lane, h']
theorem setLane_lane_if (p k : PortIx) (r : LaneReceiver) : (s.setLane p r).lane k = if p = k then r else s.lane k := by
  by_cases h : p = k
  · subst h; simp
  · simp [setLane_lane_ne s h, h]
@[simp] theorem setLeaseSlot_ref (l : LeaseIx) (x : LeaseSlot) (k : RefIx) : (s.setLeaseSlot l x).ref k = s.ref k := rfl
@[simp] theorem setLeaseSlot_port (l : LeaseIx) (x : LeaseSlot) (k : PortIx) : (s.setLeaseSlot l x).port k = s.port k := rfl
@[simp] theorem setLeaseSlot_lane (l : LeaseIx) (x : LeaseSlot) (k : PortIx) : (s.setLeaseSlot l x).lane k = s.lane k := rfl
@[simp] theorem setLeaseSlot_slot (l : LeaseIx) (x : LeaseSlot) : (s.setLeaseSlot l x).slot l = x := by simp [State.setLeaseSlot, State.slot]
theorem setLeaseSlot_slot_ne {l k : LeaseIx} (h : l ≠ k) (x : LeaseSlot) : (s.setLeaseSlot l x).slot k = s.slot k := by
  have h' : ¬ (l.val = k.val) := fun e => h (Fin.ext e)
  simp [State.setLeaseSlot, State.slot, h']
theorem setLeaseSlot_slot_if (l k : LeaseIx) (x : LeaseSlot) : (s.setLeaseSlot l x).slot k = if l = k then x else s.slot k := by
  by_cases h : l = k
  · subst h; simp
  · simp [setLeaseSlot_slot_ne s h, h]
@[simp] theorem setLeaseSlot_admissionSlot (l : LeaseIx) (x : LeaseSlot) (k : AdmIx) : (s.setLeaseSlot l x).admissionSlot k = s.admissionSlot k := rfl
@[simp] theorem setLeaseSlot_out (l : LeaseIx) (x : LeaseSlot) (k : OutIx) : (s.setLeaseSlot l x).out k = s.out k := rfl
@[simp] theorem setAdmission_ref (i : AdmIx) (x : AdmissionSlot) (k : RefIx) : (s.setAdmission i x).ref k = s.ref k := rfl
@[simp] theorem setAdmission_port (i : AdmIx) (x : AdmissionSlot) (k : PortIx) : (s.setAdmission i x).port k = s.port k := rfl
@[simp] theorem setAdmission_slot (i : AdmIx) (x : AdmissionSlot) (k : LeaseIx) : (s.setAdmission i x).slot k = s.slot k := rfl
@[simp] theorem setAdmission_lane (i : AdmIx) (x : AdmissionSlot) (k : PortIx) : (s.setAdmission i x).lane k = s.lane k := rfl
@[simp] theorem setAdmission_admissionSlot (i : AdmIx) (x : AdmissionSlot) : (s.setAdmission i x).admissionSlot i = x := by simp [State.setAdmission, State.admissionSlot]
theorem setAdmission_admissionSlot_ne {i k : AdmIx} (h : i ≠ k) (x : AdmissionSlot) : (s.setAdmission i x).admissionSlot k = s.admissionSlot k := by
  have h' : ¬ (i.val = k.val) := fun e => h (Fin.ext e)
  simp [State.setAdmission, State.admissionSlot, h']
theorem setAdmission_admissionSlot_if (i k : AdmIx) (x : AdmissionSlot) : (s.setAdmission i x).admissionSlot k = if i = k then x else s.admissionSlot k := by
  by_cases h : i = k
  · subst h; simp
  · simp [setAdmission_admissionSlot_ne s h, h]
@[simp] theorem setAdmission_out (i : AdmIx) (x : AdmissionSlot) (k : OutIx) : (s.setAdmission i x).out k = s.out k := rfl
@[simp] theorem setAdmission_lease (i : AdmIx) (x : AdmissionSlot) (k : LeaseIx) : (s.setAdmission i x).lease k = s.lease k := rfl
@[simp] theorem setOut_ref (i : OutIx) (o : Output) (k : RefIx) : (s.setOut i o).ref k = s.ref k := rfl
@[simp] theorem setOut_port (i : OutIx) (o : Output) (k : PortIx) : (s.setOut i o).port k = s.port k := rfl
@[simp] theorem setOut_slot (i : OutIx) (o : Output) (k : LeaseIx) : (s.setOut i o).slot k = s.slot k := rfl
@[simp] theorem setOut_lane (i : OutIx) (o : Output) (k : PortIx) : (s.setOut i o).lane k = s.lane k := rfl
@[simp] theorem setOut_admissionSlot (i : OutIx) (o : Output) (k : AdmIx) : (s.setOut i o).admissionSlot k = s.admissionSlot k := rfl
@[simp] theorem setOut_out (i : OutIx) (o : Output) : (s.setOut i o).out i = o := by simp [State.setOut, State.out]
theorem setOut_out_ne {i k : OutIx} (h : i ≠ k) (o : Output) : (s.setOut i o).out k = s.out k := by
  have h' : ¬ (i.val = k.val) := fun e => h (Fin.ext e)
  simp [State.setOut, State.out, h']
theorem setOut_out_if (i k : OutIx) (o : Output) : (s.setOut i o).out k = if i = k then o else s.out k := by
  by_cases h : i = k
  · subst h; simp
  · simp [setOut_out_ne s h, h]
@[simp] theorem setOut_lease (i : OutIx) (o : Output) (k : LeaseIx) : (s.setOut i o).lease k = s.lease k := rfl
@[simp] theorem setLeaseSlot_lease (l : LeaseIx) (x : LeaseSlot) : (s.setLeaseSlot l x).lease l = x.lease := by simp [State.lease]
theorem setLeaseSlot_lease_ne {l k : LeaseIx} (h : l ≠ k) (x : LeaseSlot) : (s.setLeaseSlot l x).lease k = s.lease k := by
  simp [State.lease, setLeaseSlot_slot_ne s h]
theorem setLeaseSlot_lease_if (l k : LeaseIx) (x : LeaseSlot) :
    (s.setLeaseSlot l x).lease k = if l = k then x.lease else s.lease k := by
  by_cases h : l = k
  · subst h; simp
  · simp [setLeaseSlot_lease_ne s h, h]

/-! ### The passing of time -/

@[simp] theorem elapse_osc (dt : Nat) : (s.elapse dt).clock.osc = s.clock.osc + dt := rfl
@[simp] theorem elapse_nextRunAt (dt : Nat) : (s.elapse dt).clock.nextRunAt = s.clock.nextRunAt := rfl
@[simp] theorem elapse_tb (dt : Nat) : (s.elapse dt).tb = s.tb.elapse dt := rfl
@[simp] theorem elapse_wires (dt : Nat) : (s.elapse dt).wires = s.wires := rfl
@[simp] theorem elapse_refs (dt : Nat) : (s.elapse dt).refs = s.refs := rfl
@[simp] theorem elapse_ports (dt : Nat) : (s.elapse dt).ports = s.ports := rfl
@[simp] theorem elapse_lanes (dt : Nat) : (s.elapse dt).lanes = s.lanes := rfl
@[simp] theorem elapse_leases (dt : Nat) : (s.elapse dt).leases = s.leases := rfl
@[simp] theorem elapse_admission (dt : Nat) : (s.elapse dt).admission = s.admission := rfl
@[simp] theorem elapse_alarm (dt : Nat) : (s.elapse dt).alarm = s.alarm := rfl
@[simp] theorem elapse_mgmt (dt : Nat) : (s.elapse dt).mgmt = s.mgmt := rfl
@[simp] theorem elapse_resetLow (dt : Nat) : (s.elapse dt).resetLow = s.resetLow := rfl
@[simp] theorem elapse_pending (dt : Nat) : (s.elapse dt).pending = s.pending := rfl
@[simp] theorem elapse_ref (dt : Nat) (k : RefIx) : (s.elapse dt).ref k = s.ref k := rfl
@[simp] theorem elapse_port (dt : Nat) (k : PortIx) : (s.elapse dt).port k = s.port k := rfl
@[simp] theorem elapse_slot (dt : Nat) (k : LeaseIx) : (s.elapse dt).slot k = s.slot k := rfl
@[simp] theorem elapse_lane (dt : Nat) (k : PortIx) : (s.elapse dt).lane k = s.lane k := rfl
@[simp] theorem elapse_admissionSlot (dt : Nat) (k : AdmIx) : (s.elapse dt).admissionSlot k = s.admissionSlot k := rfl
@[simp] theorem elapse_lease (dt : Nat) (k : LeaseIx) : (s.elapse dt).lease k = s.lease k := rfl
@[simp] theorem elapse_out (dt : Nat) (i : OutIx) : (s.elapse dt).out i = (s.out i).elapse (s.tb.advanceNs dt) := by
  match i with
  | 0 | 1 | 2 | 3 => rfl

@[simp] theorem elapseTb_state (t : Timebase) (dt : Nat) : (t.elapse dt).state = t.state := rfl
@[simp] theorem elapseTb_siteClass (t : Timebase) (dt : Nat) : (t.elapse dt).siteClass = t.siteClass := rfl
@[simp] theorem elapseTb_selected (t : Timebase) (dt : Nat) : (t.elapse dt).selected = t.selected := rfl
@[simp] theorem elapseTb_forced (t : Timebase) (dt : Nat) : (t.elapse dt).forced = t.forced := rfl
@[simp] theorem elapseTb_assist (t : Timebase) (dt : Nat) : (t.elapse dt).assist = t.assist := rfl
@[simp] theorem elapseTb_revertive (t : Timebase) (dt : Nat) : (t.elapse dt).revertive = t.revertive := rfl
@[simp] theorem elapseTb_waitToRestore (t : Timebase) (dt : Nat) : (t.elapse dt).waitToRestore = t.waitToRestore := rfl
@[simp] theorem elapseTb_stepPolicy (t : Timebase) (dt : Nat) : (t.elapse dt).stepPolicy = t.stepPolicy := rfl
@[simp] theorem elapseTb_stepThreshold (t : Timebase) (dt : Nat) : (t.elapse dt).stepThreshold = t.stepThreshold := rfl
@[simp] theorem elapseTb_slewLimit (t : Timebase) (dt : Nat) : (t.elapse dt).slewLimit = t.slewLimit := rfl
@[simp] theorem elapseTb_lockThreshold (t : Timebase) (dt : Nat) : (t.elapse dt).lockThreshold = t.lockThreshold := rfl
@[simp] theorem elapseTb_wanderLimit (t : Timebase) (dt : Nat) : (t.elapse dt).wanderLimit = t.wanderLimit := rfl
@[simp] theorem elapseTb_minLockTime (t : Timebase) (dt : Nat) : (t.elapse dt).minLockTime = t.minLockTime := rfl
@[simp] theorem elapseTb_thrA (t : Timebase) (dt : Nat) : (t.elapse dt).thrA = t.thrA := rfl
@[simp] theorem elapseTb_thrB (t : Timebase) (dt : Nat) : (t.elapse dt).thrB = t.thrB := rfl
@[simp] theorem elapseTb_thrC (t : Timebase) (dt : Nat) : (t.elapse dt).thrC = t.thrC := rfl
@[simp] theorem elapseTb_thrD (t : Timebase) (dt : Nat) : (t.elapse dt).thrD = t.thrD := rfl
@[simp] theorem elapseTb_g0 (t : Timebase) (dt : Nat) : (t.elapse dt).g0 = t.g0 := rfl
@[simp] theorem elapseTb_aging (t : Timebase) (dt : Nat) : (t.elapse dt).aging = t.aging := rfl
@[simp] theorem elapseTb_assistedRate (t : Timebase) (dt : Nat) : (t.elapse dt).assistedRate = t.assistedRate := rfl
@[simp] theorem elapseTb_rev (t : Timebase) (dt : Nat) : (t.elapse dt).rev = t.rev := rfl
@[simp] theorem elapseTb_runCounter (t : Timebase) (dt : Nat) : (t.elapse dt).runCounter = t.runCounter := rfl
@[simp] theorem elapseTb_e (t : Timebase) (dt : Nat) : (t.elapse dt).e = t.e := rfl
@[simp] theorem elapseTb_freqCorr (t : Timebase) (dt : Nat) : (t.elapse dt).freqCorr = t.freqCorr := rfl
@[simp] theorem elapseTb_lockRun (t : Timebase) (dt : Nat) : (t.elapse dt).lockRun = t.lockRun := rfl
@[simp] theorem elapseTb_unlockRun (t : Timebase) (dt : Nat) : (t.elapse dt).unlockRun = t.unlockRun := rfl
@[simp] theorem elapseTb_lockedTime (t : Timebase) (dt : Nat) : (t.elapse dt).lockedTime = t.lockedTime := rfl
@[simp] theorem elapseTb_h (t : Timebase) (dt : Nat) : (t.elapse dt).h = t.h := rfl
@[simp] theorem elapseTb_lastBoundary (t : Timebase) (dt : Nat) : (t.elapse dt).lastBoundary = t.lastBoundary := rfl
@[simp] theorem elapseTb_nextSecond (t : Timebase) (dt : Nat) : (t.elapse dt).nextSecond = t.nextSecond := rfl
@[simp] theorem elapseTb_stepNumber (t : Timebase) (dt : Nat) : (t.elapse dt).stepNumber = t.stepNumber := rfl
@[simp] theorem elapseTb_restore (t : Timebase) (dt : Nat) : (t.elapse dt).restore = t.restore := rfl
@[simp] theorem elapseTb_siteTime (t : Timebase) (dt : Nat) :
    (t.elapse dt).siteTime = (t.siteTime + t.advanceNs dt) % Config.siteMod := rfl

/-! ### Settling: ATTN, the lines and their pins alone move -/

@[simp] theorem settle_clock : s.settle.clock = s.clock := rfl
@[simp] theorem settle_tb : s.settle.tb = s.tb := rfl
@[simp] theorem settle_wires : s.settle.wires = s.wires := rfl
@[simp] theorem settle_refs : s.settle.refs = s.refs := rfl
@[simp] theorem settle_ports : s.settle.ports = s.ports := rfl
@[simp] theorem settle_lanes : s.settle.lanes = s.lanes := rfl
@[simp] theorem settle_leases : s.settle.leases = s.leases := rfl
@[simp] theorem settle_admission : s.settle.admission = s.admission := rfl
@[simp] theorem settle_outs : s.settle.outs = s.outs := rfl
@[simp] theorem settle_mgmt : s.settle.mgmt = s.mgmt := rfl
@[simp] theorem settle_resetLow : s.settle.resetLow = s.resetLow := rfl
@[simp] theorem settle_pending : s.settle.pending = s.pending := rfl
@[simp] theorem settle_alarm_slots : s.settle.alarm.slots = s.alarm.slots := rfl
@[simp] theorem settle_alarm_kinds : s.settle.alarm.kinds = s.alarm.kinds := rfl
@[simp] theorem settle_alarm_threshold : s.settle.alarm.threshold = s.alarm.threshold := rfl
@[simp] theorem settle_alarm_thresholdRev : s.settle.alarm.thresholdRev = s.alarm.thresholdRev := rfl
@[simp] theorem settle_alarm_rooms : s.settle.alarm.rooms = s.alarm.rooms := rfl
@[simp] theorem settle_alarm_attn : s.settle.alarm.attn = s.alarm.attnNow := rfl
@[simp] theorem settle_alarm_attnN : s.settle.alarm.attnN = if s.alarm.attnNow then .low else .high := rfl
theorem settle_alarm_lines (i : LineIx) : s.settle.alarm.lines[i] = s.lineDriven s.alarm.lines[i] := by
  match i with
  | 0 | 1 | 2 | 3 | 4 | 5 | 6 | 7 => rfl
@[simp] theorem settle_alarm_lines_val (i : LineIx) :
    s.settle.alarm.lines[(i : Nat)] = s.lineDriven s.alarm.lines[(i : Nat)] := settle_alarm_lines s i

@[simp] theorem settle_ref (k : RefIx) : s.settle.ref k = s.ref k := rfl
@[simp] theorem settle_port (k : PortIx) : s.settle.port k = s.port k := rfl
@[simp] theorem settle_slot (k : LeaseIx) : s.settle.slot k = s.slot k := rfl
@[simp] theorem settle_lane (k : PortIx) : s.settle.lane k = s.lane k := rfl
@[simp] theorem settle_admissionSlot (k : AdmIx) : s.settle.admissionSlot k = s.admissionSlot k := rfl
@[simp] theorem settle_out (k : OutIx) : s.settle.out k = s.out k := rfl
@[simp] theorem settle_lease (k : LeaseIx) : s.settle.lease k = s.lease k := rfl

end Sys2Proof.Machine
end

