-- ==== Sys2Proof/Laws/Touches.lean ====
section
/-! SUPPORT. What every shared operation of the state can touch. Each lemma is written backwards: an operation after a change that
touches the parts `ps` touches the parts `ps`, so that `simp` chains them. -/
namespace Sys2Proof.Machine
open Sys2Proof

variable {ps : List Part} {s₀ s : State}

namespace State.Same

theorem trans {s t u : State} {p : Part} (h : s.Same t p) (k : t.Same u p) : s.Same u p := by
  cases p <;> simp_all [State.Same]

end State.Same

namespace State.OnlyTouches

@[simp] theorem rfl' : State.OnlyTouches ps s s := by
  intro p _; cases p <;> simp [State.Same]

theorem trans {t u : State} (h : s.OnlyTouches ps t) (k : t.OnlyTouches ps u) : s.OnlyTouches ps u :=
  fun p hp => (h p hp).trans (k p hp)

theorem mono {qs : List Part} {t : State} (h : s.OnlyTouches ps t) (sub : ps ⊆ qs) : s.OnlyTouches qs t :=
  fun p hp => h p fun hp' => hp (sub hp')

@[simp] theorem ite {c : Prop} [Decidable c] {a b : State} (ha : s.OnlyTouches ps a) (hb : s.OnlyTouches ps b) :
    s.OnlyTouches ps (if c then a else b) := by split <;> assumption

@[simp] theorem forAll {n : Nat} {f : Fin n → State → State} (hf : ∀ i t, State.OnlyTouches ps t (f i t))
    (h : s₀.OnlyTouches ps s) : s₀.OnlyTouches ps (forAll f s) := by
  unfold Machine.forAll
  generalize List.finRange n = xs
  induction xs generalizing s with
  | nil => simpa using h
  | cons x xs ih => exact ih (h.trans (hf x s))

end State.OnlyTouches

/-! ### Settings through the named changes of a record -/

/-- The settings of a record written out, and read back from their list. -/
@[simp] theorem Timebase.settings_mk (a0 : TbState) (a1 : SiteClass) (a2 : Option RefIx) (a3 : Option RefIx) (a4 :
    Option LineInput) (a5 : Bool) (a6 : Nat) (a7 : StepPolicy) (a8 : Nat) (a9 : Nat) (a10 : Nat) (a11 : Nat) (a12 : Nat)
    (a13 : Nat) (a14 : Nat) (a15 : Nat) (a16 : Nat) (a17 : Nat) (a18 : Nat) (a19 : Nat) (a20 : Rev) (a21 : SiteNs) (a22
    : Nat) (a23 : Nat) (a24 : Option Nat) (a25 : Int) (a26 : Nat) (a27 : Nat) (a28 : Nat) (a29 : Option Nat) (a30 : Nat)
    (a31 : Nat) (a32 : BitVec 8) (a33 : Option RefIx) :
    Timebase.settings ⟨a0, a1, a2, a3, a4, a5, a6, a7, a8, a9, a10, a11, a12, a13, a14, a15, a16, a17, a18, a19, a20,
    a21, a22, a23, a24, a25, a26, a27, a28, a29, a30, a31, a32, a33⟩ = ⟨a5, a6, a7, a8, a9, a10, a11, a12, (a13, a14,
    a15, a16), a17, a18, a19⟩ := rfl
@[simp] theorem Timebase.settings_eta (t : Timebase) :
    (⟨t.revertive, t.waitToRestore, t.stepPolicy, t.stepThreshold, t.slewLimit, t.lockThreshold, t.wanderLimit,
    t.minLockTime, (t.thrA, t.thrB, t.thrC, t.thrD), t.g0, t.aging, t.assistedRate⟩ : TbSettings) = t.settings := rfl

/-- The settings of a record written out, and read back from their list. -/
@[simp] theorem RefEntry.settings_mk (a0 : RefState) (a1 : Bool) (a2 : Nat) (a3 : Nat) (a4 : Int) (a5 : Edge) (a6 : Nat)
    (a7 : Nat) (a8 : Nat) (a9 : Option FaultCause) (a10 : Nat) (a11 : Option Nat) (a12 : Option LeaseIx) (a13 : Rev)
    (a14 : Nat) (a15 : Option Nat) (a16 : Option Offset) (a17 : Option Int) (a18 : Option Label) (a19 : Option Nat) (a20
    : Nat) (a21 : Option Nat) (a22 : Option Nat) (a23 : Option LineWindow) (a24 : Option Nat)
    (a25 : LabelReceiver) :
    RefEntry.settings ⟨a0, a1, a2, a3, a4, a5, a6, a7, a8, a9, a10, a11, a12, a13, a14, a15, a16, a17, a18, a19, a20,
    a21, a22, a23, a24, a25⟩ = ⟨a2, a3, a4, a5, a6, a7, a8⟩ := rfl
@[simp] theorem RefEntry.settings_eta (t : RefEntry) :
    (⟨t.priority, t.declaredError, t.inputDelay, t.edge, t.qualifyTarget, t.holdOff, t.freqLimit⟩ : RefSettings) =
    t.settings := rfl

/-- The settings of a record written out, and read back from their list. -/
@[simp] theorem Port.settings_mk (a0 : PortState) (a1 : Bool) (a2 : Int) (a3 : Nat) (a4 : Nat) (a5 : Nat) (a6 : Rev) (a7
    : List Frame) (a8 : List SymbolEntry) (a9 : Option Tx) (a10 : List DepartureReport) (a11 : Scanner) :
    Port.settings ⟨a0, a1, a2, a3, a4, a5, a6, a7, a8, a9, a10, a11⟩ = (a2, a3, a4) := rfl
@[simp] theorem Port.settings_eta (t : Port) :
    ((t.asymmetry, t.spreadLimit, t.scanInterval) : Int × Nat × Nat) = t.settings := rfl

/-- The settings of a record written out, and read back from their list. -/
@[simp] theorem Output.settings_mk (a0 : OutState) (a1 : Bool) (a2 : Nat) (a3 : Nat) (a4 : Nat) (a5 : Grade) (a6 : Rev)
    (a7 : Level) (a8 : Option SiteNs) (a9 : Option Nat) (a10 : Option Plan) (a11 : Bool) (a12 : Option (Plan × SiteNs)) :
    Output.settings ⟨a0, a1, a2, a3, a4, a5, a6, a7, a8, a9, a10, a11, a12⟩ = (a1, a2, a3, a4, a5) := rfl
@[simp] theorem Output.settings_eta (t : Output) :
    ((t.enabled, t.n, t.phase, t.width, t.minClass) : Bool × Nat × Nat × Nat × Grade) = t.settings := rfl

@[simp] theorem Timebase.acquire_settings (t : Timebase) (x : Option RefIx) : (t.acquire x).settings = t.settings := rfl

@[simp] theorem Timebase.unforce_settings (t : Timebase) (x : RefIx) : (t.unforce x).settings = t.settings := by
  unfold Timebase.unforce; split <;> rfl

@[simp] theorem Timebase.lineUsable_settings (t : Timebase) (x : LineInput) : (t.lineUsable x).settings = t.settings := by
  unfold Timebase.lineUsable; split <;> rfl

@[simp] theorem Timebase.assistLost_settings (t : Timebase) (x : Option LineInput) : (t.assistLost x).settings = t.settings := rfl

@[simp] theorem Timebase.step_settings (t : Timebase) (x : Int) : (t.step x).settings = t.settings := rfl

@[simp] theorem Timebase.slew_settings (t : Timebase) (x : Int) : (t.slew x).settings = t.settings := by
  simp only [Timebase.slew]; split <;> rfl

@[simp] theorem Timebase.steer_settings (t : Timebase) (x : Int) : (t.steer x).settings = t.settings := rfl

@[simp] theorem Timebase.runs_settings (t : Timebase) (x : Int) : (t.runs x).settings = t.settings := by
  unfold Timebase.runs; repeat' split
  all_goals rfl

@[simp] theorem Timebase.runSecond_settings (t : Timebase) (x : Nat) : (t.runSecond x).settings = t.settings := rfl

@[simp] theorem Timebase.elapse_settings (t : Timebase) (x : Nat) : (t.elapse x).settings = t.settings := rfl

@[simp] theorem RefEntry.toQualifying_settings (e : RefEntry) (x : Nat) (y : Option Nat) : (e.toQualifying x y).settings = e.settings := rfl

@[simp] theorem RefEntry.faulted_settings (e : RefEntry) (x : FaultCause) : (e.faulted x).settings = e.settings := rfl

@[simp] theorem RefEntry.toUsable_settings (e : RefEntry) (x : Nat) : (e.toUsable x).settings = e.settings := rfl

@[simp] theorem RefEntry.acceptEdge_settings (e : RefEntry) (x : Nat) : (e.acceptEdge x).settings = e.settings := rfl

@[simp] theorem RefEntry.disabled_settings (e : RefEntry) : (e.disabled).settings = e.settings := rfl

@[simp] theorem RefEntry.decayed_settings (e : RefEntry) (x : Nat) : (e.decayed x).settings = e.settings := rfl

@[simp] theorem RefEntry.runSecond_settings (e : RefEntry) : (e.runSecond).settings = e.settings := rfl

@[simp] theorem RefEntry.edgeChanged_settings (e : RefEntry) (x : Nat) : (e.edgeChanged x).settings = e.settings := rfl

@[simp] theorem Port.offer_settings (r : Port) (x : Frame) : (r.offer x).settings = r.settings := by
  unfold Port.offer; split <;> rfl

@[simp] theorem Port.offer_standing (r : Port) (x : Frame) : (r.offer x).standing = r.standing := by
  unfold Port.offer; split <;> rfl

@[simp] theorem Port.silence_settings (r : Port) (x : Nat) : (r.silence x).settings = r.settings := rfl

@[simp] theorem Port.moveTo_settings (r : Port) (x : PortState) : (r.moveTo x).settings = r.settings := rfl

@[simp] theorem Port.setLink_settings (r : Port) (x : Bool) : (r.setLink x).settings = r.settings := rfl

@[simp] theorem Port.depart_settings (r : Port) (x : Frame) (y : List Frame) (z : Nat) (w : Capture) : (r.depart x y z w).settings = r.settings := rfl

@[simp] theorem Output.toRunning_settings (o : Output) (x : SiteNs) : (o.toRunning x).settings = o.settings := rfl

@[simp] theorem Output.toStopped_settings (o : Output) (x : OutState) : (o.toStopped x).settings = o.settings := rfl

@[simp] theorem Output.moved_settings (o : Output) (x : SiteClass) (y : SiteNs) : (o.moved x y).settings = o.settings := by
  unfold Output.moved; repeat' split
  all_goals rfl

@[simp] theorem Output.replan_settings (o : Output) (x : SiteNs) : (o.replan x).settings = o.settings := by
  unfold Output.replan; split <;> rfl

@[simp] theorem Output.fallen_settings (o : Output) : (o.fallen).settings = o.settings := by
  unfold Output.fallen; split <;> rfl

@[simp] theorem Output.edgeAt_settings (o : Output) (x : SiteNs) (y : Plan) : (o.edgeAt x y).settings = o.settings := by
  unfold Output.edgeAt; split <;> rfl

@[simp] theorem Output.edgeIfDue_settings (o : Output) (x : SiteNs) : (o.edgeIfDue x).settings = o.settings := by
  unfold Output.edgeIfDue; repeat' split
  all_goals simp

@[simp] theorem Output.passIfInstant_settings (o : Output) (x : SiteNs) : (o.passIfInstant x).settings = o.settings := by
  unfold Output.passIfInstant; split <;> rfl

@[simp] theorem Output.rising_settings (o : Output) (x : SiteNs) : (o.rising x).settings = o.settings := by
  unfold Output.rising; repeat' split
  all_goals simp

@[simp] theorem Output.elapse_settings (o : Output) (x : Nat) : (o.elapse x).settings = o.settings := rfl

/-! ### Writers -/

@[simp] theorem updTb_touches {f : Timebase → Timebase} (hp : Part.tb ∈ ps) (hf : ∀ t : Timebase, (f t).settings = t.settings)
    (h : s₀.OnlyTouches ps s) : s₀.OnlyTouches ps (s.updTb f) :=
  h.trans fun p hq => by
    cases p <;> first | exact absurd hp hq | exact hf s.tb | exact rfl | simp [State.Same, State.updTb]

@[simp] theorem setWires_touches {w : Wires} (hp : Part.wires ∈ ps) (h : s₀.OnlyTouches ps s) :
    s₀.OnlyTouches ps (s.setWires w) :=
  h.trans fun p hq => by cases p <;> first | exact absurd hp hq | simp [State.Same]

@[simp] theorem setClock_touches {c : Clock} (hp : Part.clock ∈ ps) (h : s₀.OnlyTouches ps s) :
    s₀.OnlyTouches ps (s.setClock c) :=
  h.trans fun p hq => by cases p <;> first | exact absurd hp hq | simp [State.Same]

@[simp] theorem updRef_touches {i : RefIx} {f : RefEntry → RefEntry} (hp : Part.refs ∈ ps)
    (hf : ∀ e : RefEntry, (f e).settings = e.settings) (h : s₀.OnlyTouches ps s) : s₀.OnlyTouches ps (s.updRef i f) :=
  h.trans fun p hq => by
    cases p <;> first
      | exact absurd hp hq
      | (intro j; simp only [State.updRef, setRef_ref_if]; split <;> simp_all)
      | simp [State.Same, State.updRef]

@[simp] theorem setPort_touches {i : PortIx} {r : Port} (hp : Part.ports ∈ ps) (hf : r.settings = (s.port i).settings)
    (hs : Part.portStates ∈ ps ∨ r.standing = (s.port i).standing) (h : s₀.OnlyTouches ps s) :
    s₀.OnlyTouches ps (s.setPort i r) :=
  h.trans fun p hq => by
    cases p <;> first
      | exact absurd hp hq
      | (rcases hs with hs | hs
         · exact absurd hs hq
         · intro j; simp only [setPort_port_if]; split <;> simp_all)
      | (intro j; simp only [setPort_port_if]; split <;> simp_all)
      | simp [State.Same]

@[simp] theorem updPort_touches {i : PortIx} {f : Port → Port} (hp : Part.ports ∈ ps)
    (hf : ∀ r : Port, (f r).settings = r.settings) (hs : Part.portStates ∈ ps ∨ ∀ r : Port, (f r).standing = r.standing)
    (h : s₀.OnlyTouches ps s) : s₀.OnlyTouches ps (s.updPort i f) :=
  setPort_touches hp (hf _) (hs.imp id fun k => k _) h

@[simp] theorem updScanner_touches {i : PortIx} {f : Scanner → Scanner} (hp : Part.ports ∈ ps)
    (h : s₀.OnlyTouches ps s) : s₀.OnlyTouches ps (s.updScanner i f) :=
  updPort_touches hp (fun _ => rfl) (Or.inr fun _ => rfl) h

@[simp] theorem setLane_touches {i : PortIx} {r : LaneReceiver} (hp : Part.lanes ∈ ps) (h : s₀.OnlyTouches ps s) :
    s₀.OnlyTouches ps (s.setLane i r) :=
  h.trans fun p hq => by cases p <;> first | exact absurd hp hq | simp [State.Same]

@[simp] theorem updOut_touches {i : OutIx} {f : Output → Output} (hp : Part.outs ∈ ps)
    (hf : ∀ o : Output, (f o).settings = o.settings) (h : s₀.OnlyTouches ps s) : s₀.OnlyTouches ps (s.updOut i f) :=
  h.trans fun p hq => by
    cases p <;> first
      | exact absurd hp hq
      | (intro j; simp only [State.updOut, setOut_out_if]; split <;> simp_all)
      | simp [State.Same, State.updOut]

@[simp] theorem setLeaseSlot_touches {l : LeaseIx} {x : LeaseSlot} (hp : Part.leases ∈ ps) (hc : Part.leaseCore ∈ ps)
    (h : s₀.OnlyTouches ps s) : s₀.OnlyTouches ps (s.setLeaseSlot l x) :=
  h.trans fun p hq => by cases p <;> first | exact absurd hp hq | exact absurd hc hq | simp [State.Same]

/-- A change of a lease is a change of its core, unless it moves the waiting notice only. -/
@[simp] theorem updLease_touches {l : LeaseIx} {f : Lease → Lease} (hp : Part.leases ∈ ps)
    (hc : Part.leaseCore ∈ ps ∨ ∀ x : Lease, (f x).core = x.core) (h : s₀.OnlyTouches ps s) :
    s₀.OnlyTouches ps (s.updLease l f) := by
  rcases hc with hc | hc
  · exact setLeaseSlot_touches hp hc h
  · refine h.trans fun p hq => ?_
    cases p <;> first
      | exact absurd hp hq
      | (intro m
         unfold State.updLease
         rw [setLeaseSlot_slot_if, setLeaseSlot_lease_if]
         split
         · subst_vars; simp [State.lease, Option.map_map, Function.comp_def, hc]
         · simp)
      | simp [State.Same, State.updLease]

@[simp] theorem moveLease_touches {l : LeaseIx} {f : Lease → Lease} (hp : Part.leases ∈ ps) (hc : Part.leaseCore ∈ ps)
    (h : s₀.OnlyTouches ps s) : s₀.OnlyTouches ps (s.moveLease l f) := setLeaseSlot_touches hp hc h

@[simp] theorem setAdmission_touches {i : AdmIx} {x : AdmissionSlot} (hp : Part.admission ∈ ps)
    (h : s₀.OnlyTouches ps s) : s₀.OnlyTouches ps (s.setAdmission i x) :=
  h.trans fun p hq => by cases p <;> first | exact absurd hp hq | simp [State.Same]

@[simp] theorem setMgmt_touches {m : Mgmt} (hp : Part.mgmt ∈ ps) (hf : m.setup = s.mgmt.setup)
    (h : s₀.OnlyTouches ps s) : s₀.OnlyTouches ps (s.setMgmt m) :=
  h.trans fun p hq => by cases p <;> first | exact absurd hp hq | exact hf | simp [State.Same]

/-- The alarm unit's table and announcements may change; kinds, threshold, lines and pins stay. -/
def AlarmUnit.TableOnly (a b : AlarmUnit) : Prop :=
  b.kinds = a.kinds ∧ b.threshold = a.threshold ∧ b.thresholdRev = a.thresholdRev ∧ b.attn = a.attn ∧ b.attnN = a.attnN ∧
    b.lines = a.lines

theorem AlarmUnit.TableOnly.trans {a b c : AlarmUnit} (h : a.TableOnly b) (k : b.TableOnly c) : a.TableOnly c := by
  simp_all [AlarmUnit.TableOnly]

theorem AlarmUnit.setSlot_tableOnly (a : AlarmUnit) (i : SlotIx) (x : AlarmSlot) : a.TableOnly (a.setSlot i x) := by
  simp [AlarmUnit.TableOnly, AlarmUnit.setSlot]

theorem AlarmUnit.store_tableOnly (a : AlarmUnit) (i : SlotIx) (n : Rev) (r : AlarmRecord) : a.TableOnly (a.store i n r) :=
  a.setSlot_tableOnly i _

theorem AlarmUnit.raiseOverflow_tableOnly (a : AlarmUnit) (sec : Nat) (k : AlarmKind) : a.TableOnly (a.raiseOverflow sec k) := by
  unfold AlarmUnit.raiseOverflow; split <;> exact a.store_tableOnly _ _ _

theorem AlarmUnit.raise_tableOnly (a : AlarmUnit) (sec : Nat) (r : Raise) : a.TableOnly (a.raise sec r) := by
  unfold AlarmUnit.raise
  repeat' split
  all_goals first
    | exact a.store_tableOnly _ _ _
    | exact a.raiseOverflow_tableOnly _ _
    | simp [AlarmUnit.TableOnly]

theorem AlarmUnit.clearOverflow_tableOnly (a : AlarmUnit) (sec : Nat) : a.TableOnly (a.clearOverflow sec) := by
  unfold AlarmUnit.clearOverflow
  repeat' split
  all_goals first
    | exact a.store_tableOnly _ _ _
    | exact a.setSlot_tableOnly _ _
    | simp [AlarmUnit.TableOnly]

theorem AlarmUnit.freeSlot_tableOnly (a : AlarmUnit) (sec : Nat) (i : SlotIx) : a.TableOnly (a.freeSlot sec i) := by
  unfold AlarmUnit.freeSlot
  dsimp only
  split
  · exact (a.setSlot_tableOnly i _).trans (AlarmUnit.clearOverflow_tableOnly _ sec)
  · exact a.setSlot_tableOnly i _

theorem AlarmUnit.clear_tableOnly (a : AlarmUnit) (sec : Nat) (k : AlarmKind) (n : Nat) : a.TableOnly (a.clear sec k n) := by
  unfold AlarmUnit.clear
  repeat' split
  all_goals first
    | exact a.store_tableOnly _ _ _
    | exact a.freeSlot_tableOnly _ _
    | simp [AlarmUnit.TableOnly]

theorem AlarmUnit.ackSlot_tableOnly (a : AlarmUnit) (sec : Nat) (i : SlotIx) : a.TableOnly (a.ackSlot sec i) := by
  unfold AlarmUnit.ackSlot
  repeat' split
  all_goals first
    | exact a.store_tableOnly _ _ _
    | exact a.freeSlot_tableOnly _ _
    | simp [AlarmUnit.TableOnly]

theorem AlarmUnit.foldl_tableOnly {xs : List SlotIx} {f : AlarmUnit → SlotIx → AlarmUnit}
    (hf : ∀ b i, AlarmUnit.TableOnly b (f b i)) (a : AlarmUnit) : a.TableOnly (xs.foldl f a) := by
  induction xs generalizing a with
  | nil => simp [AlarmUnit.TableOnly]
  | cons x xs ih => exact (hf a x).trans (ih _)

theorem AlarmUnit.retireLeaseRecords_tableOnly (a : AlarmUnit) (sec : Nat) (l : LeaseIx) :
    a.TableOnly (a.retireLeaseRecords sec l) := by
  unfold AlarmUnit.retireLeaseRecords
  refine AlarmUnit.foldl_tableOnly (fun b i => ?_) a
  split
  · exact b.freeSlot_tableOnly sec i
  · simp [AlarmUnit.TableOnly]

theorem AlarmUnit.ackAll_tableOnly (a : AlarmUnit) (sec : Nat) : a.TableOnly (a.ackAll sec).1 := by
  unfold AlarmUnit.ackAll
  have h : ∀ (xs : List SlotIx) (acc : AlarmUnit × Nat × Nat), acc.1.TableOnly (xs.foldl
      (fun acc i =>
        (acc.1.ackSlot sec i,
         acc.2.1 + (if acc.1.inState .activeNew i then 1 else 0),
         acc.2.2 + (if acc.1.inState .clearedUnseen i then 1 else 0))) acc).1 := by
    intro xs
    induction xs with
    | nil => intro acc; simp [AlarmUnit.TableOnly]
    | cons x xs ih => intro acc; exact (acc.1.ackSlot_tableOnly sec x).trans (ih _)
  exact h _ _

@[simp] theorem setAlarm_touches {a : AlarmUnit} (hp : Part.slots ∈ ps) (hq : Part.rooms ∈ ps) (ha : s.alarm.TableOnly a)
    (h : s₀.OnlyTouches ps s) : s₀.OnlyTouches ps (s.setAlarm a) :=
  h.trans fun p hr => by
    obtain ⟨h1, h2, h3, h4, h5, h6⟩ := ha
    cases p <;> first
      | exact absurd hp hr
      | exact absurd hq hr
      | simp_all [State.Same]

@[simp] theorem raise_touches {r : Raise} (hp : Part.slots ∈ ps) (hq : Part.rooms ∈ ps) (h : s₀.OnlyTouches ps s) :
    s₀.OnlyTouches ps (s.raise r) := setAlarm_touches hp hq (s.alarm.raise_tableOnly _ _) h

@[simp] theorem clearAlarm_touches {k : AlarmKind} {n : Nat} (hp : Part.slots ∈ ps) (hq : Part.rooms ∈ ps)
    (h : s₀.OnlyTouches ps s) : s₀.OnlyTouches ps (s.clearAlarm k n) :=
  setAlarm_touches hp hq (s.alarm.clear_tableOnly _ _ _) h

/-- Settling moves ATTN, the lines' levels and the pins, nothing else. -/
@[simp] theorem settle_touches (hp : Part.pins ∈ ps) (h : s₀.OnlyTouches ps s) : s₀.OnlyTouches ps s.settle :=
  h.trans fun p hq => by
    cases p <;> first
      | exact absurd hp hq
      | (intro i; simp [AlarmLine.settings, State.lineDriven])
      | simp [State.Same]

end Sys2Proof.Machine
end

