-- ==== Sys2Proof/Laws/Frames.lean ====
section
/-! SUPPORT. The frame of every shared operation of the machine: which parts of the state it can touch. One lemma an operation, in
the form of `Sys2Proof.Laws.Touches`. -/
namespace Sys2Proof.Machine
open Sys2Proof

set_option linter.unusedTactic false
set_option linter.unreachableTactic false
set_option linter.constructorNameAsVariable false

variable {ps : List Part} {s₀ s : State}

/-! ### Queue -/

theorem offer_touches {p : PortIx} {f : Frame} (hports : Part.ports ∈ ps)
    (h : s₀.OnlyTouches ps s) : s₀.OnlyTouches ps (s.offer p f) := by
  unfold State.offer
  try dsimp only
  repeat' first
      | with_reducible assumption | with_reducible exact State.OnlyTouches.rfl' | exact Or.inr rfl | exact Or.inr fun _ => rfl
      | (exact Or.inr fun _ => by simp) | with_reducible apply updPort_touches | exact fun _ => rfl | rfl
      | (intro _; simp; done)

theorem putNotice_touches {l : LeaseIx} {k : NoticeKind} {v : Int} (hports : Part.ports ∈ ps) (hleases : Part.leases ∈ ps)
    (h : s₀.OnlyTouches ps s) : s₀.OnlyTouches ps (s.putNotice l k v) := by
  unfold State.putNotice
  try dsimp only
  repeat' first
      | with_reducible assumption | with_reducible exact State.OnlyTouches.rfl' | exact Or.inr fun _ => rfl
      | with_reducible apply offer_touches | with_reducible apply updLease_touches | split

theorem offerWaiting_touches {p : PortIx} {l : LeaseIx} (hports : Part.ports ∈ ps) (hleases : Part.leases ∈ ps)
    (h : s₀.OnlyTouches ps s) : s₀.OnlyTouches ps (s.offerWaiting p l) := by
  unfold State.offerWaiting
  try dsimp only
  repeat' first
      | with_reducible assumption | with_reducible exact State.OnlyTouches.rfl' | exact Or.inr fun _ => rfl
      | with_reducible apply offer_touches | with_reducible apply updLease_touches | split

theorem roomInQueue_touches {p : PortIx} (hports : Part.ports ∈ ps) (hleases : Part.leases ∈ ps)
    (h : s₀.OnlyTouches ps s) : s₀.OnlyTouches ps (s.roomInQueue p) := by
  unfold State.roomInQueue
  try dsimp only
  repeat' first
      | with_reducible assumption | with_reducible exact State.OnlyTouches.rfl'
      | (with_reducible apply State.OnlyTouches.forAll; intro _ _) | with_reducible apply offerWaiting_touches

theorem removeFrames_touches {p : PortIx} {d : Frame → Bool} (hports : Part.ports ∈ ps) (hleases : Part.leases ∈ ps)
    (h : s₀.OnlyTouches ps s) : s₀.OnlyTouches ps (s.removeFrames p d) := by
  unfold State.removeFrames
  try dsimp only
  repeat' first
      | with_reducible assumption | with_reducible exact State.OnlyTouches.rfl' | exact Or.inr rfl | exact Or.inr fun _ => rfl
      | (exact Or.inr fun _ => by simp) | with_reducible apply setPort_touches | with_reducible apply roomInQueue_touches
      | split | exact fun _ => rfl | rfl | (intro _; simp; done)

theorem dropSchedule_touches {p : PortIx} {l : LeaseIx} (hports : Part.ports ∈ ps)
    (h : s₀.OnlyTouches ps s) : s₀.OnlyTouches ps (s.dropSchedule p l) := by
  unfold State.dropSchedule
  try dsimp only
  repeat' first
      | with_reducible assumption | with_reducible exact State.OnlyTouches.rfl' | exact Or.inr rfl | exact Or.inr fun _ => rfl
      | (exact Or.inr fun _ => by simp) | with_reducible apply updPort_touches | exact fun _ => rfl | rfl
      | (intro _; simp; done)

theorem dropAllSchedules_touches (hports : Part.ports ∈ ps)
    (h : s₀.OnlyTouches ps s) : s₀.OnlyTouches ps (s.dropAllSchedules) := by
  unfold State.dropAllSchedules
  try dsimp only
  repeat' first
      | with_reducible assumption | with_reducible exact State.OnlyTouches.rfl' | exact Or.inr rfl | exact Or.inr fun _ => rfl
      | (exact Or.inr fun _ => by simp) | (with_reducible apply State.OnlyTouches.forAll; intro _ _)
      | with_reducible apply updPort_touches | exact fun _ => rfl | rfl | (intro _; simp; done)

theorem stopMarks_touches {l : LeaseIx} (hports : Part.ports ∈ ps) (hleases : Part.leases ∈ ps)
    (hleaseCore : Part.leaseCore ∈ ps)
    (h : s₀.OnlyTouches ps s) : s₀.OnlyTouches ps (s.stopMarks l) := by
  unfold State.stopMarks
  try dsimp only
  repeat' first
      | with_reducible assumption | with_reducible exact State.OnlyTouches.rfl' | exact Or.inl hleaseCore
      | with_reducible apply removeFrames_touches | with_reducible apply dropSchedule_touches
      | with_reducible apply updLease_touches | split

theorem stopAllFrames_touches {l : LeaseIx} (hports : Part.ports ∈ ps) (hleases : Part.leases ∈ ps)
    (hleaseCore : Part.leaseCore ∈ ps)
    (h : s₀.OnlyTouches ps s) : s₀.OnlyTouches ps (s.stopAllFrames l) := by
  unfold State.stopAllFrames
  try dsimp only
  repeat' first
      | with_reducible assumption | with_reducible exact State.OnlyTouches.rfl' | exact Or.inl hleaseCore
      | with_reducible apply removeFrames_touches | with_reducible apply dropSchedule_touches
      | with_reducible apply updLease_touches | split

/-! ### Scanner -/

theorem sendEcho_touches {p : PortIx} {n : BitVec 2} (hports : Part.ports ∈ ps)
    (h : s₀.OnlyTouches ps s) : s₀.OnlyTouches ps (s.sendEcho p n) := by
  unfold State.sendEcho
  try dsimp only
  repeat' first
      | with_reducible assumption | with_reducible exact State.OnlyTouches.rfl' | with_reducible apply offer_touches
      | with_reducible apply updScanner_touches | split

theorem startBatch_touches {p : PortIx} {l : LeaseIx} {o : Origin} (hports : Part.ports ∈ ps)
    (h : s₀.OnlyTouches ps s) : s₀.OnlyTouches ps (s.startBatch p l o) := by
  unfold State.startBatch
  try dsimp only
  repeat' first
      | with_reducible assumption | with_reducible exact State.OnlyTouches.rfl' | with_reducible apply updScanner_touches
      | with_reducible apply sendEcho_touches

theorem startRoutine_touches {p : PortIx} (hports : Part.ports ∈ ps)
    (h : s₀.OnlyTouches ps s) : s₀.OnlyTouches ps (s.startRoutine p) := by
  unfold State.startRoutine
  try dsimp only
  repeat' first
      | with_reducible assumption | with_reducible exact State.OnlyTouches.rfl' | with_reducible apply updScanner_touches
      | with_reducible apply startBatch_touches | split

theorem choose_touches {p : PortIx} (hports : Part.ports ∈ ps)
    (h : s₀.OnlyTouches ps s) : s₀.OnlyTouches ps (s.choose p) := by
  unfold State.choose
  try dsimp only
  repeat' first
      | with_reducible assumption | with_reducible exact State.OnlyTouches.rfl' | with_reducible apply updScanner_touches
      | with_reducible apply startBatch_touches | with_reducible apply startRoutine_touches | split

theorem abandonBatch_touches {l : LeaseIx} (hports : Part.ports ∈ ps)
    (h : s₀.OnlyTouches ps s) : s₀.OnlyTouches ps (s.abandonBatch l) := by
  unfold State.abandonBatch
  try dsimp only
  repeat' first
      | with_reducible assumption | with_reducible exact State.OnlyTouches.rfl' | with_reducible apply updScanner_touches
      | split

theorem dropInjection_touches {l : LeaseIx} (hports : Part.ports ∈ ps)
    (h : s₀.OnlyTouches ps s) : s₀.OnlyTouches ps (s.dropInjection l) := by
  unfold State.dropInjection
  try dsimp only
  repeat' first
      | with_reducible assumption | with_reducible exact State.OnlyTouches.rfl' | with_reducible apply updScanner_touches
      | split

theorem stopScanner_touches {p : PortIx} (hports : Part.ports ∈ ps)
    (h : s₀.OnlyTouches ps s) : s₀.OnlyTouches ps (s.stopScanner p) := by
  unfold State.stopScanner
  try dsimp only
  repeat' first
      | with_reducible assumption | with_reducible exact State.OnlyTouches.rfl' | with_reducible apply updScanner_touches

/-! ### Outputs -/

theorem moveOutput_touches {i : OutIx} {f : Output → SiteNs → SiteNs} (houts : Part.outs ∈ ps) (hslots : Part.slots ∈ ps) (hrooms : Part.rooms ∈ ps)
    (h : s₀.OnlyTouches ps s) : s₀.OnlyTouches ps (s.moveOutput i f) := by
  unfold State.moveOutput
  try dsimp only
  repeat' first
      | with_reducible assumption | with_reducible exact State.OnlyTouches.rfl' | with_reducible apply updOut_touches
      | with_reducible apply raise_touches | with_reducible apply clearAlarm_touches | split | exact fun _ => rfl | rfl
      | (intro _; simp; done)

theorem replanOutputs_touches (houts : Part.outs ∈ ps)
    (h : s₀.OnlyTouches ps s) : s₀.OnlyTouches ps (s.replanOutputs) := by
  unfold State.replanOutputs
  try dsimp only
  repeat' first
      | with_reducible assumption | with_reducible exact State.OnlyTouches.rfl'
      | (with_reducible apply State.OnlyTouches.forAll; intro _ _) | with_reducible apply updOut_touches | exact fun _ => rfl
      | rfl | (intro _; simp; done)

/-! ### Timebase -/

theorem raiseLease_touches {l : LeaseIx} {k : AlarmKind} {d : Option Detail} (hslots : Part.slots ∈ ps)
    (hrooms : Part.rooms ∈ ps)
    (h : s₀.OnlyTouches ps s) : s₀.OnlyTouches ps (s.raiseLease l k d) := by
  unfold State.raiseLease
  repeat' first
      | with_reducible assumption | with_reducible exact State.OnlyTouches.rfl' | with_reducible apply raise_touches | split

theorem leaseAtClass_touches {b a : SiteClass} {l : LeaseIx} (hports : Part.ports ∈ ps) (hleases : Part.leases ∈ ps)
    (hslots : Part.slots ∈ ps) (hrooms : Part.rooms ∈ ps)
    (h : s₀.OnlyTouches ps s) : s₀.OnlyTouches ps (State.leaseAtClass b a l s) := by
  unfold State.leaseAtClass
  repeat' first
      | with_reducible assumption | with_reducible exact State.OnlyTouches.rfl' | with_reducible apply putNotice_touches
      | with_reducible apply raiseLease_touches | with_reducible apply clearAlarm_touches | split

theorem crossClass_touches {a : SiteClass} (htb : Part.tb ∈ ps) (hports : Part.ports ∈ ps) (hleases : Part.leases ∈ ps)
    (houts : Part.outs ∈ ps) (hslots : Part.slots ∈ ps) (hrooms : Part.rooms ∈ ps)
    (h : s₀.OnlyTouches ps s) : s₀.OnlyTouches ps (s.crossClass a) := by
  unfold State.crossClass
  try dsimp only
  repeat' first
      | with_reducible assumption | with_reducible exact State.OnlyTouches.rfl'
      | (with_reducible apply State.OnlyTouches.forAll; intro _ _) | with_reducible apply updTb_touches
      | with_reducible apply moveOutput_touches | with_reducible apply leaseAtClass_touches | exact fun _ => rfl | rfl
      | (intro _; simp; done)

theorem deriveClass_touches (htb : Part.tb ∈ ps) (hports : Part.ports ∈ ps) (hleases : Part.leases ∈ ps)
    (houts : Part.outs ∈ ps) (hslots : Part.slots ∈ ps) (hrooms : Part.rooms ∈ ps)
    (h : s₀.OnlyTouches ps s) : s₀.OnlyTouches ps (s.deriveClass) := by
  have key : ∀ n t, State.OnlyTouches ps t (State.crossings n t) := by
    intro n
    induction n with
    | zero => exact fun t => State.OnlyTouches.rfl'
    | succ n ih =>
      intro t
      unfold State.crossings
      split
      · exact State.OnlyTouches.rfl'
      · exact (crossClass_touches htb hports hleases houts hslots hrooms State.OnlyTouches.rfl').trans (ih _)
  exact h.trans (key 4 s)

theorem clearStateAlarm_touches {st : TbState} (hslots : Part.slots ∈ ps) (hrooms : Part.rooms ∈ ps)
    (h : s₀.OnlyTouches ps s) : s₀.OnlyTouches ps (s.clearStateAlarm st) := by
  unfold State.clearStateAlarm
  repeat' first
      | with_reducible assumption | with_reducible exact State.OnlyTouches.rfl' | with_reducible apply clearAlarm_touches
      | split

theorem raiseSelection_touches {i : Option RefIx} (hslots : Part.slots ∈ ps) (hrooms : Part.rooms ∈ ps)
    (h : s₀.OnlyTouches ps s) : s₀.OnlyTouches ps (s.raiseSelection i) := by
  unfold State.raiseSelection
  try dsimp only
  repeat' first
      | with_reducible assumption | with_reducible exact State.OnlyTouches.rfl' | with_reducible apply raise_touches

theorem selectEntry_touches {i : RefIx} (htb : Part.tb ∈ ps) (hslots : Part.slots ∈ ps) (hrooms : Part.rooms ∈ ps)
    (h : s₀.OnlyTouches ps s) : s₀.OnlyTouches ps (s.selectEntry i) := by
  unfold State.selectEntry
  try dsimp only
  repeat' first
      | with_reducible assumption | with_reducible exact State.OnlyTouches.rfl' | with_reducible apply updTb_touches
      | with_reducible apply raiseSelection_touches | with_reducible apply clearStateAlarm_touches | exact fun _ => rfl | rfl
      | (intro _; simp; done)

theorem storeRestore_touches (htb : Part.tb ∈ ps)
    (h : s₀.OnlyTouches ps s) : s₀.OnlyTouches ps (s.storeRestore) := by
  unfold State.storeRestore
  try dsimp only
  repeat' first
      | with_reducible assumption | with_reducible exact State.OnlyTouches.rfl' | with_reducible apply updTb_touches
      | exact fun _ => rfl | rfl | (intro _; simp; done)

theorem switchIfDue_touches (htb : Part.tb ∈ ps) (hslots : Part.slots ∈ ps) (hrooms : Part.rooms ∈ ps)
    (h : s₀.OnlyTouches ps s) : s₀.OnlyTouches ps (s.switchIfDue) := by
  unfold State.switchIfDue
  repeat' first
      | with_reducible assumption | with_reducible exact State.OnlyTouches.rfl' | with_reducible apply selectEntry_touches
      | with_reducible apply storeRestore_touches | split

theorem reworkRestore_touches (htb : Part.tb ∈ ps) (hslots : Part.slots ∈ ps) (hrooms : Part.rooms ∈ ps)
    (h : s₀.OnlyTouches ps s) : s₀.OnlyTouches ps (s.reworkRestore) := by
  unfold State.reworkRestore
  repeat' first
      | with_reducible assumption | with_reducible exact State.OnlyTouches.rfl' | with_reducible apply storeRestore_touches
      | with_reducible apply switchIfDue_touches

theorem raiseHoldover_touches {st : TbState} (hslots : Part.slots ∈ ps) (hrooms : Part.rooms ∈ ps)
    (h : s₀.OnlyTouches ps s) : s₀.OnlyTouches ps (s.raiseHoldover st) := by
  unfold State.raiseHoldover
  repeat' first
      | with_reducible assumption | with_reducible exact State.OnlyTouches.rfl' | with_reducible apply raise_touches | split

theorem enterHoldover_touches (htb : Part.tb ∈ ps) (hslots : Part.slots ∈ ps) (hrooms : Part.rooms ∈ ps)
    (h : s₀.OnlyTouches ps s) : s₀.OnlyTouches ps (s.enterHoldover) := by
  unfold State.enterHoldover
  try dsimp only
  repeat' first
      | with_reducible assumption | with_reducible exact State.OnlyTouches.rfl' | with_reducible apply updTb_touches
      | with_reducible apply raiseSelection_touches | with_reducible apply raiseHoldover_touches | exact fun _ => rfl | rfl
      | (intro _; simp; done)

theorem raiseFreeRun_touches (hslots : Part.slots ∈ ps) (hrooms : Part.rooms ∈ ps)
    (h : s₀.OnlyTouches ps s) : s₀.OnlyTouches ps (s.raiseFreeRun) := by
  unfold State.raiseFreeRun
  repeat' first
      | with_reducible assumption | with_reducible exact State.OnlyTouches.rfl' | with_reducible apply raise_touches | split

theorem enterFreeRun_touches (htb : Part.tb ∈ ps) (hports : Part.ports ∈ ps) (hleases : Part.leases ∈ ps)
    (houts : Part.outs ∈ ps) (hslots : Part.slots ∈ ps) (hrooms : Part.rooms ∈ ps)
    (h : s₀.OnlyTouches ps s) : s₀.OnlyTouches ps (s.enterFreeRun) := by
  unfold State.enterFreeRun
  try dsimp only
  repeat' first
      | with_reducible assumption | with_reducible exact State.OnlyTouches.rfl' | with_reducible apply updTb_touches
      | with_reducible apply raiseSelection_touches | with_reducible apply deriveClass_touches
      | with_reducible apply raiseFreeRun_touches | exact fun _ => rfl | rfl | (intro _; simp; done)

theorem loseSelected_touches {i : RefIx} (htb : Part.tb ∈ ps) (hports : Part.ports ∈ ps) (hleases : Part.leases ∈ ps)
    (houts : Part.outs ∈ ps) (hslots : Part.slots ∈ ps) (hrooms : Part.rooms ∈ ps)
    (h : s₀.OnlyTouches ps s) : s₀.OnlyTouches ps (s.loseSelected i) := by
  unfold State.loseSelected
  try dsimp only
  repeat' first
      | with_reducible assumption | with_reducible exact State.OnlyTouches.rfl' | with_reducible apply updTb_touches
      | with_reducible apply selectEntry_touches | with_reducible apply reworkRestore_touches
      | with_reducible apply enterHoldover_touches | with_reducible apply enterFreeRun_touches | split | exact fun _ => rfl
      | rfl | (intro _; simp; done)

theorem announceUsable_touches {i : RefIx} (htb : Part.tb ∈ ps) (hslots : Part.slots ∈ ps) (hrooms : Part.rooms ∈ ps)
    (h : s₀.OnlyTouches ps s) : s₀.OnlyTouches ps (s.announceUsable i) := by
  unfold State.announceUsable
  try dsimp only
  repeat' first
      | with_reducible assumption | with_reducible exact State.OnlyTouches.rfl' | with_reducible apply updTb_touches
      | with_reducible apply selectEntry_touches | with_reducible apply reworkRestore_touches | split | exact fun _ => rfl | rfl
      | (intro _; simp; done)

theorem announceLeft_touches {i : RefIx} (htb : Part.tb ∈ ps) (hports : Part.ports ∈ ps) (hleases : Part.leases ∈ ps)
    (houts : Part.outs ∈ ps) (hslots : Part.slots ∈ ps) (hrooms : Part.rooms ∈ ps)
    (h : s₀.OnlyTouches ps s) : s₀.OnlyTouches ps (s.announceLeft i) := by
  unfold State.announceLeft
  try dsimp only
  repeat' first
      | with_reducible assumption | with_reducible exact State.OnlyTouches.rfl' | with_reducible apply loseSelected_touches
      | with_reducible apply updTb_touches | with_reducible apply reworkRestore_touches | split | exact fun _ => rfl | rfl
      | (intro _; simp; done)

theorem stepNotices_touches {o : Int} (hports : Part.ports ∈ ps) (hleases : Part.leases ∈ ps)
    (h : s₀.OnlyTouches ps s) : s₀.OnlyTouches ps (s.stepNotices o) := by
  unfold State.stepNotices
  try dsimp only
  repeat' first
      | with_reducible assumption | with_reducible exact State.OnlyTouches.rfl'
      | (with_reducible apply State.OnlyTouches.forAll; intro _ _) | with_reducible apply putNotice_touches | split

theorem applyStep_touches {o : Int} (htb : Part.tb ∈ ps) (hports : Part.ports ∈ ps) (hleases : Part.leases ∈ ps)
    (houts : Part.outs ∈ ps) (hslots : Part.slots ∈ ps) (hrooms : Part.rooms ∈ ps)
    (h : s₀.OnlyTouches ps s) : s₀.OnlyTouches ps (s.applyStep o) := by
  unfold State.applyStep
  try dsimp only
  repeat' first
      | with_reducible assumption | with_reducible exact State.OnlyTouches.rfl' | with_reducible apply updTb_touches
      | with_reducible apply stepNotices_touches | with_reducible apply dropAllSchedules_touches
      | with_reducible apply replanOutputs_touches | with_reducible apply raise_touches | exact fun _ => rfl | rfl
      | (intro _; simp; done)

theorem correct_touches {o : Int} (htb : Part.tb ∈ ps) (hports : Part.ports ∈ ps) (hleases : Part.leases ∈ ps)
    (houts : Part.outs ∈ ps) (hslots : Part.slots ∈ ps) (hrooms : Part.rooms ∈ ps)
    (h : s₀.OnlyTouches ps s) : s₀.OnlyTouches ps (s.correct o) := by
  unfold State.correct
  split
  · exact applyStep_touches htb hports hleases houts hslots hrooms h
  · exact updTb_touches htb (fun t => (Timebase.runs_settings _ _).trans
      ((Timebase.steer_settings _ _).trans (Timebase.slew_settings _ _))) h

theorem applySample_touches {i : RefIx} {o : Int} (htb : Part.tb ∈ ps) (hports : Part.ports ∈ ps) (hleases : Part.leases ∈ ps)
    (houts : Part.outs ∈ ps) (hslots : Part.slots ∈ ps) (hrooms : Part.rooms ∈ ps)
    (h : s₀.OnlyTouches ps s) : s₀.OnlyTouches ps (s.applySample i o) := by
  unfold State.applySample
  try dsimp only
  repeat' first
      | with_reducible assumption | with_reducible exact State.OnlyTouches.rfl' | with_reducible apply correct_touches
      | with_reducible apply updTb_touches | with_reducible apply deriveClass_touches | exact fun _ => rfl | rfl
      | (intro _; simp; done)

theorem takeSample_touches {m : Sample} (htb : Part.tb ∈ ps) (hports : Part.ports ∈ ps) (hleases : Part.leases ∈ ps)
    (houts : Part.outs ∈ ps) (hslots : Part.slots ∈ ps) (hrooms : Part.rooms ∈ ps)
    (h : s₀.OnlyTouches ps s) : s₀.OnlyTouches ps (s.takeSample m) := by
  unfold State.takeSample
  repeat' first
      | with_reducible assumption | with_reducible exact State.OnlyTouches.rfl' | with_reducible apply applySample_touches
      | split

theorem deliverSample_touches (htb : Part.tb ∈ ps) (hports : Part.ports ∈ ps) (hleases : Part.leases ∈ ps)
    (houts : Part.outs ∈ ps) (hslots : Part.slots ∈ ps) (hrooms : Part.rooms ∈ ps) (hwires : Part.wires ∈ ps)
    (h : s₀.OnlyTouches ps s) : s₀.OnlyTouches ps (s.deliverSample) := by
  unfold State.deliverSample
  repeat' first
      | with_reducible assumption | with_reducible exact State.OnlyTouches.rfl' | with_reducible apply setWires_touches
      | with_reducible apply takeSample_touches | split

theorem takeMeasurement_touches {m : Measurement} (htb : Part.tb ∈ ps)
    (h : s₀.OnlyTouches ps s) : s₀.OnlyTouches ps (s.takeMeasurement m) := by
  unfold State.takeMeasurement
  try dsimp only
  repeat' first
      | with_reducible assumption | with_reducible exact State.OnlyTouches.rfl' | with_reducible apply updTb_touches | split
      | exact fun _ => rfl | rfl | (intro _; simp; done)

theorem deliverMeasurement_touches (htb : Part.tb ∈ ps) (hwires : Part.wires ∈ ps)
    (h : s₀.OnlyTouches ps s) : s₀.OnlyTouches ps (s.deliverMeasurement) := by
  unfold State.deliverMeasurement
  repeat' first
      | with_reducible assumption | with_reducible exact State.OnlyTouches.rfl' | with_reducible apply setWires_touches
      | with_reducible apply takeMeasurement_touches | split

theorem spentTest_touches (htb : Part.tb ∈ ps) (hslots : Part.slots ∈ ps) (hrooms : Part.rooms ∈ ps)
    (h : s₀.OnlyTouches ps s) : s₀.OnlyTouches ps (s.spentTest) := by
  unfold State.spentTest
  try dsimp only
  repeat' first
      | with_reducible assumption | with_reducible exact State.OnlyTouches.rfl' | with_reducible apply updTb_touches
      | with_reducible apply clearAlarm_touches | with_reducible apply raise_touches | split | exact fun _ => rfl | rfl
      | (intro _; simp; done)

theorem runSecond_touches (htb : Part.tb ∈ ps) (hports : Part.ports ∈ ps) (hleases : Part.leases ∈ ps)
    (houts : Part.outs ∈ ps) (hslots : Part.slots ∈ ps) (hrooms : Part.rooms ∈ ps) (hclock : Part.clock ∈ ps)
    (hrefs : Part.refs ∈ ps)
    (h : s₀.OnlyTouches ps s) : s₀.OnlyTouches ps (s.runSecond) := by
  unfold State.runSecond
  try dsimp only
  repeat' first
      | with_reducible assumption | with_reducible exact State.OnlyTouches.rfl'
      | (with_reducible apply State.OnlyTouches.forAll; intro _ _) | with_reducible apply setClock_touches
      | with_reducible apply updTb_touches | with_reducible apply deriveClass_touches | with_reducible apply spentTest_touches
      | with_reducible apply updRef_touches | exact fun _ => rfl | rfl | (intro _; simp; done)

theorem runSecondIfDue_touches (htb : Part.tb ∈ ps) (hports : Part.ports ∈ ps) (hleases : Part.leases ∈ ps)
    (houts : Part.outs ∈ ps) (hslots : Part.slots ∈ ps) (hrooms : Part.rooms ∈ ps) (hclock : Part.clock ∈ ps)
    (hrefs : Part.refs ∈ ps)
    (h : s₀.OnlyTouches ps s) : s₀.OnlyTouches ps (s.runSecondIfDue) := by
  unfold State.runSecondIfDue
  repeat' first
      | with_reducible assumption | with_reducible exact State.OnlyTouches.rfl' | with_reducible apply runSecond_touches | split

/-! ### References -/

theorem raiseRef_touches {k : AlarmKind} {i : RefIx} (hslots : Part.slots ∈ ps) (hrooms : Part.rooms ∈ ps)
    (h : s₀.OnlyTouches ps s) : s₀.OnlyTouches ps (s.raiseRef k i) := by
  unfold State.raiseRef
  repeat' first
      | with_reducible assumption | with_reducible exact State.OnlyTouches.rfl' | with_reducible apply raise_touches

theorem startInputs_touches {i : RefIx} (hrefs : Part.refs ∈ ps) (hslots : Part.slots ∈ ps) (hrooms : Part.rooms ∈ ps)
    (h : s₀.OnlyTouches ps s) : s₀.OnlyTouches ps (s.startInputs i) := by
  unfold State.startInputs
  try dsimp only
  repeat' first
      | with_reducible assumption | with_reducible exact State.OnlyTouches.rfl' | with_reducible apply updRef_touches
      | with_reducible apply raiseRef_touches | split | exact fun _ => rfl | rfl | (intro _; simp; done)

theorem leaveService_touches {l : LeaseIx} (hports : Part.ports ∈ ps) (hleases : Part.leases ∈ ps) (hslots : Part.slots ∈ ps)
    (hrooms : Part.rooms ∈ ps) (hleaseCore : Part.leaseCore ∈ ps)
    (h : s₀.OnlyTouches ps s) : s₀.OnlyTouches ps (s.leaveService l) := by
  unfold State.leaveService
  repeat' first
      | with_reducible assumption | with_reducible exact State.OnlyTouches.rfl' | with_reducible apply clearAlarm_touches
      | with_reducible apply stopMarks_touches

theorem suspendCore_touches {l : LeaseIx} {c : SuspendCause} (hports : Part.ports ∈ ps) (hleases : Part.leases ∈ ps)
    (hslots : Part.slots ∈ ps) (hrooms : Part.rooms ∈ ps) (hleaseCore : Part.leaseCore ∈ ps)
    (h : s₀.OnlyTouches ps s) : s₀.OnlyTouches ps (s.suspendCore l c) := by
  unfold State.suspendCore
  try dsimp only
  repeat' first
      | with_reducible assumption | with_reducible exact State.OnlyTouches.rfl' | with_reducible apply moveLease_touches
      | with_reducible apply leaveService_touches | with_reducible apply abandonBatch_touches
      | with_reducible apply dropInjection_touches | with_reducible apply putNotice_touches
      | with_reducible apply raiseLease_touches | split

theorem chooseFor_touches {l : LeaseIx} (hports : Part.ports ∈ ps)
    (h : s₀.OnlyTouches ps s) : s₀.OnlyTouches ps (s.chooseFor l) := by
  unfold State.chooseFor
  repeat' first
      | with_reducible assumption | with_reducible exact State.OnlyTouches.rfl' | with_reducible apply choose_touches | split

theorem raiseFault_touches {i : RefIx} (hslots : Part.slots ∈ ps) (hrooms : Part.rooms ∈ ps)
    (h : s₀.OnlyTouches ps s) : s₀.OnlyTouches ps (s.raiseFault i) := by
  unfold State.raiseFault
  repeat' first
      | with_reducible assumption | with_reducible exact State.OnlyTouches.rfl' | with_reducible apply raiseRef_touches
      | with_reducible apply clearAlarm_touches | split

theorem lockoutReport_touches {i : RefIx} (hports : Part.ports ∈ ps) (hleases : Part.leases ∈ ps) (hslots : Part.slots ∈ ps)
    (hrooms : Part.rooms ∈ ps) (hleaseCore : Part.leaseCore ∈ ps)
    (h : s₀.OnlyTouches ps s) : s₀.OnlyTouches ps (s.lockoutReport i) := by
  unfold State.lockoutReport
  repeat' first
      | with_reducible assumption | with_reducible exact State.OnlyTouches.rfl' | with_reducible apply suspendCore_touches
      | split

theorem lockoutChoice_touches {b : State} {i : RefIx} (hports : Part.ports ∈ ps)
    (h : s₀.OnlyTouches ps s) : s₀.OnlyTouches ps (s.lockoutChoice b i) := by
  unfold State.lockoutChoice
  repeat' first
      | with_reducible assumption | with_reducible exact State.OnlyTouches.rfl' | with_reducible apply chooseFor_touches | split

theorem faultRef_touches {i : RefIx} {c : FaultCause} (htb : Part.tb ∈ ps) (hports : Part.ports ∈ ps)
    (hleases : Part.leases ∈ ps) (houts : Part.outs ∈ ps) (hslots : Part.slots ∈ ps) (hrooms : Part.rooms ∈ ps)
    (hrefs : Part.refs ∈ ps) (hleaseCore : Part.leaseCore ∈ ps)
    (h : s₀.OnlyTouches ps s) : s₀.OnlyTouches ps (s.faultRef i c) := by
  unfold State.faultRef
  try dsimp only
  repeat' first
      | with_reducible assumption | with_reducible exact State.OnlyTouches.rfl' | with_reducible apply updRef_touches
      | with_reducible apply lockoutReport_touches | with_reducible apply raiseFault_touches
      | with_reducible apply announceLeft_touches | with_reducible apply lockoutChoice_touches | split | exact fun _ => rfl
      | rfl | (intro _; simp; done)

theorem becomeUsable_touches {i : RefIx} (hrefs : Part.refs ∈ ps) (htb : Part.tb ∈ ps) (hslots : Part.slots ∈ ps)
    (hrooms : Part.rooms ∈ ps)
    (h : s₀.OnlyTouches ps s) : s₀.OnlyTouches ps (s.becomeUsable i) := by
  unfold State.becomeUsable
  try dsimp only
  repeat' first
      | with_reducible assumption | with_reducible exact State.OnlyTouches.rfl' | with_reducible apply updRef_touches
      | with_reducible apply announceUsable_touches | exact fun _ => rfl | rfl | (intro _; simp; done)

theorem qualify_touches {i : RefIx} {w : Bool} (hrefs : Part.refs ∈ ps) (htb : Part.tb ∈ ps) (hslots : Part.slots ∈ ps)
    (hrooms : Part.rooms ∈ ps)
    (h : s₀.OnlyTouches ps s) : s₀.OnlyTouches ps (s.qualify i w) := by
  unfold State.qualify
  try dsimp only
  repeat' first
      | with_reducible assumption | with_reducible exact State.OnlyTouches.rfl' | with_reducible apply updRef_touches
      | with_reducible apply becomeUsable_touches | split | exact fun _ => rfl | rfl | (intro _; simp; done)

theorem offerSample_touches {i : RefIx} {o : Int} {m : BitVec 8} (hwires : Part.wires ∈ ps)
    (h : s₀.OnlyTouches ps s) : s₀.OnlyTouches ps (s.offerSample i o m) := by
  unfold State.offerSample
  repeat' first
      | with_reducible assumption | with_reducible exact State.OnlyTouches.rfl' | with_reducible apply setWires_touches | split

theorem goodOffset_touches {i : RefIx} {o : Int} {m : BitVec 8} (hrefs : Part.refs ∈ ps) (htb : Part.tb ∈ ps)
    (hwires : Part.wires ∈ ps) (hslots : Part.slots ∈ ps) (hrooms : Part.rooms ∈ ps)
    (h : s₀.OnlyTouches ps s) : s₀.OnlyTouches ps (s.goodOffset i o m) := by
  unfold State.goodOffset
  try dsimp only
  repeat' first
      | with_reducible assumption | with_reducible exact State.OnlyTouches.rfl' | with_reducible apply updRef_touches
      | with_reducible apply offerSample_touches | with_reducible apply qualify_touches | exact fun _ => rfl | rfl
      | (intro _; simp; done)

theorem edgeUnlabelled_touches {i : RefIx} (htb : Part.tb ∈ ps) (hports : Part.ports ∈ ps) (hleases : Part.leases ∈ ps)
    (houts : Part.outs ∈ ps) (hslots : Part.slots ∈ ps) (hrooms : Part.rooms ∈ ps) (hrefs : Part.refs ∈ ps)
    (hleaseCore : Part.leaseCore ∈ ps)
    (h : s₀.OnlyTouches ps s) : s₀.OnlyTouches ps (s.edgeUnlabelled i) := by
  unfold State.edgeUnlabelled
  try dsimp only
  repeat' first
      | with_reducible assumption | with_reducible exact State.OnlyTouches.rfl' | with_reducible apply updRef_touches
      | with_reducible apply faultRef_touches | split | exact fun _ => rfl | rfl | (intro _; simp; done)

theorem edgeLabelled_touches {i : RefIx} {b : Label} (htb : Part.tb ∈ ps) (hports : Part.ports ∈ ps)
    (hleases : Part.leases ∈ ps) (houts : Part.outs ∈ ps) (hslots : Part.slots ∈ ps) (hrooms : Part.rooms ∈ ps)
    (hrefs : Part.refs ∈ ps) (hwires : Part.wires ∈ ps) (hleaseCore : Part.leaseCore ∈ ps)
    (h : s₀.OnlyTouches ps s) : s₀.OnlyTouches ps (s.edgeLabelled i b) := by
  unfold State.edgeLabelled
  try dsimp only
  repeat' first
      | with_reducible assumption | with_reducible exact State.OnlyTouches.rfl' | with_reducible apply updRef_touches
      | with_reducible apply faultRef_touches | with_reducible apply goodOffset_touches | split | exact fun _ => rfl | rfl
      | (intro _; simp; done)

theorem edgeTaken_touches {i : RefIx} (htb : Part.tb ∈ ps) (hports : Part.ports ∈ ps) (hleases : Part.leases ∈ ps)
    (houts : Part.outs ∈ ps) (hslots : Part.slots ∈ ps) (hrooms : Part.rooms ∈ ps) (hrefs : Part.refs ∈ ps)
    (hwires : Part.wires ∈ ps) (hleaseCore : Part.leaseCore ∈ ps)
    (h : s₀.OnlyTouches ps s) : s₀.OnlyTouches ps (s.edgeTaken i) := by
  unfold State.edgeTaken
  try dsimp only
  repeat' first
      | with_reducible assumption | with_reducible exact State.OnlyTouches.rfl' | with_reducible apply updRef_touches
      | with_reducible apply edgeUnlabelled_touches | with_reducible apply faultRef_touches
      | with_reducible apply edgeLabelled_touches | split | exact fun _ => rfl | rfl | (intro _; simp; done)

theorem pulseEdge_touches {i : RefIx} {e : Edge} (htb : Part.tb ∈ ps) (hports : Part.ports ∈ ps) (hleases : Part.leases ∈ ps)
    (houts : Part.outs ∈ ps) (hslots : Part.slots ∈ ps) (hrooms : Part.rooms ∈ ps) (hrefs : Part.refs ∈ ps)
    (hwires : Part.wires ∈ ps) (hleaseCore : Part.leaseCore ∈ ps)
    (h : s₀.OnlyTouches ps s) : s₀.OnlyTouches ps (s.pulseEdge i e) := by
  unfold State.pulseEdge
  try dsimp only
  repeat' first
      | with_reducible assumption | with_reducible exact State.OnlyTouches.rfl' | with_reducible apply faultRef_touches
      | with_reducible apply edgeTaken_touches | split

theorem takeLabel_touches {i : RefIx} {v : Bool} {n : BitVec 48} (htb : Part.tb ∈ ps) (hports : Part.ports ∈ ps)
    (hleases : Part.leases ∈ ps) (houts : Part.outs ∈ ps) (hslots : Part.slots ∈ ps) (hrooms : Part.rooms ∈ ps)
    (hrefs : Part.refs ∈ ps) (hleaseCore : Part.leaseCore ∈ ps)
    (h : s₀.OnlyTouches ps s) : s₀.OnlyTouches ps (s.takeLabel i v n) := by
  unfold State.takeLabel
  try dsimp only
  repeat' first
      | with_reducible assumption | with_reducible exact State.OnlyTouches.rfl' | with_reducible apply updRef_touches
      | with_reducible apply faultRef_touches | split | exact fun _ => rfl | rfl | (intro _; simp; done)

theorem labelEnds_touches {i : RefIx} {f : LabelRun} (htb : Part.tb ∈ ps) (hports : Part.ports ∈ ps)
    (hleases : Part.leases ∈ ps) (houts : Part.outs ∈ ps) (hslots : Part.slots ∈ ps) (hrooms : Part.rooms ∈ ps)
    (hrefs : Part.refs ∈ ps) (hleaseCore : Part.leaseCore ∈ ps)
    (h : s₀.OnlyTouches ps s) : s₀.OnlyTouches ps (s.labelEnds i f) := by
  unfold State.labelEnds
  repeat' first
      | with_reducible assumption | with_reducible exact State.OnlyTouches.rfl' | with_reducible apply takeLabel_touches | split

theorem setReceiver_touches {i : RefIx} {r : LabelReceiver} (hrefs : Part.refs ∈ ps)
    (h : s₀.OnlyTouches ps s) : s₀.OnlyTouches ps (s.setReceiver i r) := by
  unfold State.setReceiver
  repeat' first
      | with_reducible assumption | with_reducible apply updRef_touches | exact fun _ => rfl

theorem labelChar_touches {i : RefIx} {n : Nat} {c : LabelChar} (htb : Part.tb ∈ ps) (hports : Part.ports ∈ ps)
    (hleases : Part.leases ∈ ps) (houts : Part.outs ∈ ps) (hslots : Part.slots ∈ ps) (hrooms : Part.rooms ∈ ps)
    (hrefs : Part.refs ∈ ps) (hleaseCore : Part.leaseCore ∈ ps)
    (h : s₀.OnlyTouches ps s) : s₀.OnlyTouches ps (s.labelChar i n c) := by
  unfold State.labelChar
  dsimp only
  repeat' first
      | with_reducible assumption | with_reducible apply setReceiver_touches | with_reducible apply labelEnds_touches | split

theorem labelRest_touches {i : RefIx} {n : Nat} {c : List LineChar} (htb : Part.tb ∈ ps) (hports : Part.ports ∈ ps)
    (hleases : Part.leases ∈ ps) (houts : Part.outs ∈ ps) (hslots : Part.slots ∈ ps) (hrooms : Part.rooms ∈ ps)
    (hrefs : Part.refs ∈ ps) (hleaseCore : Part.leaseCore ∈ ps)
    (h : s₀.OnlyTouches ps s) : s₀.OnlyTouches ps (s.labelRest i n c) := by
  induction c generalizing s n with
  | nil => exact h
  | cons x xs ih => exact ih (labelChar_touches htb hports hleases houts hslots hrooms hrefs hleaseCore h)

theorem labelFrame_touches {i : RefIx} {c : LabelChar} {cs : List LineChar} (htb : Part.tb ∈ ps) (hports : Part.ports ∈ ps)
    (hleases : Part.leases ∈ ps) (houts : Part.outs ∈ ps) (hslots : Part.slots ∈ ps) (hrooms : Part.rooms ∈ ps)
    (hrefs : Part.refs ∈ ps) (hleaseCore : Part.leaseCore ∈ ps)
    (h : s₀.OnlyTouches ps s) : s₀.OnlyTouches ps (s.labelFrame i c cs) :=
  labelRest_touches htb hports hleases houts hslots hrooms hrefs hleaseCore
    (labelChar_touches htb hports hleases houts hslots hrooms hrefs hleaseCore h)

theorem offerMeasurement_touches {l : LineInput} {f : Int} (hwires : Part.wires ∈ ps)
    (h : s₀.OnlyTouches ps s) : s₀.OnlyTouches ps (s.offerMeasurement l f) := by
  unfold State.offerMeasurement
  repeat' first
      | with_reducible assumption | with_reducible exact State.OnlyTouches.rfl' | with_reducible apply setWires_touches | split

theorem measuredFreq_touches {l : LineInput} {f : Int} (htb : Part.tb ∈ ps) (hports : Part.ports ∈ ps)
    (hleases : Part.leases ∈ ps) (houts : Part.outs ∈ ps) (hslots : Part.slots ∈ ps) (hrooms : Part.rooms ∈ ps)
    (hrefs : Part.refs ∈ ps) (hwires : Part.wires ∈ ps) (hleaseCore : Part.leaseCore ∈ ps)
    (h : s₀.OnlyTouches ps s) : s₀.OnlyTouches ps (s.measuredFreq l f) := by
  unfold State.measuredFreq
  try dsimp only
  repeat' first
      | with_reducible assumption | with_reducible exact State.OnlyTouches.rfl' | with_reducible apply updRef_touches
      | with_reducible apply faultRef_touches | with_reducible apply offerMeasurement_touches
      | with_reducible apply qualify_touches | split | exact fun _ => rfl | rfl | (intro _; simp; done)

theorem pulseTaken_touches {l : LineInput} (htb : Part.tb ∈ ps) (hports : Part.ports ∈ ps) (hleases : Part.leases ∈ ps)
    (houts : Part.outs ∈ ps) (hslots : Part.slots ∈ ps) (hrooms : Part.rooms ∈ ps) (hrefs : Part.refs ∈ ps)
    (hwires : Part.wires ∈ ps) (hleaseCore : Part.leaseCore ∈ ps)
    (h : s₀.OnlyTouches ps s) : s₀.OnlyTouches ps (s.pulseTaken l) := by
  unfold State.pulseTaken
  try dsimp only
  repeat' first
      | with_reducible assumption | with_reducible exact State.OnlyTouches.rfl' | with_reducible apply updRef_touches
      | with_reducible apply measuredFreq_touches | split | exact fun _ => rfl | rfl | (intro _; simp; done)

theorem linePulse_touches {l : LineInput} (htb : Part.tb ∈ ps) (hports : Part.ports ∈ ps) (hleases : Part.leases ∈ ps)
    (houts : Part.outs ∈ ps) (hslots : Part.slots ∈ ps) (hrooms : Part.rooms ∈ ps) (hrefs : Part.refs ∈ ps)
    (hwires : Part.wires ∈ ps) (hleaseCore : Part.leaseCore ∈ ps)
    (h : s₀.OnlyTouches ps s) : s₀.OnlyTouches ps (s.linePulse l) := by
  unfold State.linePulse
  try dsimp only
  repeat' first
      | with_reducible assumption | with_reducible exact State.OnlyTouches.rfl' | with_reducible apply faultRef_touches
      | with_reducible apply pulseTaken_touches | split

theorem peerTaken_touches {i : RefIx} {b : PeerMarkBody} {r : SymbolRecord} (htb : Part.tb ∈ ps) (hports : Part.ports ∈ ps)
    (hleases : Part.leases ∈ ps) (houts : Part.outs ∈ ps) (hslots : Part.slots ∈ ps) (hrooms : Part.rooms ∈ ps)
    (hrefs : Part.refs ∈ ps) (hwires : Part.wires ∈ ps) (hleaseCore : Part.leaseCore ∈ ps)
    (h : s₀.OnlyTouches ps s) : s₀.OnlyTouches ps (s.peerTaken i b r) := by
  unfold State.peerTaken
  try dsimp only
  repeat' first
      | with_reducible assumption | with_reducible exact State.OnlyTouches.rfl' | with_reducible apply updRef_touches
      | with_reducible apply faultRef_touches | with_reducible apply goodOffset_touches | split | exact fun _ => rfl | rfl
      | (intro _; simp; done)

theorem peerMarked_touches {i : RefIx} {b : PeerMarkBody} {r : Option SymbolRecord} (htb : Part.tb ∈ ps)
    (hports : Part.ports ∈ ps) (hleases : Part.leases ∈ ps) (houts : Part.outs ∈ ps) (hslots : Part.slots ∈ ps)
    (hrooms : Part.rooms ∈ ps) (hrefs : Part.refs ∈ ps) (hwires : Part.wires ∈ ps) (hleaseCore : Part.leaseCore ∈ ps)
    (h : s₀.OnlyTouches ps s) : s₀.OnlyTouches ps (s.peerMarked i b r) := by
  unfold State.peerMarked
  try dsimp only
  repeat' first
      | with_reducible assumption | with_reducible exact State.OnlyTouches.rfl' | with_reducible apply faultRef_touches
      | with_reducible apply peerTaken_touches | split

theorem sourceLost_touches {f : Offer} (htb : Part.tb ∈ ps) (hports : Part.ports ∈ ps) (hleases : Part.leases ∈ ps)
    (houts : Part.outs ∈ ps) (hslots : Part.slots ∈ ps) (hrooms : Part.rooms ∈ ps) (hrefs : Part.refs ∈ ps)
    (hleaseCore : Part.leaseCore ∈ ps)
    (h : s₀.OnlyTouches ps s) : s₀.OnlyTouches ps (s.sourceLost f) := by
  unfold State.sourceLost
  repeat' first
      | with_reducible assumption | with_reducible exact State.OnlyTouches.rfl' | with_reducible apply faultRef_touches | split

theorem firstSymbol_touches {f : Offer} (hrefs : Part.refs ∈ ps)
    (h : s₀.OnlyTouches ps s) : s₀.OnlyTouches ps (s.firstSymbol f) := by
  unfold State.firstSymbol
  try dsimp only
  repeat' first
      | with_reducible assumption | with_reducible exact State.OnlyTouches.rfl' | with_reducible apply updRef_touches | split
      | exact fun _ => rfl | rfl | (intro _; simp; done)

theorem bindPeer_touches {p : Peer} {l : LeaseIx} (hrefs : Part.refs ∈ ps) (hslots : Part.slots ∈ ps)
    (hrooms : Part.rooms ∈ ps)
    (h : s₀.OnlyTouches ps s) : s₀.OnlyTouches ps (s.bindPeer p l) := by
  unfold State.bindPeer
  try dsimp only
  repeat' first
      | with_reducible assumption | with_reducible exact State.OnlyTouches.rfl' | with_reducible apply updRef_touches
      | with_reducible apply startInputs_touches | exact fun _ => rfl | rfl | (intro _; simp; done)

theorem disableRef_touches {i : RefIx} (hrefs : Part.refs ∈ ps) (hslots : Part.slots ∈ ps) (hrooms : Part.rooms ∈ ps)
    (h : s₀.OnlyTouches ps s) : s₀.OnlyTouches ps (s.disableRef i) := by
  unfold State.disableRef
  repeat' first
      | with_reducible assumption | with_reducible exact State.OnlyTouches.rfl' | with_reducible apply updRef_touches
      | with_reducible apply clearAlarm_touches | exact fun _ => rfl | rfl | (intro _; simp; done)

theorem unbindPeer_touches {p : Peer} (hrefs : Part.refs ∈ ps) (hslots : Part.slots ∈ ps) (hrooms : Part.rooms ∈ ps)
    (h : s₀.OnlyTouches ps s) : s₀.OnlyTouches ps (s.unbindPeer p) := by
  unfold State.unbindPeer
  try dsimp only
  repeat' first
      | with_reducible assumption | with_reducible exact State.OnlyTouches.rfl' | with_reducible apply updRef_touches
      | with_reducible apply disableRef_touches | exact fun _ => rfl | rfl | (intro _; simp; done)

theorem missingExpires_touches {i : RefIx} (htb : Part.tb ∈ ps) (hports : Part.ports ∈ ps) (hleases : Part.leases ∈ ps)
    (houts : Part.outs ∈ ps) (hslots : Part.slots ∈ ps) (hrooms : Part.rooms ∈ ps) (hrefs : Part.refs ∈ ps)
    (hleaseCore : Part.leaseCore ∈ ps)
    (h : s₀.OnlyTouches ps s) : s₀.OnlyTouches ps (s.missingExpires i) := by
  unfold State.missingExpires
  repeat' first
      | with_reducible assumption | with_reducible exact State.OnlyTouches.rfl' | with_reducible apply faultRef_touches | split

theorem holdOffExpires_touches {i : RefIx} (hrefs : Part.refs ∈ ps) (hslots : Part.slots ∈ ps) (hrooms : Part.rooms ∈ ps)
    (h : s₀.OnlyTouches ps s) : s₀.OnlyTouches ps (s.holdOffExpires i) := by
  unfold State.holdOffExpires
  try dsimp only
  repeat' first
      | with_reducible assumption | with_reducible exact State.OnlyTouches.rfl' | with_reducible apply startInputs_touches
      | with_reducible apply clearAlarm_touches | split

theorem scoreDecays_touches {i : RefIx} (hrefs : Part.refs ∈ ps)
    (h : s₀.OnlyTouches ps s) : s₀.OnlyTouches ps (s.scoreDecays i) := by
  unfold State.scoreDecays
  try dsimp only
  repeat' first
      | with_reducible assumption | with_reducible exact State.OnlyTouches.rfl' | with_reducible apply updRef_touches | split
      | exact fun _ => rfl | rfl | (intro _; simp; done)

theorem checkConsistency_touches (htb : Part.tb ∈ ps) (hports : Part.ports ∈ ps) (hleases : Part.leases ∈ ps)
    (houts : Part.outs ∈ ps) (hslots : Part.slots ∈ ps) (hrooms : Part.rooms ∈ ps) (hrefs : Part.refs ∈ ps)
    (hleaseCore : Part.leaseCore ∈ ps)
    (h : s₀.OnlyTouches ps s) : s₀.OnlyTouches ps (s.checkConsistency) := by
  have key : ∀ (ds : List (RefIx × Int)) t, State.OnlyTouches ps t (ds.foldl (fun t d => t.faultRef d.1 .wander) t) := by
    intro ds
    induction ds with
    | nil => exact fun t => State.OnlyTouches.rfl'
    | cons d ds ih =>
      exact fun t => (faultRef_touches htb hports hleases houts hslots hrooms hrefs hleaseCore State.OnlyTouches.rfl').trans (ih _)
  unfold State.checkConsistency
  repeat' split
  all_goals first
    | exact faultRef_touches htb hports hleases houts hslots hrooms hrefs hleaseCore h
    | exact h.trans (key _ _)
    | exact h

/-! ### Leases -/

theorem suspendFully_touches {l : LeaseIx} {c : SuspendCause} (htb : Part.tb ∈ ps) (hports : Part.ports ∈ ps)
    (hleases : Part.leases ∈ ps) (houts : Part.outs ∈ ps) (hslots : Part.slots ∈ ps) (hrooms : Part.rooms ∈ ps)
    (hrefs : Part.refs ∈ ps) (hleaseCore : Part.leaseCore ∈ ps)
    (h : s₀.OnlyTouches ps s) : s₀.OnlyTouches ps (s.suspendFully l c) := by
  unfold State.suspendFully
  try dsimp only
  repeat' first
      | with_reducible assumption | with_reducible exact State.OnlyTouches.rfl' | with_reducible apply suspendCore_touches
      | with_reducible apply sourceLost_touches | with_reducible apply offer_touches | split

theorem suspendMarked_touches {l : LeaseIx} {c : SuspendCause} {v : Rev} (htb : Part.tb ∈ ps) (hports : Part.ports ∈ ps)
    (hleases : Part.leases ∈ ps) (houts : Part.outs ∈ ps) (hslots : Part.slots ∈ ps) (hrooms : Part.rooms ∈ ps)
    (hrefs : Part.refs ∈ ps) (hleaseCore : Part.leaseCore ∈ ps)
    (h : s₀.OnlyTouches ps s) : s₀.OnlyTouches ps (s.suspendMarked l c v) := by
  unfold State.suspendMarked
  try dsimp only
  repeat' first
      | with_reducible assumption | with_reducible exact State.OnlyTouches.rfl' | with_reducible apply suspendFully_touches
      | with_reducible apply updLease_touches | exact Or.inr fun _ => rfl

theorem suspend_touches {l : LeaseIx} {c : SuspendCause} (htb : Part.tb ∈ ps) (hports : Part.ports ∈ ps)
    (hleases : Part.leases ∈ ps) (houts : Part.outs ∈ ps) (hslots : Part.slots ∈ ps) (hrooms : Part.rooms ∈ ps)
    (hrefs : Part.refs ∈ ps) (hleaseCore : Part.leaseCore ∈ ps)
    (h : s₀.OnlyTouches ps s) : s₀.OnlyTouches ps (s.suspend l c) := by
  unfold State.suspend
  try dsimp only
  repeat' first
      | with_reducible assumption | with_reducible exact State.OnlyTouches.rfl' | with_reducible apply suspendFully_touches
      | with_reducible apply chooseFor_touches | split

theorem resumeLease_touches {l : LeaseIx} (hleases : Part.leases ∈ ps) (hslots : Part.slots ∈ ps) (hrooms : Part.rooms ∈ ps)
    (hleaseCore : Part.leaseCore ∈ ps)
    (h : s₀.OnlyTouches ps s) : s₀.OnlyTouches ps (s.resumeLease l) := by
  unfold State.resumeLease
  try dsimp only
  repeat' first
      | with_reducible assumption | with_reducible exact State.OnlyTouches.rfl' | with_reducible apply moveLease_touches
      | with_reducible apply clearAlarm_touches

theorem clearLeaseAlarms_touches {l : LeaseIx} (hslots : Part.slots ∈ ps) (hrooms : Part.rooms ∈ ps)
    (h : s₀.OnlyTouches ps s) : s₀.OnlyTouches ps (s.clearLeaseAlarms l) := by
  unfold State.clearLeaseAlarms
  repeat' first
      | with_reducible assumption | with_reducible exact State.OnlyTouches.rfl' | with_reducible apply clearAlarm_touches
      | with_reducible apply delayJump_touches

theorem freeLease_touches {l : LeaseIx} {p : PortIx} (hports : Part.ports ∈ ps) (hleases : Part.leases ∈ ps)
    (hslots : Part.slots ∈ ps) (hrooms : Part.rooms ∈ ps) (hleaseCore : Part.leaseCore ∈ ps)
    (hportStates : Part.portStates ∈ ps)
    (h : s₀.OnlyTouches ps s) : s₀.OnlyTouches ps (s.freeLease l p) := by
  unfold State.freeLease
  try dsimp only
  repeat' first
      | with_reducible assumption | with_reducible exact State.OnlyTouches.rfl' | exact Or.inl hportStates
      | with_reducible apply setLeaseSlot_touches | with_reducible apply updPort_touches
      | with_reducible apply clearAlarm_touches | exact fun _ => rfl | rfl | (intro _; simp; done)

theorem offerSome_touches {p : PortIx} {f : Option Frame} (hports : Part.ports ∈ ps)
    (h : s₀.OnlyTouches ps s) : s₀.OnlyTouches ps (s.offerSome p f) := by
  unfold State.offerSome
  repeat' first
      | with_reducible assumption | with_reducible exact State.OnlyTouches.rfl' | with_reducible apply offer_touches | split

theorem raiseSome_touches {r : Option Raise} (hslots : Part.slots ∈ ps) (hrooms : Part.rooms ∈ ps)
    (h : s₀.OnlyTouches ps s) : s₀.OnlyTouches ps (s.raiseSome r) := by
  unfold State.raiseSome
  repeat' first
      | with_reducible assumption | with_reducible exact State.OnlyTouches.rfl' | with_reducible apply raise_touches | split

theorem unbindOffer_touches {f : Offer} (hrefs : Part.refs ∈ ps) (hslots : Part.slots ∈ ps) (hrooms : Part.rooms ∈ ps)
    (h : s₀.OnlyTouches ps s) : s₀.OnlyTouches ps (s.unbindOffer f) := by
  unfold State.unbindOffer
  repeat' first
      | with_reducible assumption | with_reducible exact State.OnlyTouches.rfl' | with_reducible apply unbindPeer_touches
      | split

theorem announceOffer_touches {f : Offer} (htb : Part.tb ∈ ps) (hports : Part.ports ∈ ps) (hleases : Part.leases ∈ ps)
    (houts : Part.outs ∈ ps) (hslots : Part.slots ∈ ps) (hrooms : Part.rooms ∈ ps)
    (h : s₀.OnlyTouches ps s) : s₀.OnlyTouches ps (s.announceOffer f) := by
  unfold State.announceOffer
  repeat' first
      | with_reducible assumption | with_reducible exact State.OnlyTouches.rfl' | with_reducible apply announceLeft_touches
      | split

theorem retireQuiet_touches {l : LeaseIx} {f : Option Frame} (hports : Part.ports ∈ ps)
    (hleases : Part.leases ∈ ps) (hslots : Part.slots ∈ ps) (hrooms : Part.rooms ∈ ps)
    (hrefs : Part.refs ∈ ps) (hleaseCore : Part.leaseCore ∈ ps) (hportStates : Part.portStates ∈ ps)
    (h : s₀.OnlyTouches ps s) : s₀.OnlyTouches ps (s.retireQuiet l f) := by
  unfold State.retireQuiet
  try dsimp only
  repeat' first
      | with_reducible assumption | with_reducible exact State.OnlyTouches.rfl' | with_reducible apply stopAllFrames_touches
      | with_reducible apply abandonBatch_touches | with_reducible apply dropInjection_touches
      | with_reducible apply unbindOffer_touches | with_reducible apply clearLeaseAlarms_touches
      | with_reducible apply offerSome_touches | with_reducible apply freeLease_touches | split

theorem retireLoss_touches {b : State} {l : LeaseIx} (htb : Part.tb ∈ ps) (hports : Part.ports ∈ ps)
    (hleases : Part.leases ∈ ps) (houts : Part.outs ∈ ps) (hslots : Part.slots ∈ ps) (hrooms : Part.rooms ∈ ps)
    (h : s₀.OnlyTouches ps s) : s₀.OnlyTouches ps (s.retireLoss b l) := by
  unfold State.retireLoss
  repeat' first
      | with_reducible assumption | with_reducible exact State.OnlyTouches.rfl' | with_reducible apply announceOffer_touches
      | split

theorem portLosses_touches {b : State} {p : PortIx} (htb : Part.tb ∈ ps) (hports : Part.ports ∈ ps)
    (hleases : Part.leases ∈ ps) (houts : Part.outs ∈ ps) (hslots : Part.slots ∈ ps) (hrooms : Part.rooms ∈ ps)
    (h : s₀.OnlyTouches ps s) : s₀.OnlyTouches ps (s.portLosses b p) := by
  unfold State.portLosses
  repeat' first
      | with_reducible assumption | with_reducible exact State.OnlyTouches.rfl'
      | (with_reducible apply State.OnlyTouches.forAll; intro _ _) | with_reducible apply retireLoss_touches | split

theorem retire_touches {l : LeaseIx} {f : Option Frame} {m : Option Raise} (htb : Part.tb ∈ ps) (hports : Part.ports ∈ ps)
    (hleases : Part.leases ∈ ps) (houts : Part.outs ∈ ps) (hslots : Part.slots ∈ ps) (hrooms : Part.rooms ∈ ps)
    (hrefs : Part.refs ∈ ps) (hleaseCore : Part.leaseCore ∈ ps) (hportStates : Part.portStates ∈ ps)
    (h : s₀.OnlyTouches ps s) : s₀.OnlyTouches ps (s.retire l f m) := by
  unfold State.retire
  try dsimp only
  repeat' first
      | with_reducible assumption | with_reducible exact State.OnlyTouches.rfl' | with_reducible apply retireQuiet_touches
      | with_reducible apply retireLoss_touches | with_reducible apply raiseSome_touches | with_reducible apply choose_touches | split

theorem retireNotice_touches {l : LeaseIx} {v : Int} {m : Option Raise} (htb : Part.tb ∈ ps) (hports : Part.ports ∈ ps)
    (hleases : Part.leases ∈ ps) (houts : Part.outs ∈ ps) (hslots : Part.slots ∈ ps) (hrooms : Part.rooms ∈ ps)
    (hrefs : Part.refs ∈ ps) (hleaseCore : Part.leaseCore ∈ ps) (hportStates : Part.portStates ∈ ps)
    (h : s₀.OnlyTouches ps s) : s₀.OnlyTouches ps (s.retireNotice l v m) := by
  unfold State.retireNotice
  repeat' first
      | with_reducible assumption | with_reducible exact State.OnlyTouches.rfl' | with_reducible apply retire_touches

theorem retireRefuse_touches {l : LeaseIx} {r : RefuseReason} {m : Option Raise} (htb : Part.tb ∈ ps)
    (hports : Part.ports ∈ ps) (hleases : Part.leases ∈ ps) (houts : Part.outs ∈ ps) (hslots : Part.slots ∈ ps)
    (hrooms : Part.rooms ∈ ps) (hrefs : Part.refs ∈ ps) (hleaseCore : Part.leaseCore ∈ ps)
    (hportStates : Part.portStates ∈ ps)
    (h : s₀.OnlyTouches ps s) : s₀.OnlyTouches ps (s.retireRefuse l r m) := by
  unfold State.retireRefuse
  repeat' first
      | with_reducible assumption | with_reducible exact State.OnlyTouches.rfl' | with_reducible apply retire_touches | split

theorem retirePort_touches {p : PortIx} (htb : Part.tb ∈ ps) (hports : Part.ports ∈ ps) (hleases : Part.leases ∈ ps)
    (houts : Part.outs ∈ ps) (hslots : Part.slots ∈ ps) (hrooms : Part.rooms ∈ ps) (hrefs : Part.refs ∈ ps)
    (hleaseCore : Part.leaseCore ∈ ps) (hportStates : Part.portStates ∈ ps)
    (h : s₀.OnlyTouches ps s) : s₀.OnlyTouches ps (s.retirePort p) := by
  unfold State.retirePort
  try dsimp only
  repeat' first
      | with_reducible assumption | with_reducible exact State.OnlyTouches.rfl' | with_reducible apply portLosses_touches
      | (with_reducible apply State.OnlyTouches.forAll; intro _ _) | with_reducible apply retireQuiet_touches | split

theorem endBatch_touches {p : PortIx} (hports : Part.ports ∈ ps)
    (h : s₀.OnlyTouches ps s) : s₀.OnlyTouches ps (s.endBatch p) := by
  unfold State.endBatch
  try dsimp only
  repeat' first
      | with_reducible assumption | with_reducible exact State.OnlyTouches.rfl' | with_reducible apply updScanner_touches

theorem takeStanding_touches {l : LeaseIx} (hports : Part.ports ∈ ps) (hleases : Part.leases ∈ ps) (hslots : Part.slots ∈ ps)
    (hrooms : Part.rooms ∈ ps)
    (h : s₀.OnlyTouches ps s) : s₀.OnlyTouches ps (s.takeStanding l) := by
  unfold State.takeStanding
  repeat' first
      | with_reducible assumption | with_reducible exact State.OnlyTouches.rfl' | with_reducible apply putNotice_touches
      | with_reducible apply raiseLease_touches | split

theorem enterService_touches {l : LeaseIx} {n : Nat} (hports : Part.ports ∈ ps) (hleases : Part.leases ∈ ps)
    (hslots : Part.slots ∈ ps) (hrooms : Part.rooms ∈ ps) (hleaseCore : Part.leaseCore ∈ ps)
    (h : s₀.OnlyTouches ps s) : s₀.OnlyTouches ps (s.enterService l n) := by
  unfold State.enterService
  try dsimp only
  repeat' first
      | with_reducible assumption | with_reducible exact State.OnlyTouches.rfl' | with_reducible apply moveLease_touches
      | with_reducible apply clearAlarm_touches | with_reducible apply delayJump_touches
      | with_reducible apply takeStanding_touches

theorem refine_touches {l : LeaseIx} {x : Lease} {n : Nat} (hleases : Part.leases ∈ ps) (hleaseCore : Part.leaseCore ∈ ps)
    (h : s₀.OnlyTouches ps s) : s₀.OnlyTouches ps (s.refine l x n) := by
  unfold State.refine
  try dsimp only
  repeat' first
      | with_reducible assumption | with_reducible exact State.OnlyTouches.rfl' | with_reducible apply setLeaseSlot_touches

theorem delayJump_touches {l : LeaseIx} {x : Lease} (htb : Part.tb ∈ ps) (hports : Part.ports ∈ ps)
    (hleases : Part.leases ∈ ps) (houts : Part.outs ∈ ps) (hslots : Part.slots ∈ ps) (hrooms : Part.rooms ∈ ps)
    (hrefs : Part.refs ∈ ps) (hleaseCore : Part.leaseCore ∈ ps)
    (h : s₀.OnlyTouches ps s) : s₀.OnlyTouches ps (s.delayJump l x) := by
  unfold State.delayJump
  try dsimp only
  repeat' first
      | with_reducible assumption | with_reducible exact State.OnlyTouches.rfl' | with_reducible apply moveLease_touches
      | with_reducible apply leaveService_touches | with_reducible apply raiseLease_touches
      | with_reducible apply sourceLost_touches | with_reducible apply offer_touches

theorem goodBatch_touches {l : LeaseIx} {n : Nat} (htb : Part.tb ∈ ps) (hports : Part.ports ∈ ps) (hleases : Part.leases ∈ ps)
    (houts : Part.outs ∈ ps) (hslots : Part.slots ∈ ps) (hrooms : Part.rooms ∈ ps) (hrefs : Part.refs ∈ ps)
    (hleaseCore : Part.leaseCore ∈ ps)
    (h : s₀.OnlyTouches ps s) : s₀.OnlyTouches ps (s.goodBatch l n) := by
  unfold State.goodBatch
  repeat' first
      | with_reducible assumption | with_reducible exact State.OnlyTouches.rfl' | with_reducible apply refine_touches
      | with_reducible apply delayJump_touches | with_reducible apply enterService_touches | split

theorem rejectBatch_touches {p : PortIx} {b : Batch} (htb : Part.tb ∈ ps) (hports : Part.ports ∈ ps)
    (hleases : Part.leases ∈ ps) (houts : Part.outs ∈ ps) (hslots : Part.slots ∈ ps) (hrooms : Part.rooms ∈ ps)
    (hrefs : Part.refs ∈ ps) (hleaseCore : Part.leaseCore ∈ ps)
    (h : s₀.OnlyTouches ps s) : s₀.OnlyTouches ps (s.rejectBatch p b) := by
  unfold State.rejectBatch
  try dsimp only
  repeat' first
      | with_reducible assumption | with_reducible exact State.OnlyTouches.rfl' | with_reducible apply moveLease_touches
      | with_reducible apply startBatch_touches | with_reducible apply endBatch_touches
      | with_reducible apply suspendMarked_touches | with_reducible apply choose_touches | split

theorem judge_touches {p : PortIx} {b : Batch} (htb : Part.tb ∈ ps) (hports : Part.ports ∈ ps) (hleases : Part.leases ∈ ps)
    (houts : Part.outs ∈ ps) (hslots : Part.slots ∈ ps) (hrooms : Part.rooms ∈ ps) (hrefs : Part.refs ∈ ps)
    (hleaseCore : Part.leaseCore ∈ ps)
    (h : s₀.OnlyTouches ps s) : s₀.OnlyTouches ps (s.judge p b) := by
  unfold State.judge
  try dsimp only
  repeat' first
      | with_reducible assumption | with_reducible exact State.OnlyTouches.rfl' | with_reducible apply endBatch_touches
      | with_reducible apply goodBatch_touches | with_reducible apply choose_touches | with_reducible apply rejectBatch_touches
      | split

theorem nextEcho_touches {p : PortIx} {b : Batch} (hports : Part.ports ∈ ps)
    (h : s₀.OnlyTouches ps s) : s₀.OnlyTouches ps (s.nextEcho p b) := by
  unfold State.nextEcho
  try dsimp only
  repeat' first
      | with_reducible assumption | with_reducible exact State.OnlyTouches.rfl' | with_reducible apply updScanner_touches
      | with_reducible apply sendEcho_touches

theorem takeEchoSample_touches {p : PortIx} {b : Batch} {n : Int} (htb : Part.tb ∈ ps) (hports : Part.ports ∈ ps)
    (hleases : Part.leases ∈ ps) (houts : Part.outs ∈ ps) (hslots : Part.slots ∈ ps) (hrooms : Part.rooms ∈ ps)
    (hrefs : Part.refs ∈ ps) (hleaseCore : Part.leaseCore ∈ ps)
    (h : s₀.OnlyTouches ps s) : s₀.OnlyTouches ps (s.takeEchoSample p b n) := by
  unfold State.takeEchoSample
  try dsimp only
  repeat' first
      | with_reducible assumption | with_reducible exact State.OnlyTouches.rfl' | with_reducible apply nextEcho_touches
      | with_reducible apply judge_touches | split

theorem takeEchoBack_touches {p : PortIx} {b : Batch} {t : SiteNs} {m : BitVec 8} {c : Capture} (htb : Part.tb ∈ ps)
    (hports : Part.ports ∈ ps) (hleases : Part.leases ∈ ps) (houts : Part.outs ∈ ps) (hslots : Part.slots ∈ ps)
    (hrooms : Part.rooms ∈ ps) (hrefs : Part.refs ∈ ps) (hleaseCore : Part.leaseCore ∈ ps)
    (h : s₀.OnlyTouches ps s) : s₀.OnlyTouches ps (s.takeEchoBack p b t m c) := by
  unfold State.takeEchoBack
  repeat' first
      | with_reducible assumption | with_reducible exact State.OnlyTouches.rfl' | with_reducible apply takeEchoSample_touches
      | with_reducible apply nextEcho_touches | split

theorem echoTimeout_touches {p : PortIx} {b : Batch} (htb : Part.tb ∈ ps) (hports : Part.ports ∈ ps)
    (hleases : Part.leases ∈ ps) (houts : Part.outs ∈ ps) (hslots : Part.slots ∈ ps) (hrooms : Part.rooms ∈ ps)
    (hrefs : Part.refs ∈ ps) (hleaseCore : Part.leaseCore ∈ ps)
    (h : s₀.OnlyTouches ps s) : s₀.OnlyTouches ps (s.echoTimeout p b) := by
  unfold State.echoTimeout
  repeat' first
      | with_reducible assumption | with_reducible exact State.OnlyTouches.rfl' | with_reducible apply nextEcho_touches
      | with_reducible apply endBatch_touches | with_reducible apply suspendMarked_touches | with_reducible apply choose_touches
      | split

theorem echoTimerExpires_touches {p : PortIx} (htb : Part.tb ∈ ps) (hports : Part.ports ∈ ps) (hleases : Part.leases ∈ ps)
    (houts : Part.outs ∈ ps) (hslots : Part.slots ∈ ps) (hrooms : Part.rooms ∈ ps) (hrefs : Part.refs ∈ ps)
    (hleaseCore : Part.leaseCore ∈ ps)
    (h : s₀.OnlyTouches ps s) : s₀.OnlyTouches ps (s.echoTimerExpires p) := by
  unfold State.echoTimerExpires
  repeat' first
      | with_reducible assumption | with_reducible exact State.OnlyTouches.rfl' | with_reducible apply echoTimeout_touches
      | split

theorem echoBack_touches {p : PortIx} {l : LeaseIx} {n : Nat} {c : Capture} (htb : Part.tb ∈ ps) (hports : Part.ports ∈ ps)
    (hleases : Part.leases ∈ ps) (houts : Part.outs ∈ ps) (hslots : Part.slots ∈ ps) (hrooms : Part.rooms ∈ ps)
    (hrefs : Part.refs ∈ ps) (hleaseCore : Part.leaseCore ∈ ps)
    (h : s₀.OnlyTouches ps s) : s₀.OnlyTouches ps (s.echoBack p l n c) := by
  unfold State.echoBack
  repeat' first
      | with_reducible assumption | with_reducible exact State.OnlyTouches.rfl' | with_reducible apply echoTimeout_touches
      | with_reducible apply takeEchoBack_touches | split

theorem echoDeparted_touches {p : PortIx} {l : LeaseIx} {n : BitVec 2} {c : Capture} (hports : Part.ports ∈ ps)
    (h : s₀.OnlyTouches ps s) : s₀.OnlyTouches ps (s.echoDeparted p l n c) := by
  unfold State.echoDeparted
  try dsimp only
  repeat' first
      | with_reducible assumption | with_reducible exact State.OnlyTouches.rfl' | with_reducible apply updScanner_touches
      | split

theorem routineFallsDue_touches {p : PortIx} (hports : Part.ports ∈ ps)
    (h : s₀.OnlyTouches ps s) : s₀.OnlyTouches ps (s.routineFallsDue p) := by
  unfold State.routineFallsDue
  repeat' first
      | with_reducible assumption | with_reducible exact State.OnlyTouches.rfl' | with_reducible apply choose_touches | split

theorem spendCredit_touches {l : LeaseIx} (htb : Part.tb ∈ ps) (hports : Part.ports ∈ ps) (hleases : Part.leases ∈ ps)
    (houts : Part.outs ∈ ps) (hslots : Part.slots ∈ ps) (hrooms : Part.rooms ∈ ps) (hrefs : Part.refs ∈ ps)
    (hleaseCore : Part.leaseCore ∈ ps) (hportStates : Part.portStates ∈ ps)
    (h : s₀.OnlyTouches ps s) : s₀.OnlyTouches ps (s.spendCredit l) := by
  unfold State.spendCredit
  repeat' split
  all_goals first
    | exact h
    | skip
  dsimp only
  repeat' split
  · exact retireNotice_touches htb hports hleases houts hslots hrooms hrefs hleaseCore hportStates
      (updLease_touches hleases (Or.inl hleaseCore) h)
  · exact putNotice_touches hports hleases (updLease_touches hleases (Or.inl hleaseCore) h)
  · exact updLease_touches hleases (Or.inl hleaseCore) h

theorem refuseJoin_touches {p : PortIx} {t : Tag} {r : RefuseReason} (hports : Part.ports ∈ ps) (hslots : Part.slots ∈ ps)
    (hrooms : Part.rooms ∈ ps)
    (h : s₀.OnlyTouches ps s) : s₀.OnlyTouches ps (s.refuseJoin p t r) := by
  unfold State.refuseJoin
  repeat' first
      | with_reducible assumption | with_reducible exact State.OnlyTouches.rfl' | with_reducible apply offer_touches
      | with_reducible apply raise_touches

theorem refuseDuplicate_touches {p : PortIx} {t : Tag} (hports : Part.ports ∈ ps) (hslots : Part.slots ∈ ps)
    (hrooms : Part.rooms ∈ ps)
    (h : s₀.OnlyTouches ps s) : s₀.OnlyTouches ps (s.refuseDuplicate p t) := by
  unfold State.refuseDuplicate
  repeat' first
      | with_reducible assumption | with_reducible exact State.OnlyTouches.rfl' | with_reducible apply offer_touches
      | with_reducible apply raise_touches

theorem rejoinBack_touches {l : LeaseIx} {x : Lease} {b : JoinBody} {w : Grade} (htb : Part.tb ∈ ps)
    (hports : Part.ports ∈ ps) (hleases : Part.leases ∈ ps) (houts : Part.outs ∈ ps) (hslots : Part.slots ∈ ps)
    (hrooms : Part.rooms ∈ ps) (hrefs : Part.refs ∈ ps) (hleaseCore : Part.leaseCore ∈ ps)
    (h : s₀.OnlyTouches ps s) : s₀.OnlyTouches ps (s.rejoinBack l x b w) := by
  unfold State.rejoinBack
  try dsimp only
  repeat' first
      | with_reducible assumption | with_reducible exact State.OnlyTouches.rfl' | with_reducible apply moveLease_touches
      | with_reducible apply clearAlarm_touches | with_reducible apply delayJump_touches
      | with_reducible apply leaveService_touches | with_reducible apply abandonBatch_touches
      | with_reducible apply offer_touches | with_reducible apply sourceLost_touches | with_reducible apply choose_touches
      | split

theorem rejoin_touches {l : LeaseIx} {x : Lease} {b : JoinBody} {w : Grade} (htb : Part.tb ∈ ps) (hports : Part.ports ∈ ps)
    (hleases : Part.leases ∈ ps) (houts : Part.outs ∈ ps) (hslots : Part.slots ∈ ps) (hrooms : Part.rooms ∈ ps)
    (hrefs : Part.refs ∈ ps) (hleaseCore : Part.leaseCore ∈ ps)
    (h : s₀.OnlyTouches ps s) : s₀.OnlyTouches ps (s.rejoin l x b w) := by
  unfold State.rejoin
  repeat' first
      | with_reducible assumption | with_reducible exact State.OnlyTouches.rfl' | with_reducible apply offer_touches
      | with_reducible apply refuseJoin_touches | with_reducible apply rejoinBack_touches | split

theorem bindOffer_touches {l : LeaseIx} {f : Offer} (hrefs : Part.refs ∈ ps) (hslots : Part.slots ∈ ps)
    (hrooms : Part.rooms ∈ ps)
    (h : s₀.OnlyTouches ps s) : s₀.OnlyTouches ps (s.bindOffer l f) := by
  unfold State.bindOffer
  repeat' first
      | with_reducible assumption | with_reducible exact State.OnlyTouches.rfl' | with_reducible apply bindPeer_touches | split

theorem answerCreated_touches {l : LeaseIx} {x : Lease} (hports : Part.ports ∈ ps) (hslots : Part.slots ∈ ps)
    (hrooms : Part.rooms ∈ ps)
    (h : s₀.OnlyTouches ps s) : s₀.OnlyTouches ps (s.answerCreated l x) := by
  unfold State.answerCreated
  repeat' first
      | with_reducible assumption | with_reducible exact State.OnlyTouches.rfl' | with_reducible apply offer_touches
      | with_reducible apply raiseLease_touches | with_reducible apply choose_touches | split

theorem createLease_touches {l : LeaseIx} {x : Lease} (hrefs : Part.refs ∈ ps) (hports : Part.ports ∈ ps)
    (hleases : Part.leases ∈ ps) (hslots : Part.slots ∈ ps) (hrooms : Part.rooms ∈ ps) (hleaseCore : Part.leaseCore ∈ ps)
    (hportStates : Part.portStates ∈ ps)
    (h : s₀.OnlyTouches ps s) : s₀.OnlyTouches ps (s.createLease l x) := by
  unfold State.createLease
  dsimp only
  exact answerCreated_touches hports hslots hrooms (bindOffer_touches hrefs hslots hrooms (updPort_touches hports (fun _ => rfl)
    (Or.inl hportStates)
    (setLeaseSlot_touches hleases hleaseCore (setAlarm_touches hslots hrooms (s.alarm.retireLeaseRecords_tableOnly _ _) h))))

theorem joinAdmitted_touches {p : PortIx} {b : JoinBody} {w : Grade} {i : AdmIx} {a : Admission} (hrefs : Part.refs ∈ ps)
    (hports : Part.ports ∈ ps) (hleases : Part.leases ∈ ps) (hslots : Part.slots ∈ ps) (hrooms : Part.rooms ∈ ps)
    (hleaseCore : Part.leaseCore ∈ ps) (hportStates : Part.portStates ∈ ps)
    (h : s₀.OnlyTouches ps s) : s₀.OnlyTouches ps (s.joinAdmitted p b w i a) := by
  unfold State.joinAdmitted
  repeat' first
      | with_reducible assumption | with_reducible exact State.OnlyTouches.rfl' | with_reducible apply refuseJoin_touches
      | with_reducible apply raise_touches | with_reducible apply createLease_touches | split

theorem joinNew_touches {p : PortIx} {b : JoinBody} {w : Grade} (hrefs : Part.refs ∈ ps) (hports : Part.ports ∈ ps)
    (hleases : Part.leases ∈ ps) (hslots : Part.slots ∈ ps) (hrooms : Part.rooms ∈ ps) (hleaseCore : Part.leaseCore ∈ ps)
    (hportStates : Part.portStates ∈ ps)
    (h : s₀.OnlyTouches ps s) : s₀.OnlyTouches ps (s.joinNew p b w) := by
  unfold State.joinNew
  repeat' first
      | with_reducible assumption | with_reducible exact State.OnlyTouches.rfl' | with_reducible apply refuseJoin_touches
      | with_reducible apply joinAdmitted_touches | split

theorem takeJoin_touches {p : PortIx} {b : JoinBody} {w : Grade} (htb : Part.tb ∈ ps) (hports : Part.ports ∈ ps)
    (hleases : Part.leases ∈ ps) (houts : Part.outs ∈ ps) (hslots : Part.slots ∈ ps) (hrooms : Part.rooms ∈ ps)
    (hrefs : Part.refs ∈ ps) (hleaseCore : Part.leaseCore ∈ ps) (hportStates : Part.portStates ∈ ps)
    (h : s₀.OnlyTouches ps s) : s₀.OnlyTouches ps (s.takeJoin p b w) := by
  unfold State.takeJoin
  repeat' first
      | with_reducible assumption | with_reducible exact State.OnlyTouches.rfl' | with_reducible apply joinNew_touches
      | with_reducible apply rejoin_touches | with_reducible apply refuseDuplicate_touches | split

theorem joinReceived_touches {p : PortIx} {b : JoinBody} (htb : Part.tb ∈ ps) (hports : Part.ports ∈ ps)
    (hleases : Part.leases ∈ ps) (houts : Part.outs ∈ ps) (hslots : Part.slots ∈ ps) (hrooms : Part.rooms ∈ ps)
    (hrefs : Part.refs ∈ ps) (hleaseCore : Part.leaseCore ∈ ps) (hportStates : Part.portStates ∈ ps)
    (h : s₀.OnlyTouches ps s) : s₀.OnlyTouches ps (s.joinReceived p b) := by
  unfold State.joinReceived
  repeat' first
      | with_reducible assumption | with_reducible exact State.OnlyTouches.rfl' | with_reducible apply offer_touches
      | with_reducible apply takeJoin_touches | split

theorem deadlineExpires_touches {l : LeaseIx} (htb : Part.tb ∈ ps) (hports : Part.ports ∈ ps) (hleases : Part.leases ∈ ps)
    (houts : Part.outs ∈ ps) (hslots : Part.slots ∈ ps) (hrooms : Part.rooms ∈ ps) (hrefs : Part.refs ∈ ps)
    (hleaseCore : Part.leaseCore ∈ ps) (hportStates : Part.portStates ∈ ps)
    (h : s₀.OnlyTouches ps s) : s₀.OnlyTouches ps (s.deadlineExpires l) := by
  unfold State.deadlineExpires
  repeat' first
      | with_reducible assumption | with_reducible exact State.OnlyTouches.rfl' | with_reducible apply retireRefuse_touches
      | split

theorem reportAlarm_touches {l : LeaseIx} {x : Lease} (hslots : Part.slots ∈ ps) (hrooms : Part.rooms ∈ ps)
    (h : s₀.OnlyTouches ps s) : s₀.OnlyTouches ps (s.reportAlarm l x) := by
  unfold State.reportAlarm
  repeat' first
      | with_reducible assumption | with_reducible exact State.OnlyTouches.rfl' | with_reducible apply clearAlarm_touches
      | with_reducible apply raise_touches | split

theorem takeReport_touches {b : ReportBody} {l : LeaseIx} (hleases : Part.leases ∈ ps) (hslots : Part.slots ∈ ps)
    (hrooms : Part.rooms ∈ ps) (hleaseCore : Part.leaseCore ∈ ps)
    (h : s₀.OnlyTouches ps s) : s₀.OnlyTouches ps (s.takeReport b l) := by
  unfold State.takeReport
  try dsimp only
  repeat' first
      | with_reducible assumption | with_reducible exact State.OnlyTouches.rfl' | with_reducible apply moveLease_touches
      | with_reducible apply reportAlarm_touches | split

theorem takePeerMark_touches {b : PeerMarkBody} {l : LeaseIx} (htb : Part.tb ∈ ps) (hports : Part.ports ∈ ps)
    (hleases : Part.leases ∈ ps) (houts : Part.outs ∈ ps) (hslots : Part.slots ∈ ps) (hrooms : Part.rooms ∈ ps)
    (hrefs : Part.refs ∈ ps) (hwires : Part.wires ∈ ps) (hleaseCore : Part.leaseCore ∈ ps)
    (h : s₀.OnlyTouches ps s) : s₀.OnlyTouches ps (s.takePeerMark b l) := by
  unfold State.takePeerMark
  repeat' first
      | with_reducible assumption | with_reducible exact State.OnlyTouches.rfl' | with_reducible apply offer_touches
      | with_reducible apply peerMarked_touches | split

theorem takeDeparture_touches {p : PortIx} {d : DepartureReport} (htb : Part.tb ∈ ps) (hports : Part.ports ∈ ps)
    (hleases : Part.leases ∈ ps) (houts : Part.outs ∈ ps) (hslots : Part.slots ∈ ps) (hrooms : Part.rooms ∈ ps)
    (hrefs : Part.refs ∈ ps) (hleaseCore : Part.leaseCore ∈ ps) (hportStates : Part.portStates ∈ ps)
    (h : s₀.OnlyTouches ps s) : s₀.OnlyTouches ps (s.takeDeparture p d) := by
  unfold State.takeDeparture
  try dsimp only
  repeat' first
      | with_reducible assumption | with_reducible exact State.OnlyTouches.rfl' | exact Or.inl hportStates
      | with_reducible apply updPort_touches | with_reducible apply spendCredit_touches
      | with_reducible apply echoDeparted_touches | split | exact fun _ => rfl | rfl | (intro _; simp; done)

theorem deliverReport_touches {p : PortIx} {m : Bool} (htb : Part.tb ∈ ps) (hports : Part.ports ∈ ps)
    (hleases : Part.leases ∈ ps) (houts : Part.outs ∈ ps) (hslots : Part.slots ∈ ps) (hrooms : Part.rooms ∈ ps)
    (hrefs : Part.refs ∈ ps) (hleaseCore : Part.leaseCore ∈ ps) (hportStates : Part.portStates ∈ ps)
    (h : s₀.OnlyTouches ps s) : s₀.OnlyTouches ps (s.deliverReport p m) := by
  unfold State.deliverReport
  repeat' first
      | with_reducible assumption | with_reducible exact State.OnlyTouches.rfl' | with_reducible apply takeDeparture_touches
      | split

/-! ### Ports -/

theorem movePort_touches {p : PortIx} {st : PortState} (hports : Part.ports ∈ ps) (hportStates : Part.portStates ∈ ps)
    (h : s₀.OnlyTouches ps s) : s₀.OnlyTouches ps (s.movePort p st) := by
  unfold State.movePort
  try dsimp only
  repeat' first
      | with_reducible assumption | with_reducible exact State.OnlyTouches.rfl' | exact Or.inl hportStates
      | with_reducible apply updPort_touches | exact fun _ => rfl | rfl | (intro _; simp; done)

theorem raisePort_touches {p : PortIx} {k : AlarmKind} (hslots : Part.slots ∈ ps) (hrooms : Part.rooms ∈ ps)
    (h : s₀.OnlyTouches ps s) : s₀.OnlyTouches ps (s.raisePort p k) := by
  unfold State.raisePort
  repeat' first
      | with_reducible assumption | with_reducible exact State.OnlyTouches.rfl' | with_reducible apply raise_touches

theorem silencePort_touches {p : PortIx} (hports : Part.ports ∈ ps)
    (h : s₀.OnlyTouches ps s) : s₀.OnlyTouches ps (s.silencePort p) := by
  unfold State.silencePort
  repeat' first
      | with_reducible assumption | with_reducible exact State.OnlyTouches.rfl' | exact Or.inr rfl | exact Or.inr fun _ => rfl
      | (exact Or.inr fun _ => by simp) | with_reducible apply updPort_touches | with_reducible apply stopScanner_touches
      | exact fun _ => rfl | rfl | (intro _; simp; done)

theorem openPort_touches {p : PortIx} (hports : Part.ports ∈ ps) (hslots : Part.slots ∈ ps) (hrooms : Part.rooms ∈ ps)
    (hportStates : Part.portStates ∈ ps)
    (h : s₀.OnlyTouches ps s) : s₀.OnlyTouches ps (s.openPort p) := by
  unfold State.openPort
  repeat' first
      | with_reducible assumption | with_reducible exact State.OnlyTouches.rfl' | with_reducible apply movePort_touches
      | with_reducible apply raisePort_touches | split

theorem openAllPorts_touches (hports : Part.ports ∈ ps) (hslots : Part.slots ∈ ps) (hrooms : Part.rooms ∈ ps)
    (hportStates : Part.portStates ∈ ps)
    (h : s₀.OnlyTouches ps s) : s₀.OnlyTouches ps (s.openAllPorts) := by
  unfold State.openAllPorts
  try dsimp only
  repeat' first
      | with_reducible assumption | with_reducible exact State.OnlyTouches.rfl'
      | (with_reducible apply State.OnlyTouches.forAll; intro _ _) | with_reducible apply openPort_touches
      | with_reducible apply choose_touches

theorem lockGained_touches {p : PortIx} (hports : Part.ports ∈ ps) (hslots : Part.slots ∈ ps) (hrooms : Part.rooms ∈ ps)
    (hportStates : Part.portStates ∈ ps)
    (h : s₀.OnlyTouches ps s) : s₀.OnlyTouches ps (s.lockGained p) := by
  unfold State.lockGained
  try dsimp only
  repeat' first
      | with_reducible assumption | with_reducible exact State.OnlyTouches.rfl' | exact Or.inl hportStates
      | with_reducible apply updPort_touches | with_reducible apply movePort_touches | with_reducible apply clearAlarm_touches
      | with_reducible apply choose_touches | split | exact fun _ => rfl | rfl | (intro _; simp; done)

theorem lockLost_touches {p : PortIx} (htb : Part.tb ∈ ps) (hports : Part.ports ∈ ps) (hleases : Part.leases ∈ ps)
    (houts : Part.outs ∈ ps) (hslots : Part.slots ∈ ps) (hrooms : Part.rooms ∈ ps) (hrefs : Part.refs ∈ ps)
    (hleaseCore : Part.leaseCore ∈ ps) (hportStates : Part.portStates ∈ ps)
    (h : s₀.OnlyTouches ps s) : s₀.OnlyTouches ps (s.lockLost p) := by
  unfold State.lockLost
  try dsimp only
  repeat' first
      | with_reducible assumption | with_reducible exact State.OnlyTouches.rfl' | exact Or.inl hportStates
      | with_reducible apply updPort_touches | with_reducible apply movePort_touches | with_reducible apply silencePort_touches
      | with_reducible apply retirePort_touches | with_reducible apply raisePort_touches | split | exact fun _ => rfl | rfl
      | (intro _; simp; done)

theorem conflictLease_touches {l : LeaseIx} {x : Lease} (htb : Part.tb ∈ ps) (hports : Part.ports ∈ ps)
    (hleases : Part.leases ∈ ps) (houts : Part.outs ∈ ps) (hslots : Part.slots ∈ ps) (hrooms : Part.rooms ∈ ps)
    (hrefs : Part.refs ∈ ps) (hleaseCore : Part.leaseCore ∈ ps) (hportStates : Part.portStates ∈ ps)
    (h : s₀.OnlyTouches ps s) : s₀.OnlyTouches ps (s.conflictLease l x) := by
  unfold State.conflictLease
  try dsimp only
  repeat' first
      | with_reducible assumption | with_reducible exact State.OnlyTouches.rfl' | with_reducible apply retireRefuse_touches
      | with_reducible apply suspendMarked_touches | with_reducible apply moveLease_touches
      | with_reducible apply raiseLease_touches | split

theorem clearPending_touches {p : PortIx} (hslots : Part.slots ∈ ps) (hrooms : Part.rooms ∈ ps)
    (h : s₀.OnlyTouches ps s) : s₀.OnlyTouches ps (s.clearPending p) := by
  unfold State.clearPending
  repeat' first
      | with_reducible assumption | with_reducible exact State.OnlyTouches.rfl'
      | (with_reducible apply State.OnlyTouches.forAll; intro _ _) | with_reducible apply clearLeaseAlarms_touches | split

theorem conflictLeases_touches {p : PortIx} (htb : Part.tb ∈ ps) (hports : Part.ports ∈ ps) (hleases : Part.leases ∈ ps)
    (houts : Part.outs ∈ ps) (hslots : Part.slots ∈ ps) (hrooms : Part.rooms ∈ ps) (hrefs : Part.refs ∈ ps)
    (hleaseCore : Part.leaseCore ∈ ps) (hportStates : Part.portStates ∈ ps)
    (h : s₀.OnlyTouches ps s) : s₀.OnlyTouches ps (s.conflictLeases p) := by
  unfold State.conflictLeases
  repeat' first
      | with_reducible assumption | with_reducible exact State.OnlyTouches.rfl'
      | (with_reducible apply State.OnlyTouches.forAll; intro _ _) | with_reducible apply clearPending_touches
      | with_reducible apply conflictLease_touches | split

theorem hubFrame_touches {p : PortIx} (htb : Part.tb ∈ ps) (hports : Part.ports ∈ ps) (hleases : Part.leases ∈ ps)
    (houts : Part.outs ∈ ps) (hslots : Part.slots ∈ ps) (hrooms : Part.rooms ∈ ps) (hrefs : Part.refs ∈ ps)
    (hleaseCore : Part.leaseCore ∈ ps) (hportStates : Part.portStates ∈ ps)
    (h : s₀.OnlyTouches ps s) : s₀.OnlyTouches ps (s.hubFrame p) := by
  unfold State.hubFrame
  repeat' first
      | with_reducible assumption | with_reducible exact State.OnlyTouches.rfl' | with_reducible apply movePort_touches
      | with_reducible apply silencePort_touches | with_reducible apply conflictLeases_touches
      | with_reducible apply raisePort_touches | split

/-! ### Lane receivers -/

theorem forAddressed_touches {p : PortIx} {id : Byte} {f : LeaseIx → State → State}
    (hf : ∀ l t, State.OnlyTouches ps t (f l t)) (h : s₀.OnlyTouches ps s) : s₀.OnlyTouches ps (s.forAddressed p id f) := by
  unfold State.forAddressed
  split
  · exact h
  · exact h.trans (hf _ _)

theorem deliver_touches {p : PortIx} {c : Capture} {f : LaneFrame} (htb : Part.tb ∈ ps) (hports : Part.ports ∈ ps)
    (hleases : Part.leases ∈ ps) (houts : Part.outs ∈ ps) (hslots : Part.slots ∈ ps) (hrooms : Part.rooms ∈ ps)
    (hrefs : Part.refs ∈ ps) (hleaseCore : Part.leaseCore ∈ ps) (hportStates : Part.portStates ∈ ps)
    (hwires : Part.wires ∈ ps) (h : s₀.OnlyTouches ps s) : s₀.OnlyTouches ps (s.deliver p c f) := by
  unfold State.deliver
  repeat' first
      | with_reducible assumption | with_reducible exact State.OnlyTouches.rfl' | exact Or.inl hleaseCore
      | with_reducible apply joinReceived_touches | (with_reducible apply forAddressed_touches; intro _ _)
      | with_reducible apply updLease_touches | with_reducible apply retireNotice_touches
      | with_reducible apply takeReport_touches | with_reducible apply takePeerMark_touches
      | with_reducible apply echoBack_touches | with_reducible apply hubFrame_touches | split

theorem actLane_touches {p : PortIx} {e : LaneEvent} (htb : Part.tb ∈ ps) (hports : Part.ports ∈ ps)
    (hleases : Part.leases ∈ ps) (houts : Part.outs ∈ ps) (hslots : Part.slots ∈ ps) (hrooms : Part.rooms ∈ ps)
    (hrefs : Part.refs ∈ ps) (hleaseCore : Part.leaseCore ∈ ps) (hportStates : Part.portStates ∈ ps)
    (hwires : Part.wires ∈ ps) (h : s₀.OnlyTouches ps s) : s₀.OnlyTouches ps (s.actLane p e) := by
  unfold State.actLane
  repeat' first
      | with_reducible assumption | with_reducible apply lockGained_touches | with_reducible apply lockLost_touches
      | with_reducible apply deliver_touches | split

/-- What the symbols of a lane can touch: not the clock, a setting, the admission table, the management port, a pin. -/
theorem hear_touches {p : PortIx} {c : Nat → Capture} {xs : List RxSymbol} (hlanes : Part.lanes ∈ ps) (htb : Part.tb ∈ ps)
    (hports : Part.ports ∈ ps) (hleases : Part.leases ∈ ps) (houts : Part.outs ∈ ps) (hslots : Part.slots ∈ ps)
    (hrooms : Part.rooms ∈ ps) (hrefs : Part.refs ∈ ps) (hleaseCore : Part.leaseCore ∈ ps)
    (hportStates : Part.portStates ∈ ps) (hwires : Part.wires ∈ ps) (h : s₀.OnlyTouches ps s) :
    s₀.OnlyTouches ps (State.hear p c xs s) := by
  induction xs generalizing s with
  | nil => exact h
  | cons x xs ih =>
    refine ih ?_
    unfold State.hearSymbol
    repeat' first
        | with_reducible assumption | with_reducible apply actLane_touches | with_reducible apply setLane_touches

theorem reopenConflict_touches {p : PortIx} (htb : Part.tb ∈ ps) (hports : Part.ports ∈ ps) (hleases : Part.leases ∈ ps)
    (houts : Part.outs ∈ ps) (hslots : Part.slots ∈ ps) (hrooms : Part.rooms ∈ ps) (hrefs : Part.refs ∈ ps)
    (hleaseCore : Part.leaseCore ∈ ps) (hportStates : Part.portStates ∈ ps)
    (h : s₀.OnlyTouches ps s) : s₀.OnlyTouches ps (s.reopenConflict p) := by
  unfold State.reopenConflict
  try dsimp only
  repeat' first
      | with_reducible assumption | with_reducible exact State.OnlyTouches.rfl'
      | (with_reducible apply State.OnlyTouches.forAll; intro _ _) | with_reducible apply resumeLease_touches
      | with_reducible apply movePort_touches | with_reducible apply clearAlarm_touches | with_reducible apply choose_touches
      | with_reducible apply retirePort_touches | with_reducible apply raisePort_touches | split

theorem closePort_touches {p : PortIx} (htb : Part.tb ∈ ps) (hports : Part.ports ∈ ps) (hleases : Part.leases ∈ ps)
    (houts : Part.outs ∈ ps) (hslots : Part.slots ∈ ps) (hrooms : Part.rooms ∈ ps) (hrefs : Part.refs ∈ ps)
    (hleaseCore : Part.leaseCore ∈ ps) (hportStates : Part.portStates ∈ ps)
    (h : s₀.OnlyTouches ps s) : s₀.OnlyTouches ps (s.closePort p) := by
  unfold State.closePort
  try dsimp only
  repeat' first
      | with_reducible assumption | with_reducible exact State.OnlyTouches.rfl' | with_reducible apply movePort_touches
      | with_reducible apply silencePort_touches | with_reducible apply retirePort_touches
      | with_reducible apply clearAlarm_touches | split

theorem frameDeparts_touches {p : PortIx} (hports : Part.ports ∈ ps) (hleases : Part.leases ∈ ps)
    (h : s₀.OnlyTouches ps s) : s₀.OnlyTouches ps (s.frameDeparts p) := by
  unfold State.frameDeparts
  try dsimp only
  repeat' first
      | with_reducible assumption | with_reducible exact State.OnlyTouches.rfl' | exact Or.inr rfl | exact Or.inr fun _ => rfl
      | (exact Or.inr fun _ => by simp) | with_reducible apply setPort_touches | with_reducible apply roomInQueue_touches
      | split | exact fun _ => rfl | rfl | (intro _; simp; done)

theorem emitSymbol_touches {p : PortIx} {e : SymbolEntry} (hrefs : Part.refs ∈ ps) (hports : Part.ports ∈ ps)
    (hleases : Part.leases ∈ ps) (hleaseCore : Part.leaseCore ∈ ps)
    (h : s₀.OnlyTouches ps s) : s₀.OnlyTouches ps (s.emitSymbol p e) := by
  unfold State.emitSymbol
  try dsimp only
  repeat' first
      | with_reducible assumption | with_reducible exact State.OnlyTouches.rfl' | exact Or.inr rfl | exact Or.inr fun _ => rfl
      | (exact Or.inr fun _ => by simp) | exact Or.inl hleaseCore | with_reducible apply updPort_touches
      | with_reducible apply updLease_touches | with_reducible apply firstSymbol_touches | with_reducible apply offer_touches
      | split | exact fun _ => rfl | rfl | (intro _; simp; done)

theorem symbolDue_touches {p : PortIx} (hrefs : Part.refs ∈ ps) (hports : Part.ports ∈ ps) (hleases : Part.leases ∈ ps)
    (hleaseCore : Part.leaseCore ∈ ps)
    (h : s₀.OnlyTouches ps s) : s₀.OnlyTouches ps (s.symbolDue p) := by
  unfold State.symbolDue
  repeat' first
      | with_reducible assumption | with_reducible exact State.OnlyTouches.rfl' | with_reducible apply emitSymbol_touches
      | split

theorem queueMarks_touches {n : Nat} (hports : Part.ports ∈ ps)
    (h : s₀.OnlyTouches ps s) : s₀.OnlyTouches ps (s.queueMarks n) := by
  unfold State.queueMarks
  try dsimp only
  repeat' first
      | with_reducible assumption | with_reducible exact State.OnlyTouches.rfl'
      | (with_reducible apply State.OnlyTouches.forAll; intro _ _) | with_reducible apply offer_touches | split

theorem scheduleSymbols_touches {n : Nat} (hports : Part.ports ∈ ps)
    (h : s₀.OnlyTouches ps s) : s₀.OnlyTouches ps (s.scheduleSymbols n) := by
  unfold State.scheduleSymbols
  try dsimp only
  repeat' first
      | with_reducible assumption | with_reducible exact State.OnlyTouches.rfl' | exact Or.inr rfl | exact Or.inr fun _ => rfl
      | (exact Or.inr fun _ => by simp) | (with_reducible apply State.OnlyTouches.forAll; intro _ _)
      | with_reducible apply updPort_touches | split | exact fun _ => rfl | rfl | (intro _; simp; done)

theorem reachSecond_touches {n : Nat} (htb : Part.tb ∈ ps) (hports : Part.ports ∈ ps) (hleases : Part.leases ∈ ps)
    (houts : Part.outs ∈ ps) (hslots : Part.slots ∈ ps) (hrooms : Part.rooms ∈ ps) (hrefs : Part.refs ∈ ps)
    (hleaseCore : Part.leaseCore ∈ ps)
    (h : s₀.OnlyTouches ps s) : s₀.OnlyTouches ps (s.reachSecond n) := by
  unfold State.reachSecond
  try dsimp only
  repeat' first
      | with_reducible assumption | with_reducible exact State.OnlyTouches.rfl' | with_reducible apply updTb_touches
      | with_reducible apply queueMarks_touches | with_reducible apply scheduleSymbols_touches
      | with_reducible apply checkConsistency_touches | split | exact fun _ => rfl | rfl | (intro _; simp; done)

theorem boundaryIfDue_touches (htb : Part.tb ∈ ps) (hports : Part.ports ∈ ps) (hleases : Part.leases ∈ ps)
    (houts : Part.outs ∈ ps) (hslots : Part.slots ∈ ps) (hrooms : Part.rooms ∈ ps) (hrefs : Part.refs ∈ ps)
    (hleaseCore : Part.leaseCore ∈ ps)
    (h : s₀.OnlyTouches ps s) : s₀.OnlyTouches ps (s.boundaryIfDue) := by
  unfold State.boundaryIfDue
  repeat' first
      | with_reducible assumption | with_reducible exact State.OnlyTouches.rfl' | with_reducible apply reachSecond_touches
      | split

theorem raiseStandings_touches {l : LeaseIx} {x : Lease} (hslots : Part.slots ∈ ps) (hrooms : Part.rooms ∈ ps)
    (h : s₀.OnlyTouches ps s) : s₀.OnlyTouches ps (s.raiseStandings l x) := by
  unfold State.raiseStandings
  try dsimp only
  repeat' first
      | with_reducible assumption | with_reducible exact State.OnlyTouches.rfl' | with_reducible apply raiseLease_touches
      | with_reducible apply delayJump_touches | with_reducible apply reportAlarm_touches | split

theorem roomLeases_touches (hslots : Part.slots ∈ ps) (hrooms : Part.rooms ∈ ps)
    (h : s₀.OnlyTouches ps s) : s₀.OnlyTouches ps (s.roomLeases) := by
  unfold State.roomLeases
  try dsimp only
  repeat' first
      | with_reducible assumption | with_reducible exact State.OnlyTouches.rfl'
      | (with_reducible apply State.OnlyTouches.forAll; intro _ _) | with_reducible apply raiseStandings_touches
      | with_reducible apply raise_touches | split

theorem roomReferences_touches (hslots : Part.slots ∈ ps) (hrooms : Part.rooms ∈ ps)
    (h : s₀.OnlyTouches ps s) : s₀.OnlyTouches ps (s.roomReferences) := by
  unfold State.roomReferences
  try dsimp only
  repeat' first
      | with_reducible assumption | with_reducible exact State.OnlyTouches.rfl'
      | (with_reducible apply State.OnlyTouches.forAll; intro _ _) | with_reducible apply raiseRef_touches | split

theorem roomPorts_touches (hslots : Part.slots ∈ ps) (hrooms : Part.rooms ∈ ps)
    (h : s₀.OnlyTouches ps s) : s₀.OnlyTouches ps (s.roomPorts) := by
  unfold State.roomPorts
  try dsimp only
  repeat' first
      | with_reducible assumption | with_reducible exact State.OnlyTouches.rfl'
      | (with_reducible apply State.OnlyTouches.forAll; intro _ _) | with_reducible apply raisePort_touches | split

theorem roomOutputs_touches (hslots : Part.slots ∈ ps) (hrooms : Part.rooms ∈ ps)
    (h : s₀.OnlyTouches ps s) : s₀.OnlyTouches ps (s.roomOutputs) := by
  unfold State.roomOutputs
  try dsimp only
  repeat' first
      | with_reducible assumption | with_reducible exact State.OnlyTouches.rfl'
      | (with_reducible apply State.OnlyTouches.forAll; intro _ _) | with_reducible apply raise_touches | split

theorem roomTimebase_touches (hslots : Part.slots ∈ ps) (hrooms : Part.rooms ∈ ps)
    (h : s₀.OnlyTouches ps s) : s₀.OnlyTouches ps (s.roomTimebase) := by
  unfold State.roomTimebase
  repeat' first
      | with_reducible assumption | with_reducible exact State.OnlyTouches.rfl' | with_reducible apply raiseFreeRun_touches
      | with_reducible apply raiseHoldover_touches | split

theorem roomAt_touches {b : Block} (hslots : Part.slots ∈ ps) (hrooms : Part.rooms ∈ ps)
    (h : s₀.OnlyTouches ps s) : s₀.OnlyTouches ps (s.roomAt b) := by
  cases b
  · exact roomTimebase_touches hslots hrooms h
  · exact roomReferences_touches hslots hrooms h
  · exact roomLeases_touches hslots hrooms h
  · exact roomPorts_touches hslots hrooms h
  · exact roomOutputs_touches hslots hrooms h

theorem takeRoom_touches {b : Block} (hslots : Part.slots ∈ ps) (hrooms : Part.rooms ∈ ps)
    (h : s₀.OnlyTouches ps s) : s₀.OnlyTouches ps (s.takeRoom b) := by
  unfold State.takeRoom
  split
  · exact roomAt_touches hslots hrooms (setAlarm_touches hslots hrooms (by simp [AlarmUnit.TableOnly]) h)
  · exact h

end Sys2Proof.Machine
end

