-- ==== Sys2Proof/Laws/Exec.lean ====
section
/-! SUPPORT. What a command does around its own effect: time passes, the effect acts, ATTN and the lines settle; and how a request is
carried, checked and answered. -/
namespace Sys2Proof.Machine
open Sys2Proof

variable {s t : State} {ps : List Part}

/-! ### Reading a frame -/

namespace State.OnlyTouches

theorem clock (h : s.OnlyTouches ps t) (hp : Part.clock ∉ ps) : t.clock = s.clock := h _ hp
theorem tb (h : s.OnlyTouches ps t) (hp : Part.tb ∉ ps) : t.tb = s.tb := h _ hp
theorem wires (h : s.OnlyTouches ps t) (hp : Part.wires ∉ ps) : t.wires = s.wires := h _ hp
theorem ref (h : s.OnlyTouches ps t) (hp : Part.refs ∉ ps) (i : RefIx) : t.ref i = s.ref i := by
  have := h _ hp; simp_all [State.Same, State.ref]
theorem port (h : s.OnlyTouches ps t) (hp : Part.ports ∉ ps) (p : PortIx) : t.port p = s.port p := by
  have := h _ hp; simp_all [State.Same, State.port]
theorem standing (h : s.OnlyTouches ps t) (hp : Part.portStates ∉ ps) (p : PortIx) :
    (t.port p).standing = (s.port p).standing := h _ hp p
theorem lane (h : s.OnlyTouches ps t) (hp : Part.lanes ∉ ps) (p : PortIx) : t.lane p = s.lane p := by
  have := h _ hp; simp_all [State.Same, State.lane]
theorem slot (h : s.OnlyTouches ps t) (hp : Part.leases ∉ ps) (l : LeaseIx) : t.slot l = s.slot l := by
  have := h _ hp; simp_all [State.Same, State.slot]
theorem lease (h : s.OnlyTouches ps t) (hp : Part.leases ∉ ps) (l : LeaseIx) : t.lease l = s.lease l := by
  simp [State.lease, h.slot hp l]
theorem core (h : s.OnlyTouches ps t) (hp : Part.leaseCore ∉ ps) (l : LeaseIx) :
    (t.slot l).rev = (s.slot l).rev ∧ (t.lease l).map Lease.core = (s.lease l).map Lease.core := h _ hp l
theorem admissionSlot (h : s.OnlyTouches ps t) (hp : Part.admission ∉ ps) (i : AdmIx) :
    t.admissionSlot i = s.admissionSlot i := by
  have := h _ hp; simp_all [State.Same, State.admissionSlot]
theorem out (h : s.OnlyTouches ps t) (hp : Part.outs ∉ ps) (i : OutIx) : t.out i = s.out i := by
  have := h _ hp; simp_all [State.Same, State.out]
theorem mgmt (h : s.OnlyTouches ps t) (hp : Part.mgmt ∉ ps) : t.mgmt = s.mgmt := h _ hp
theorem setup (h : s.OnlyTouches ps t) (hp : Part.setup ∉ ps) : t.mgmt.setup = s.mgmt.setup := h _ hp
theorem resetLow (h : s.OnlyTouches ps t) (hp : Part.resetLow ∉ ps) : t.resetLow = s.resetLow := h _ hp
theorem pending (h : s.OnlyTouches ps t) (hp : Part.pending ∉ ps) : t.pending = s.pending := h _ hp

end State.OnlyTouches

/-! ### Events -/

theorem event_high {dt : Nat} {f : State → State} (h : s.resetLow = false) :
    event dt f s = .next (f (s.elapse dt)).settle := by simp [event, h]

theorem event_low {dt : Nat} {f : State → State} (h : s.resetLow = true) : event dt f s = .next s := by simp [event, h]

@[simp] theorem settle_attnNow (s : State) : s.settle.alarm.attnNow = s.alarm.attnNow := rfl

@[simp] theorem settle_lineNow (s : State) (l : AlarmLine) : s.settle.lineNow l = s.lineNow l := by
  unfold State.lineNow; dsimp only; split <;> rfl

/-- A line driven again holds the level and pin it should: evaluation reads the line's settings only. -/
@[simp] theorem lineDriven_lineNow (s : State) (l : AlarmLine) : s.lineNow (s.lineDriven l) = s.lineNow l := rfl

@[simp] theorem lineDriven_pinFor (s : State) (l : AlarmLine) (b : Bool) : (s.lineDriven l).pinFor b = l.pinFor b := rfl

/-- ATTN, the lines and the pins agree with the table after settling (09:R161, R163). -/
theorem settle_pinsAgree (s : State) : s.settle.PinsAgree := by
  refine ⟨rfl, rfl, fun i => ?_⟩
  simp only [settle_alarm_lines, settle_lineNow, lineDriven_lineNow, lineDriven_pinFor]
  exact ⟨rfl, rfl⟩

/-! ### Requests -/

/-- A request whose command acts now acts on the state at the event's instant, the management port apart. -/
theorem request_acts {x : Executing} {stage : Stage} {act : Executing → State → State} (dt : Nat)
    (h : s.RequestActs x stage) :
    ∃ m : Mgmt, m.setup = s.mgmt.setup ∧ m.executing = some x ∧
      request dt x stage act s = .next (act x ((s.elapse dt).setMgmt m)).settle := by
  obtain ⟨hr, ⟨rfl, he, hl⟩ | ⟨rfl, he⟩⟩ := h
  · refine ⟨{ executing := some x, lastAnswer := none, setup := s.mgmt.setup,
              miso := misoBytes s.mgmt.statusByte [] x.req.clocked, takenAt := s.clock.osc + dt }, rfl, rfl, ?_⟩
    have ht : (s.elapse dt).takesRequest x.req = true := by simp [State.takesRequest, he, hl]
    rw [request, event_high hr]
    simp only [State.carryRequest, State.takeRequest, ht, if_true, State.showMiso]
    rfl
  · refine ⟨s.mgmt, rfl, he, ?_⟩
    rw [request, event_high hr]
    simp only [State.carryRequest, State.actRequest, elapse_mgmt, he, if_true]
    rfl

/-! ### Frames of the management port -/

variable {s₀ : State}

theorem showMiso_touches {c : List Byte} {n : Nat} (hmgmt : Part.mgmt ∈ ps) (h : s₀.OnlyTouches ps s) :
    s₀.OnlyTouches ps (s.showMiso c n) := setMgmt_touches hmgmt rfl h

theorem takeRequest_touches {x : Executing} (hmgmt : Part.mgmt ∈ ps) (h : s₀.OnlyTouches ps s) :
    s₀.OnlyTouches ps (s.takeRequest x) := by
  unfold State.takeRequest
  dsimp only
  split
  · exact setMgmt_touches hmgmt rfl (showMiso_touches hmgmt h)
  · exact showMiso_touches hmgmt h

theorem reply_touches {a : State → Answer} (hmgmt : Part.mgmt ∈ ps) (hpins : Part.pins ∈ ps) (h : s₀.OnlyTouches ps s) :
    s₀.OnlyTouches ps (s.reply a) := setMgmt_touches hmgmt rfl (settle_touches hpins h)

theorem refuse_touches {x : Executing} {c : AnswerCode} (hmgmt : Part.mgmt ∈ ps) (hpins : Part.pins ∈ ps)
    (h : s₀.OnlyTouches ps s) : s₀.OnlyTouches ps (s.refuse x c) := reply_touches hmgmt hpins h

theorem doneForm_touches {x : Executing} {t : Table} {k : Nat} {f : Byte} (hmgmt : Part.mgmt ∈ ps) (hpins : Part.pins ∈ ps)
    (h : s₀.OnlyTouches ps s) : s₀.OnlyTouches ps (s.doneForm x t k f) := reply_touches hmgmt hpins h

theorem done_touches {x : Executing} {t : Table} {k : Nat} (hmgmt : Part.mgmt ∈ ps) (hpins : Part.pins ∈ ps)
    (h : s₀.OnlyTouches ps s) : s₀.OnlyTouches ps (s.done x t k) := reply_touches hmgmt hpins h

theorem doneSlot_touches {x : Executing} {t : Table} {k : Nat} (hmgmt : Part.mgmt ∈ ps) (hpins : Part.pins ∈ ps)
    (h : s₀.OnlyTouches ps s) : s₀.OnlyTouches ps (s.doneSlot x t k) := reply_touches hmgmt hpins h

theorem doneStatus_touches {x : Executing} (hmgmt : Part.mgmt ∈ ps) (hpins : Part.pins ∈ ps)
    (h : s₀.OnlyTouches ps s) : s₀.OnlyTouches ps (s.doneStatus x) := reply_touches hmgmt hpins h

theorem setMgmt_frame {m : Mgmt} (hm : m.setup = s.mgmt.setup) : s.OnlyTouches [.mgmt, .pins] (s.setMgmt m) :=
  setMgmt_touches (by simp) hm State.OnlyTouches.rfl'

/-! ### What a reply leaves -/

/-- The answer of a reply is formed from the settled state, which differs from the state after the command in nothing an answer
reads. -/
theorem reply_answered (s : State) (a : State → Answer) : (s.reply a).settle.Answered (a s.settle) := ⟨rfl, rfl⟩

end Sys2Proof.Machine
end

