-- ==== Sys2Proof/Laws/Dispatch.lean ====
section
/-! SUPPORT. What each command is: its arm of `exec` and its meaning, opened once. -/
namespace Sys2Proof.Machine
open Sys2Proof

variable {s : State}

theorem exec_resetN :
    exec .resetN s =
      .next { s.restarted with resetLow := true } := rfl

theorem exec_resetNRelease (dt : Nat) :
    exec (.resetNRelease dt) s =
      .next (if s.resetLow then s.restarted else (s.elapse dt).settle) := rfl

theorem exec_runSecond (dt : Nat) :
    exec (.runSecond dt) s =
      event dt State.runSecondIfDue s := rfl

theorem exec_siteSecondBoundary (dt : Nat) :
    exec (.siteSecondBoundary dt) s =
      event dt State.boundaryIfDue s := rfl

theorem exec_referenceEdge (dt : Nat) (i : Fin 4) (edge : Edge) :
    exec (.referenceEdge dt i edge) s =
      event dt (fun t => t.pulseEdge (pulseEntry i) edge) s := rfl

theorem exec_labelFrame (dt : Nat) (i : Fin 4) (first : LabelChar) (rest : List LineChar) :
    exec (.labelFrame dt i first rest) s = event dt (fun t => t.labelFrame (pulseEntry i) first rest) s := rfl

theorem exec_linePulse (dt : Nat) (l : LineInput) :
    exec (.linePulse dt l) s =
      event dt (fun t => t.linePulse l) s := rfl

theorem exec_assistMeasurement (dt : Nat) :
    exec (.assistMeasurement dt) s =
      event dt State.deliverMeasurement s := rfl

theorem exec_timebaseSample (dt : Nat) :
    exec (.timebaseSample dt) s =
      event dt State.deliverSample s := rfl

theorem exec_missingSampleTimerExpiry (dt : Nat) (i : RefIx) :
    exec (.missingSampleTimerExpiry dt i) s =
      event dt (fun t => t.missingExpires i) s := rfl

theorem exec_holdOffExpiry (dt : Nat) (i : RefIx) :
    exec (.holdOffExpiry dt i) s =
      event dt (fun t => t.holdOffExpires i) s := rfl

theorem exec_faultScoreDecay (dt : Nat) (i : RefIx) :
    exec (.faultScoreDecay dt i) s =
      event dt (fun t => t.scoreDecays i) s := rfl

theorem exec_revertiveSwitch (dt : Nat) :
    exec (.revertiveSwitch dt) s =
      event dt State.switchIfDue s := rfl

theorem exec_laneLockGained (dt : Nat) (p : PortIx) (heard : List RxSymbol) (last : LineSymbol) :
    exec (.laneLockGained dt ⟨p, heard, last⟩) s = laneEvent dt p (heard ++ [some last]) s := rfl

theorem exec_laneLockLost (dt : Nat) (p : PortIx) (heard : List RxSymbol) :
    exec (.laneLockLost dt ⟨p, heard⟩) s = laneEvent dt p (heard ++ [none]) s := rfl

theorem exec_join (dt : Nat) (lane : Lane) (body : JoinBody) :
    exec (.join dt lane body) s = frameEvent dt lane (.join body) s := rfl

theorem exec_renew (dt : Nat) (lane : Lane) (lease : Byte) :
    exec (.renew dt lane lease) s = frameEvent dt lane (.renew lease) s := rfl

theorem exec_leave (dt : Nat) (lane : Lane) (lease : Byte) :
    exec (.leave dt lane lease) s = frameEvent dt lane (.leave lease) s := rfl

theorem exec_report (dt : Nat) (lane : Lane) (body : ReportBody) :
    exec (.report dt lane body) s = frameEvent dt lane (.report body) s := rfl

theorem exec_peerMark (dt : Nat) (lane : Lane) (body : PeerMarkBody) :
    exec (.peerMark dt lane body) s = frameEvent dt lane (.peerMark body) s := rfl

theorem exec_echoBack (dt : Nat) (lane : Lane) (lease number : Byte) :
    exec (.echoBack dt lane lease number) s = frameEvent dt lane (.echoBack ⟨lease, number⟩) s := rfl

theorem exec_hubFrameReceived (dt : Nat) (lane : Lane) (kind : HubKind) (body : List Byte) :
    exec (.hubFrameReceived dt lane ⟨kind, body⟩) s = frameEvent dt lane (.hub kind body) s := rfl

theorem exec_frameDeparture (dt : Nat) (p : PortIx) :
    exec (.frameDeparture dt p) s =
      event dt (fun t => t.frameDeparts p) s := rfl

theorem exec_markDeparture (dt : Nat) (p : PortIx) :
    exec (.markDeparture dt p) s =
      event dt (fun t => t.deliverReport p true) s := rfl

theorem exec_echoDeparture (dt : Nat) (p : PortIx) :
    exec (.echoDeparture dt p) s =
      event dt (fun t => t.deliverReport p false) s := rfl

theorem exec_echoTimerExpiry (dt : Nat) (p : PortIx) :
    exec (.echoTimerExpiry dt p) s =
      event dt (fun t => t.echoTimerExpires p) s := rfl

theorem exec_boundarySymbolEmission (dt : Nat) (p : PortIx) :
    exec (.boundarySymbolEmission dt p) s =
      event dt (fun t => t.symbolDue p) s := rfl

theorem exec_routineBatchDue (dt : Nat) (p : PortIx) :
    exec (.routineBatchDue dt p) s =
      event dt (fun t => t.routineFallsDue p) s := rfl

theorem exec_approvalDeadlineExpiry (dt : Nat) (l : LeaseIx) :
    exec (.approvalDeadlineExpiry dt l) s =
      event dt (fun t => t.deadlineExpires l) s := rfl

theorem exec_outputRisingEdge (dt : Nat) (i : OutIx) :
    exec (.outputRisingEdge dt i) s =
      event dt (fun t => t.updOut i fun o => o.rising t.tb.siteTime) s := rfl

theorem exec_outputFall (dt : Nat) (i : OutIx) :
    exec (.outputFall dt i) s =
      event dt (fun t => t.updOut i Output.fallen) s := rfl

theorem exec_roomAnnouncement (dt : Nat) (b : Block) :
    exec (.roomAnnouncement dt b) s =
      event dt (fun t => t.takeRoom b) s := rfl

theorem exec_statusPoll (dt : Nat) (first : Byte) (extra : Nat) :
    exec (.statusPoll dt first extra) s =
      event dt (fun t => t.statusPoll first extra) s := rfl

theorem exec_answerTransaction (dt clocked : Nat) :
    exec (.answerTransaction dt clocked) s =
      event dt (fun t => t.answerTransaction clocked) s := rfl

theorem exec_unknownRequest (dt : Nat) (kind table : Byte) (req : Request) (stage : Stage) :
    exec (.unknownRequest dt kind table req stage) s =
      if requestKnown kind table req then event dt (fun t => t) s else request dt ⟨kind, table, req⟩ stage actUnknown s := rfl

theorem exec_look (dt : Nat) (t : Table) (req : Request) (stage : Stage) :
    exec (.look dt t req stage) s =
      request dt ⟨0x01, BitVec.ofNat 8 t.code, req⟩ stage (actLook t) s := rfl

theorem exec_next (dt : Nat) (t : Table) (req : Request) (stage : Stage) :
    exec (.next dt t req stage) s =
      request dt ⟨0x02, BitVec.ofNat 8 t.code, req⟩ stage (actNext t) s := rfl

theorem exec_changeTimebase (dt : Nat) (req : Request) (stage : Stage) :
    exec (.changeTimebase dt req stage) s =
      request dt ⟨0x03, 0x01, req⟩ stage actChangeTimebase s := rfl

theorem exec_changeReference (dt : Nat) (req : Request) (stage : Stage) :
    exec (.changeReference dt req stage) s =
      request dt ⟨0x03, 0x02, req⟩ stage actChangeReference s := rfl

theorem exec_changeAdmission (dt : Nat) (req : Request) (stage : Stage) :
    exec (.changeAdmission dt req stage) s =
      request dt ⟨0x03, 0x03, req⟩ stage actChangeAdmission s := rfl

theorem exec_changeLease (dt : Nat) (req : Request) (stage : Stage) :
    exec (.changeLease dt req stage) s =
      request dt ⟨0x03, 0x04, req⟩ stage actChangeLease s := rfl

theorem exec_changePort (dt : Nat) (req : Request) (stage : Stage) :
    exec (.changePort dt req stage) s =
      request dt ⟨0x03, 0x05, req⟩ stage actChangePort s := rfl

theorem exec_changeOutput (dt : Nat) (req : Request) (stage : Stage) :
    exec (.changeOutput dt req stage) s =
      request dt ⟨0x03, 0x06, req⟩ stage actChangeOutput s := rfl

theorem exec_changeAlarmKind (dt : Nat) (req : Request) (stage : Stage) :
    exec (.changeAlarmKind dt req stage) s =
      request dt ⟨0x03, 0x08, req⟩ stage actChangeAlarmKind s := rfl

theorem exec_changeAlarmUnit (dt : Nat) (req : Request) (stage : Stage) :
    exec (.changeAlarmUnit dt req stage) s =
      request dt ⟨0x03, 0x0A, req⟩ stage actChangeAlarmUnit s := rfl

theorem exec_changeAlarmLine (dt : Nat) (req : Request) (stage : Stage) :
    exec (.changeAlarmLine dt req stage) s =
      request dt ⟨0x03, 0x09, req⟩ stage actChangeAlarmLine s := rfl

theorem exec_create (dt : Nat) (req : Request) (stage : Stage) :
    exec (.create dt req stage) s =
      request dt ⟨0x04, 0x03, req⟩ stage actCreate s := rfl

theorem exec_retireAdmission (dt : Nat) (req : Request) (stage : Stage) :
    exec (.retireAdmission dt req stage) s =
      request dt ⟨0x05, 0x03, req⟩ stage actRetireAdmission s := rfl

theorem exec_retireLease (dt : Nat) (req : Request) (stage : Stage) :
    exec (.retireLease dt req stage) s =
      request dt ⟨0x05, 0x04, req⟩ stage actRetireLease s := rfl

theorem exec_approve (dt : Nat) (req : Request) (stage : Stage) :
    exec (.approve dt req stage) s =
      request dt ⟨0x06, 0x04, req⟩ stage actApprove s := rfl

theorem exec_deny (dt : Nat) (req : Request) (stage : Stage) :
    exec (.deny dt req stage) s =
      request dt ⟨0x07, 0x04, req⟩ stage actDeny s := rfl

theorem exec_suspend (dt : Nat) (req : Request) (stage : Stage) :
    exec (.suspend dt req stage) s =
      request dt ⟨0x08, 0x04, req⟩ stage actSuspend s := rfl

theorem exec_resume (dt : Nat) (req : Request) (stage : Stage) :
    exec (.resume dt req stage) s =
      request dt ⟨0x09, 0x04, req⟩ stage actResume s := rfl

theorem exec_measure (dt : Nat) (req : Request) (stage : Stage) :
    exec (.measure dt req stage) s =
      request dt ⟨0x0A, 0x04, req⟩ stage actMeasure s := rfl

theorem exec_ack (dt : Nat) (req : Request) (stage : Stage) :
    exec (.ack dt req stage) s =
      request dt ⟨0x0B, 0x07, req⟩ stage actAck s := rfl

theorem exec_ackAll (dt : Nat) (req : Request) (stage : Stage) :
    exec (.ackAll dt req stage) s =
      request dt ⟨0x0C, 0x07, req⟩ stage actAckAll s := rfl

theorem exec_clearLockout (dt : Nat) (req : Request) (stage : Stage) :
    exec (.clearLockout dt req stage) s =
      request dt ⟨0x0D, 0x02, req⟩ stage actClearLockout s := rfl

theorem exec_force (dt : Nat) (req : Request) (stage : Stage) :
    exec (.force dt req stage) s =
      request dt ⟨0x0E, 0x02, req⟩ stage actForce s := rfl

theorem exec_release (dt : Nat) (req : Request) (stage : Stage) :
    exec (.release dt req stage) s =
      request dt ⟨0x0F, 0x01, req⟩ stage actRelease s := rfl

theorem exec_reopen (dt : Nat) (req : Request) (stage : Stage) :
    exec (.reopen dt req stage) s =
      request dt ⟨0x10, 0x05, req⟩ stage actReopen s := rfl

theorem exec_close (dt : Nat) (req : Request) (stage : Stage) :
    exec (.close dt req stage) s =
      request dt ⟨0x11, 0x05, req⟩ stage actClose s := rfl

theorem exec_closeSetup (dt : Nat) (table : Byte) (req : Request) (stage : Stage) :
    exec (.closeSetup dt table req stage) s =
      request dt ⟨0x12, table, req⟩ stage actCloseSetup s := rfl

theorem exec_restart (dt : Nat) (table : Byte) (req : Request) (stage : Stage) :
    exec (.restart dt table req stage) s =
      request dt ⟨0x13, table, req⟩ stage actRestart s := rfl

theorem exec_status (dt : Nat) (table : Byte) (req : Request) (stage : Stage) :
    exec (.status dt table req stage) s =
      request dt ⟨0x14, table, req⟩ stage actStatus s := rfl

end Sys2Proof.Machine
end

