-- ==== Sys2Proof/Laws/Lanes.lean ====
section
/-! SUPPORT. Frames and labels on the wire: what a frame's coding says of its length and reads back as, what a lane receiver does with
the symbols of a frame, and what a label receiver does with a character. -/
namespace Sys2Proof

@[simp] theorem length_beBytes (n v : Nat) : (beBytes n v).length = n := by
  induction n generalizing v with
  | zero => rfl
  | succ n ih => simp [beBytes, ih]

theorem beNat_beBytes_two (x : BitVec 16) : BitVec.ofNat 16 (beNat (beBytes 2 x.toNat)) = x := by
  apply BitVec.eq_of_toNat_eq
  have := x.isLt
  simp [beNat, beBytes]
  omega

theorem beNat_beBytes (n v : Nat) (h : v < 256 ^ n) : beNat (beBytes n v) = v := by
  induction n generalizing v with
  | zero => simp [beBytes, beNat] at *; omega
  | succ n ih =>
    have hv : v / 256 < 256 ^ n := by rw [Nat.div_lt_iff_lt_mul (by decide), ← Nat.pow_succ]; exact h
    have := ih _ hv
    simp only [beNat] at this
    simp only [beBytes, beNat, List.foldl_append, this, List.foldl_cons, List.foldl_nil, BitVec.toNat_ofNat]
    omega

/-- A value of up to `n` bytes, read back from them. -/
theorem ofNat_beNat_beBytes {w : Nat} (n : Nat) (h : w ≤ 8 * n) (x : BitVec w) :
    BitVec.ofNat w (beNat (beBytes n x.toNat)) = x := by
  rw [beNat_beBytes n]
  · simp
  · calc x.toNat < 2 ^ w := x.isLt
      _ ≤ 2 ^ (8 * n) := Nat.pow_le_pow_right (by decide) h
      _ = 256 ^ n := by rw [Nat.pow_mul]

/-! ### The coding of a frame read back (04:R68) -/

/-- The data symbols of a frame give what its kind and body give: layout, L and check agree. -/
theorem frameOfData_frameData (kind : Byte) (body : List Byte) (h : body.length < 256) :
    frameOfData (frameData kind body) = frameOfBody kind body := by
  have len : body.length % 256 = body.length := Nat.mod_eq_of_lt h
  simp only [frameData, frameChecked, frameOfData, List.cons_append, BitVec.toNat_ofNat, Nat.reducePow, len,
    List.take_left, List.drop_left, List.length_append, length_beBytes, beNat_beBytes_two]
  simp

/-- Status words read back from their bytes. -/
theorem wordsOfBytes_beBytes (ws : List Word) : wordsOfBytes (ws.flatMap fun w => beBytes 4 w.toNat) = ws := by
  induction ws with
  | nil => rfl
  | cons w ws ih =>
    have h := ofNat_beNat_beBytes 4 (by decide) w
    simp only [List.flatMap_cons]
    simp only [beBytes, List.nil_append, List.cons_append] at h ih ⊢
    simp only [wordsOfBytes, h, ih]

/-- A frame of its kind's length is read back from its kind and body. -/
theorem LaneFrame.frameOfBody_body (f : LaneFrame) (h : f.fits = true) : frameOfBody f.kind f.body = some f := by
  cases f with
  | join b =>
    have ht := ofNat_beNat_beBytes 4 (by decide) b.tag
    have hu := ofNat_beNat_beBytes 2 (by decide) b.turnaround
    simp only [beBytes, List.nil_append, List.cons_append] at ht hu
    simp [LaneFrame.kind, LaneFrame.body, frameOfBody, hubKindOf, radioFrame, beBytes, ht, hu, -BitVec.ofNat_toNat]
  | renew l => rfl
  | leave l => rfl
  | echoBack b => rfl
  | report b =>
    have hw : b.words.length ≤ 6 := by simpa [LaneFrame.fits] using h
    have hl : (b.words.flatMap fun w => beBytes 4 w.toNat).length = 4 * b.words.length := by
      simp [List.length_flatMap, Nat.mul_comm]
    have hk : b.words.length % 256 = b.words.length := Nat.mod_eq_of_lt (by omega)
    simp [LaneFrame.kind, LaneFrame.body, frameOfBody, hubKindOf, radioFrame, hk, hw, hl, wordsOfBytes_beBytes]
  | peerMark b =>
    have hs := ofNat_beNat_beBytes 6 (by decide) b.seconds
    have hd := ofNat_beNat_beBytes 4 (by decide) b.difference
    simp only [beBytes, List.nil_append, List.cons_append] at hs hd
    simp [LaneFrame.kind, LaneFrame.body, frameOfBody, hubKindOf, radioFrame, beBytes, hs, hd, -BitVec.ofNat_toNat]
  | hub k body =>
    have hk : hubKindOf k.code.toNat = some (k, body.length) := by simpa [LaneFrame.fits] using h
    simp [LaneFrame.kind, LaneFrame.body, frameOfBody, hk]

theorem LaneFrame.length_body_lt (f : LaneFrame) (h : f.fits = true) : f.body.length < 256 := by
  cases f with
  | report b =>
    have hw : b.words.length ≤ 6 := by simpa [LaneFrame.fits] using h
    simp [LaneFrame.body, List.length_flatMap]
    omega
  | hub k body =>
    have hk : hubKindOf k.code.toNat = some (k, body.length) := by simpa [LaneFrame.fits] using h
    have : body.length ≤ 13 := by cases k <;> simp_all [hubKindOf, HubKind.code] <;> omega
    simp [LaneFrame.body]; omega
  | join _ | renew _ | leave _ | echoBack _ | peerMark _ => simp [LaneFrame.body]

/-- A frame of its kind's length is read back from its data symbols. -/
theorem LaneFrame.frameOfData_line (f : LaneFrame) (h : f.fits = true) : frameOfData (frameData f.kind f.body) = some f := by
  rw [frameOfData_frameData _ _ (f.length_body_lt h), f.frameOfBody_body h]

namespace Machine

/-! ### The frames of the hub (04:R68) -/

/-- A frame's body has the length of its kind. -/
theorem Frame.hubKindOf_kind (f : Frame) : hubKindOf f.kind.code.toNat = some (f.kind, f.body.length) := by
  cases f <;> simp [Frame.kind, Frame.body, HubKind.code, hubKindOf]

/-- A frame takes as many symbols as it is given time for. -/
theorem Frame.length_line (f : Frame) : f.line.length = f.symbols := by
  cases f <;> simp [Frame.line, frameLine, frameData, frameChecked, Frame.body, Frame.symbols]

/-- What the hub sends, a lane that hears it takes for a frame of that hub kind. -/
theorem Frame.frameOfData_sent (f : Frame) : frameOfData (frameData f.kind.code f.body) = some (.hub f.kind f.body) :=
  LaneFrame.frameOfData_line (.hub f.kind f.body) (by simp [LaneFrame.fits, f.hubKindOf_kind])

/-- With nothing in transmission, or after its end, the lane carries IDLE. -/
theorem Port.onLine_idle (r : Port) (osc : Nat) (h : ∀ x, r.tx = some x → x.endsAt ≤ osc) : r.onLine osc = .idle := by
  unfold Port.onLine
  cases hx : r.tx with
  | none => rfl
  | some x => simp [h x hx]

/-- A transmission's first symbol is on the lane at the instant it begins. -/
theorem Port.onLine_first (r : Port) (f : Frame) (osc : Nat) (h : r.tx = some ⟨.frame f, osc + f.symbols * Config.symbolNs⟩) :
    r.onLine osc = .frameStart := by
  unfold Port.onLine
  rw [h]
  have pos : 0 < f.symbols := by cases f <;> simp [Frame.symbols]
  have line : (TxItem.frame f).line = f.line := rfl
  have at0 : f.line.length - (osc + f.symbols * Config.symbolNs - osc + Config.symbolNs - 1) / Config.symbolNs = 0 := by
    rw [f.length_line]
    simp only [Config.symbolNs]
    omega
  simp only [line, at0]
  rw [if_neg (by simp only [Config.symbolNs]; omega)]
  rfl

/-! ### Symbols at a receiver (04:R67, R68) -/

section Hear

variable {s u : State} {p : PortIx} {at_ : Nat → Capture}

/-- Symbols act one after the other. -/
theorem hear_append (xs ys : List RxSymbol) :
    State.hear p at_ (xs ++ ys) s = State.hear p at_ ys (State.hear p (fun k => at_ (k + ys.length)) xs s) := by
  induction xs generalizing s with
  | nil => rfl
  | cons x xs ih => simp only [List.cons_append, State.hear, ih, List.length_append]

theorem hear_singleton (x : RxSymbol) : State.hear p at_ [x] s = s.hearSymbol p (at_ 0) x := rfl

/-- Without lock a symbol is counted, and gains lock where it completes the count. -/
theorem hearSymbol_seek (h : (s.port p).linkUp = false) (c : Capture) (x : RxSymbol) :
    s.hearSymbol p c x =
      (s.setLane p ((s.lane p).seek x.isSome).1).actLane p ((s.lane p).seek x.isSome).2 := by
  simp [State.hearSymbol, LaneReceiver.take, h]

/-- With lock a symbol that is not valid is counted, and loses lock where it completes the count. -/
theorem hearSymbol_miss (h : (s.port p).linkUp = true) (c : Capture) :
    s.hearSymbol p c none = (s.setLane p (s.lane p).miss.1).actLane p (s.lane p).miss.2 := by
  simp [State.hearSymbol, LaneReceiver.take, h]

/-- With lock a line symbol is taken for the frame it belongs to. -/
theorem hearSymbol_accept (h : (s.port p).linkUp = true) (c : Capture) (y : LineSymbol) :
    s.hearSymbol p c (some y) = (s.setLane p ((s.lane p).accept c y).1).actLane p ((s.lane p).accept c y).2 := by
  simp [State.hearSymbol, LaneReceiver.take, h]

/-- Data symbols join the frame still open. -/
theorem hear_data (h : (u.port p).linkUp = true) (c : Capture) (d bs : List Byte) :
    State.hear p at_ (bs.map fun b => some (.data b)) (u.setLane p ⟨0, some ⟨c, d⟩⟩) =
      u.setLane p ⟨0, some ⟨c, d ++ bs⟩⟩ := by
  induction bs generalizing d with
  | nil => simp [State.hear]
  | cons b bs ih =>
    simp only [List.map_cons, State.hear]
    rw [hearSymbol_accept (by simpa using h)]
    simpa [LaneReceiver.accept, RxFrame.join, State.actLane] using ih (d ++ [b])

/-- With lock a frame of its kind's length is heard from its FRAME-START to its FRAME-END and delivered with what was captured at its
FRAME-START; a frame still open is cut by it. -/
theorem hear_frame (h : (u.port p).linkUp = true) (f : LaneFrame) (fits : f.fits = true) :
    State.hear p at_ (f.line.map some) u = (u.setLane p .idle).deliver p (at_ (f.line.length - 1)) f := by
  have line : f.line.map some =
      some .frameStart :: ((frameData f.kind f.body).map fun b => some (.data b)) ++ [some .frameEnd] := by
    simp [LaneFrame.line, frameLine, Function.comp_def]
  have len : f.line.length - 1 = ((frameData f.kind f.body).map (fun b => some (LineSymbol.data b)) ++ [some LineSymbol.frameEnd]).length := by
    simp [LaneFrame.line, frameLine]
  rw [line, len, List.cons_append, State.hear, hearSymbol_accept h, hear_append]
  simp only [LaneReceiver.accept, State.actLane, hear_data h, hear_singleton]
  rw [hearSymbol_accept (by simpa using h)]
  simp [LaneReceiver.accept, RxFrame.closed, f.frameOfData_line fits, State.actLane]

/-- Without lock fewer valid symbols than are missing to 1024 are counted and nothing else. -/
theorem hear_unlocked (h : (u.port p).linkUp = false) (ys : List LineSymbol) (hn : (u.lane p).run + ys.length < Config.lockGainRun) :
    State.hear p at_ (ys.map some) u = if ys = [] then u else
      u.setLane p { u.lane p with run := (u.lane p).run + ys.length } := by
  induction ys generalizing u with
  | nil => rfl
  | cons y ys ih =>
    simp only [List.length_cons] at hn
    have one : u.hearSymbol p (at_ (ys.map some).length) (some y) =
        u.setLane p { u.lane p with run := (u.lane p).run + 1 } := by
      have : (u.lane p).run + 1 < Config.lockGainRun := by omega
      simp [hearSymbol_seek h, LaneReceiver.seek, this, State.actLane]
    simp only [List.map_cons, State.hear]
    rw [one, ih (by simpa using h) (by simp; omega)]
    by_cases hy : ys = []
    · simp [hy]
    · simp [hy, Nat.add_assoc, Nat.add_comm]

end Hear

/-! ### Commands of a lane -/

/-- A command of a lane acts with its own symbols on the part that has heard those before them. -/
theorem laneEvent_at {s u : State} {dt : Nat} {p : PortIx} {heard own : List RxSymbol} (h : s.LaneAt dt p heard own.length u) :
    laneEvent dt p (heard ++ own) s = .next (State.hear p (s.captureAgo dt) own u).settle := by
  obtain ⟨high, rfl⟩ := h
  simp only [laneEvent, event, high, hear_append]
  rfl

/-- A frame of its kind's length, heard with lock, is delivered. -/
theorem frameEvent_at {s u : State} {dt : Nat} {p : PortIx} {heard : List RxSymbol} {f : LaneFrame}
    (h : s.FrameAt dt p heard f u) (fits : f.fits = true) :
    frameEvent dt ⟨p, heard⟩ f s = .next (u.deliver p (s.captureAgo dt (f.line.length - 1)) f).settle := by
  obtain ⟨v, hv, up, rfl⟩ := h
  rw [frameEvent, laneEvent_at (by simpa using hv), hear_frame up f fits]
  rfl

/-! ### Label receivers (02:R28) -/

variable {r : LabelReceiver} {c : LabelChar} {start : Nat}

/-- A character after a gap begins a frame. -/
theorem LabelReceiver.take_begins (h : r.quietSince + Config.labelGapNs < start) :
    r.take c start = ⟨start + Config.labelCharNs, some ⟨start, [c]⟩⟩ := by
  simp [LabelReceiver.take, h]

/-- A character with no gap before it joins the frame being received. -/
theorem LabelReceiver.take_joins (h : start ≤ r.quietSince + Config.labelGapNs) {f : LabelRun} (hf : r.frame = some f) :
    r.take c start = ⟨start + Config.labelCharNs, some { f with chars := f.chars ++ [c] }⟩ := by
  simp [LabelReceiver.take, Nat.not_lt.mpr h, hf]

/-- A character with no gap before it and no frame being received is in no frame. -/
theorem LabelReceiver.take_skips (h : start ≤ r.quietSince + Config.labelGapNs) (hf : r.frame = none) :
    r.take c start = ⟨start + Config.labelCharNs, none⟩ := by
  simp [LabelReceiver.take, Nat.not_lt.mpr h, hf]

end Machine
end Sys2Proof
end

