-- ==== Sys2Proof/WellFormed.lean ====
section
/-! DEFINITION. Which commands are spelled as their row of the table says. An ill-formed command still has a meaning; it is another
row's command, or none the outside can send. -/
namespace Sys2Proof

/-- The field list is as long as the field count says, and is not read for a count above 12 (10:R166). -/
def countFits (req : Request) : Bool :=
  if req.count.toNat ≤ 12 then req.fields.length = req.count.toNat else req.fields.isEmpty

/-- A request of a kind and table that the port knows (10:R166, R168): at least the transaction byte is clocked. -/
def requestFits (kind : Byte) (t : Table) (req : Request) : Bool :=
  1 ≤ req.clocked && countFits req && requestKnown kind (BitVec.ofNat 8 t.code) req

/-- A request of a kind that disregards its table byte (10:R168). -/
def freeFits (kind table : Byte) (req : Request) : Bool :=
  1 ≤ req.clocked && countFits req && requestKnown kind table req

/-- The command is spelled as its row says. -/
def wellFormed : Instr → Bool
  | .report _ _ body => (LaneFrame.report body).fits
  | .hubFrameReceived _ _ frame => (LaneFrame.hub frame.kind frame.body).fits
  | .statusPoll _ first _ => first ≠ 1#8 && first ≠ 2#8
  | .answerTransaction _ clocked => 1 ≤ clocked
  | .unknownRequest _ kind table req _ => 1 ≤ req.clocked && countFits req && !requestKnown kind table req
  | .look _ t req _ => requestFits 0x01#8 t req
  | .next _ t req _ => requestFits 0x02#8 t req
  | .changeTimebase _ req _ => requestFits 0x03#8 .timebase req
  | .changeReference _ req _ => requestFits 0x03#8 .reference req
  | .changeAdmission _ req _ => requestFits 0x03#8 .admission req
  | .changeLease _ req _ => requestFits 0x03#8 .lease req
  | .changePort _ req _ => requestFits 0x03#8 .port req
  | .changeOutput _ req _ => requestFits 0x03#8 .output req
  | .changeAlarmKind _ req _ => requestFits 0x03#8 .alarmKind req
  | .changeAlarmUnit _ req _ => requestFits 0x03#8 .alarmUnit req
  | .changeAlarmLine _ req _ => requestFits 0x03#8 .alarmLine req
  | .create _ req _ => requestFits 0x04#8 .admission req
  | .retireAdmission _ req _ => requestFits 0x05#8 .admission req
  | .retireLease _ req _ => requestFits 0x05#8 .lease req
  | .approve _ req _ => requestFits 0x06#8 .lease req
  | .deny _ req _ => requestFits 0x07#8 .lease req
  | .suspend _ req _ => requestFits 0x08#8 .lease req
  | .resume _ req _ => requestFits 0x09#8 .lease req
  | .measure _ req _ => requestFits 0x0A#8 .lease req
  | .ack _ req _ => requestFits 0x0B#8 .alarm req
  | .ackAll _ req _ => requestFits 0x0C#8 .alarm req
  | .clearLockout _ req _ => requestFits 0x0D#8 .reference req
  | .force _ req _ => requestFits 0x0E#8 .reference req
  | .release _ req _ => requestFits 0x0F#8 .timebase req
  | .reopen _ req _ => requestFits 0x10#8 .port req
  | .close _ req _ => requestFits 0x11#8 .port req
  | .closeSetup _ table req _ => freeFits 0x12#8 table req
  | .restart _ table req _ => freeFits 0x13#8 table req
  | .status _ table req _ => freeFits 0x14#8 table req
  | .resetN | .resetNRelease _ | .runSecond _ | .siteSecondBoundary _ | .referenceEdge .. | .labelFrame .. | .linePulse ..
  | .assistMeasurement _ | .timebaseSample _ | .missingSampleTimerExpiry .. | .holdOffExpiry .. | .faultScoreDecay ..
  | .revertiveSwitch _ | .laneLockGained .. | .laneLockLost .. | .join .. | .renew .. | .leave ..
  | .peerMark .. | .echoBack .. | .frameDeparture .. | .markDeparture .. | .echoDeparture ..
  | .echoTimerExpiry .. | .boundarySymbolEmission .. | .routineBatchDue .. | .approvalDeadlineExpiry ..
  | .outputRisingEdge .. | .outputFall .. | .roomAnnouncement .. => true

end Sys2Proof
end

