-- ==== Sys2Proof/Laws/PerInstr.lean ====
section
/-! SUPPORT. One statement about every command as syntax: a well-formed request reads back. Its kind and table bytes and its request give
the command itself, and no request holds more than 12 fields (10:R166, R168, R169). -/
namespace Sys2Proof.Laws.Fits
open Sys2Proof

/-- A well-formed command that carries a request is the one that the port reads from that request. -/
def Statement (i : Instr) : Prop :=
  wellFormed i = true → ∀ dt x st, i.asRequest = some (dt, x, st) →
    1 ≤ x.req.clocked ∧ x.req.fields.length ≤ 12 ∧ requestCommand dt x.kind x.table x.req st = i

theorem fields_le {req : Request} (h : countFits req = true) : req.fields.length ≤ 12 := by
  unfold countFits at h
  split at h
  · simp only [decide_eq_true_eq] at h; omega
  · simp only [List.isEmpty_iff] at h; simp [h]

theorem ofCode_code (t : Table) : Table.ofCode (BitVec.ofNat 8 t.code).toNat = some t := by cases t <;> rfl

/-- The three parts of a request that fits. -/
theorem requestFits_iff {kind : Byte} {t : Table} {req : Request} :
    requestFits kind t req = true ↔
      1 ≤ req.clocked ∧ countFits req = true ∧ requestKnown kind (BitVec.ofNat 8 t.code) req = true := by
  simp [requestFits, and_assoc]

theorem freeFits_iff {kind table : Byte} {req : Request} :
    freeFits kind table req = true ↔ 1 ≤ req.clocked ∧ countFits req = true ∧ requestKnown kind table req = true := by
  simp [freeFits, and_assoc]

/-- A request of a kind and table that fits reads back, if a known one of that kind and table gives the command. -/
theorem reads {kind : Byte} {t : Table} {req : Request} {i : Instr} (h : requestFits kind t req = true)
    {dt : Nat} {st : Stage}
    (g : requestKnown kind (BitVec.ofNat 8 t.code) req = true → requestCommand dt kind (BitVec.ofNat 8 t.code) req st = i) :
    1 ≤ req.clocked ∧ req.fields.length ≤ 12 ∧ requestCommand dt kind (BitVec.ofNat 8 t.code) req st = i :=
  ⟨(requestFits_iff.1 h).1, fields_le (requestFits_iff.1 h).2.1, g (requestFits_iff.1 h).2.2⟩

theorem resetN : Statement .resetN := fun _ _ _ _ g => nomatch g

theorem resetNRelease (dt : Nat) : Statement (.resetNRelease dt) := fun _ _ _ _ g => nomatch g

theorem runSecond (dt : Nat) : Statement (.runSecond dt) := fun _ _ _ _ g => nomatch g

theorem siteSecondBoundary (dt : Nat) : Statement (.siteSecondBoundary dt) := fun _ _ _ _ g => nomatch g

theorem referenceEdge (dt : Nat) (entry : Fin 4) (edge : Edge) : Statement (.referenceEdge dt entry edge) := fun _ _ _ _ g => nomatch g

theorem labelFrame (dt : Nat) (entry : Fin 4) (first : LabelChar) (rest : List LineChar) :
    Statement (.labelFrame dt entry first rest) := fun _ _ _ _ g => nomatch g

theorem linePulse (dt : Nat) (line : LineInput) : Statement (.linePulse dt line) := fun _ _ _ _ g => nomatch g

theorem assistMeasurement (dt : Nat) : Statement (.assistMeasurement dt) := fun _ _ _ _ g => nomatch g

theorem timebaseSample (dt : Nat) : Statement (.timebaseSample dt) := fun _ _ _ _ g => nomatch g

theorem missingSampleTimerExpiry (dt : Nat) (entry : RefIx) : Statement (.missingSampleTimerExpiry dt entry) := fun _ _ _ _ g => nomatch g

theorem holdOffExpiry (dt : Nat) (entry : RefIx) : Statement (.holdOffExpiry dt entry) := fun _ _ _ _ g => nomatch g

theorem faultScoreDecay (dt : Nat) (entry : RefIx) : Statement (.faultScoreDecay dt entry) := fun _ _ _ _ g => nomatch g

theorem revertiveSwitch (dt : Nat) : Statement (.revertiveSwitch dt) := fun _ _ _ _ g => nomatch g

theorem laneLockGained (dt : Nat) (symbol : LaneSymbol) : Statement (.laneLockGained dt symbol) := fun _ _ _ _ g => nomatch g

theorem laneLockLost (dt : Nat) (lane : Lane) : Statement (.laneLockLost dt lane) := fun _ _ _ _ g => nomatch g

theorem join (dt : Nat) (lane : Lane) (body : JoinBody) : Statement (.join dt lane body) := fun _ _ _ _ g => nomatch g

theorem renew (dt : Nat) (lane : Lane) (lease : Byte) : Statement (.renew dt lane lease) := fun _ _ _ _ g => nomatch g

theorem leave (dt : Nat) (lane : Lane) (lease : Byte) : Statement (.leave dt lane lease) := fun _ _ _ _ g => nomatch g

theorem report (dt : Nat) (lane : Lane) (body : ReportBody) : Statement (.report dt lane body) := fun _ _ _ _ g => nomatch g

theorem peerMark (dt : Nat) (lane : Lane) (body : PeerMarkBody) : Statement (.peerMark dt lane body) := fun _ _ _ _ g => nomatch g

theorem echoBack (dt : Nat) (lane : Lane) (lease number : Byte) : Statement (.echoBack dt lane lease number) := fun _ _ _ _ g => nomatch g

theorem hubFrameReceived (dt : Nat) (lane : Lane) (frame : HubFrame) : Statement (.hubFrameReceived dt lane frame) := fun _ _ _ _ g => nomatch g

theorem frameDeparture (dt : Nat) (port : PortIx) : Statement (.frameDeparture dt port) := fun _ _ _ _ g => nomatch g

theorem markDeparture (dt : Nat) (port : PortIx) : Statement (.markDeparture dt port) := fun _ _ _ _ g => nomatch g

theorem echoDeparture (dt : Nat) (port : PortIx) : Statement (.echoDeparture dt port) := fun _ _ _ _ g => nomatch g

theorem echoTimerExpiry (dt : Nat) (port : PortIx) : Statement (.echoTimerExpiry dt port) := fun _ _ _ _ g => nomatch g

theorem boundarySymbolEmission (dt : Nat) (port : PortIx) : Statement (.boundarySymbolEmission dt port) := fun _ _ _ _ g => nomatch g

theorem routineBatchDue (dt : Nat) (port : PortIx) : Statement (.routineBatchDue dt port) := fun _ _ _ _ g => nomatch g

theorem approvalDeadlineExpiry (dt : Nat) (lease : LeaseIx) : Statement (.approvalDeadlineExpiry dt lease) := fun _ _ _ _ g => nomatch g

theorem outputRisingEdge (dt : Nat) (out : OutIx) : Statement (.outputRisingEdge dt out) := fun _ _ _ _ g => nomatch g

theorem outputFall (dt : Nat) (out : OutIx) : Statement (.outputFall dt out) := fun _ _ _ _ g => nomatch g

theorem roomAnnouncement (dt : Nat) (block : Block) : Statement (.roomAnnouncement dt block) := fun _ _ _ _ g => nomatch g

theorem statusPoll (dt : Nat) (first : Byte) (extra : Nat) : Statement (.statusPoll dt first extra) := fun _ _ _ _ g => nomatch g

theorem answerTransaction (dt : Nat) (clocked : Nat) : Statement (.answerTransaction dt clocked) := fun _ _ _ _ g => nomatch g

theorem unknownRequest (dt : Nat) (kind table : Byte) (req : Request) (stage : Stage) : Statement (.unknownRequest dt kind table req stage) := by
  rintro h e x s g
  simp only [wellFormed, Bool.and_eq_true, decide_eq_true_eq, Bool.not_eq_true'] at h
  simp only [Instr.asRequest, h.2] at g
  cases g
  exact ⟨h.1.1, fields_le h.1.2, by simp only [requestCommand, h.2]; rfl⟩

theorem look (dt : Nat) (table : Table) (req : Request) (stage : Stage) : Statement (.look dt table req stage) := by
  rintro h e x s g
  cases g
  refine reads h fun k => ?_
  simp only [requestCommand, k, ofCode_code]
  rfl

theorem next (dt : Nat) (table : Table) (req : Request) (stage : Stage) : Statement (.next dt table req stage) := by
  rintro h e x s g
  cases g
  refine reads h fun k => ?_
  simp only [requestCommand, k, ofCode_code]
  cases table <;> first | rfl | exact absurd (show false = true from k) Bool.false_ne_true

theorem changeTimebase (dt : Nat) (req : Request) (stage : Stage) : Statement (.changeTimebase dt req stage) := by
  rintro h e x s g
  cases g
  exact reads h fun k => by simp only [requestCommand, k]; rfl

theorem changeReference (dt : Nat) (req : Request) (stage : Stage) : Statement (.changeReference dt req stage) := by
  rintro h e x s g
  cases g
  exact reads h fun k => by simp only [requestCommand, k]; rfl

theorem changeAdmission (dt : Nat) (req : Request) (stage : Stage) : Statement (.changeAdmission dt req stage) := by
  rintro h e x s g
  cases g
  exact reads h fun k => by simp only [requestCommand, k]; rfl

theorem changeLease (dt : Nat) (req : Request) (stage : Stage) : Statement (.changeLease dt req stage) := by
  rintro h e x s g
  cases g
  exact reads h fun k => by simp only [requestCommand, k]; rfl

theorem changePort (dt : Nat) (req : Request) (stage : Stage) : Statement (.changePort dt req stage) := by
  rintro h e x s g
  cases g
  exact reads h fun k => by simp only [requestCommand, k]; rfl

theorem changeOutput (dt : Nat) (req : Request) (stage : Stage) : Statement (.changeOutput dt req stage) := by
  rintro h e x s g
  cases g
  exact reads h fun k => by simp only [requestCommand, k]; rfl

theorem changeAlarmKind (dt : Nat) (req : Request) (stage : Stage) : Statement (.changeAlarmKind dt req stage) := by
  rintro h e x s g
  cases g
  exact reads h fun k => by simp only [requestCommand, k]; rfl

theorem changeAlarmUnit (dt : Nat) (req : Request) (stage : Stage) : Statement (.changeAlarmUnit dt req stage) := by
  rintro h e x s g
  cases g
  exact reads h fun k => by simp only [requestCommand, k]; rfl

theorem changeAlarmLine (dt : Nat) (req : Request) (stage : Stage) : Statement (.changeAlarmLine dt req stage) := by
  rintro h e x s g
  cases g
  exact reads h fun k => by simp only [requestCommand, k]; rfl

theorem create (dt : Nat) (req : Request) (stage : Stage) : Statement (.create dt req stage) := by
  rintro h e x s g
  cases g
  exact reads h fun k => by simp only [requestCommand, k]; rfl

theorem retireAdmission (dt : Nat) (req : Request) (stage : Stage) : Statement (.retireAdmission dt req stage) := by
  rintro h e x s g
  cases g
  exact reads h fun k => by simp only [requestCommand, k]; rfl

theorem retireLease (dt : Nat) (req : Request) (stage : Stage) : Statement (.retireLease dt req stage) := by
  rintro h e x s g
  cases g
  exact reads h fun k => by simp only [requestCommand, k]; rfl

theorem approve (dt : Nat) (req : Request) (stage : Stage) : Statement (.approve dt req stage) := by
  rintro h e x s g
  cases g
  exact reads h fun k => by simp only [requestCommand, k]; rfl

theorem deny (dt : Nat) (req : Request) (stage : Stage) : Statement (.deny dt req stage) := by
  rintro h e x s g
  cases g
  exact reads h fun k => by simp only [requestCommand, k]; rfl

theorem suspend (dt : Nat) (req : Request) (stage : Stage) : Statement (.suspend dt req stage) := by
  rintro h e x s g
  cases g
  exact reads h fun k => by simp only [requestCommand, k]; rfl

theorem resume (dt : Nat) (req : Request) (stage : Stage) : Statement (.resume dt req stage) := by
  rintro h e x s g
  cases g
  exact reads h fun k => by simp only [requestCommand, k]; rfl

theorem measure (dt : Nat) (req : Request) (stage : Stage) : Statement (.measure dt req stage) := by
  rintro h e x s g
  cases g
  exact reads h fun k => by simp only [requestCommand, k]; rfl

theorem ack (dt : Nat) (req : Request) (stage : Stage) : Statement (.ack dt req stage) := by
  rintro h e x s g
  cases g
  exact reads h fun k => by simp only [requestCommand, k]; rfl

theorem ackAll (dt : Nat) (req : Request) (stage : Stage) : Statement (.ackAll dt req stage) := by
  rintro h e x s g
  cases g
  exact reads h fun k => by simp only [requestCommand, k]; rfl

theorem clearLockout (dt : Nat) (req : Request) (stage : Stage) : Statement (.clearLockout dt req stage) := by
  rintro h e x s g
  cases g
  exact reads h fun k => by simp only [requestCommand, k]; rfl

theorem force (dt : Nat) (req : Request) (stage : Stage) : Statement (.force dt req stage) := by
  rintro h e x s g
  cases g
  exact reads h fun k => by simp only [requestCommand, k]; rfl

theorem release (dt : Nat) (req : Request) (stage : Stage) : Statement (.release dt req stage) := by
  rintro h e x s g
  cases g
  exact reads h fun k => by simp only [requestCommand, k]; rfl

theorem reopen (dt : Nat) (req : Request) (stage : Stage) : Statement (.reopen dt req stage) := by
  rintro h e x s g
  cases g
  exact reads h fun k => by simp only [requestCommand, k]; rfl

theorem close (dt : Nat) (req : Request) (stage : Stage) : Statement (.close dt req stage) := by
  rintro h e x s g
  cases g
  exact reads h fun k => by simp only [requestCommand, k]; rfl

theorem closeSetup (dt : Nat) (table : Byte) (req : Request) (stage : Stage) : Statement (.closeSetup dt table req stage) := by
  rintro h e x s g
  cases g
  have k := freeFits_iff.1 h
  refine ⟨k.1, fields_le k.2.1, ?_⟩
  refine (if_neg fun e => Bool.noConfusion (k.2.2.symm.trans e)).trans ?_
  cases Table.ofCode table.toNat <;> rfl

theorem restart (dt : Nat) (table : Byte) (req : Request) (stage : Stage) : Statement (.restart dt table req stage) := by
  rintro h e x s g
  cases g
  have k := freeFits_iff.1 h
  refine ⟨k.1, fields_le k.2.1, ?_⟩
  refine (if_neg fun e => Bool.noConfusion (k.2.2.symm.trans e)).trans ?_
  cases Table.ofCode table.toNat <;> rfl

theorem status (dt : Nat) (table : Byte) (req : Request) (stage : Stage) : Statement (.status dt table req stage) := by
  rintro h e x s g
  cases g
  have k := freeFits_iff.1 h
  refine ⟨k.1, fields_le k.2.1, ?_⟩
  refine (if_neg fun e => Bool.noConfusion (k.2.2.symm.trans e)).trans ?_
  cases Table.ofCode table.toNat <;> rfl

end Sys2Proof.Laws.Fits
end

