-- ==== Sys2Proof/Laws/Requests.lean ====
section
/-! SUPPORT. What a request's checks and answers do, for every request: 10:R166 to R170. -/
namespace Sys2Proof.Machine
open Sys2Proof

variable {s : State} {x : Executing}

/-! ### Settling twice -/

theorem setMgmt_settle (s : State) (m : Mgmt) : (s.setMgmt m).settle = s.settle.setMgmt m := rfl

theorem settle_lineDriven (s : State) (l : AlarmLine) : s.settle.lineDriven (s.lineDriven l) = s.lineDriven l := by
  simp only [State.lineDriven, settle_lineNow]; rfl

@[simp] theorem settle_settle (s : State) : s.settle.settle = s.settle := by
  have h : s.settle.settle.alarm.lines = s.settle.alarm.lines := by
    ext i hi
    have a := settle_alarm_lines s.settle ⟨i, hi⟩
    have b := settle_alarm_lines s ⟨i, hi⟩
    simp only [Fin.getElem_fin] at a b
    rw [a, b, settle_lineDriven]
  show s.settle.setAlarm s.settle.settle.alarm = s.settle.setAlarm s.settle.alarm
  rw [show s.settle.settle.alarm = s.settle.alarm from by
    show { s.settle.alarm with lines := s.settle.settle.alarm.lines } = s.settle.alarm
    rw [h]]

/-- The answer is formed from the state after the command: settling it once more changes nothing. -/
theorem reply_settle (s : State) (a : State → Answer) : (s.reply a).settle = s.reply a := by
  unfold State.reply; dsimp only; rw [setMgmt_settle, settle_settle]

theorem reply_mgmt (s : State) (a : State → Answer) :
    (s.reply a).mgmt = { s.mgmt with executing := none, lastAnswer := some (a s.settle) } := rfl

/-! ### What does not depend on the management port or on settling -/

theorem setMgmt_recordFields (s : State) (m : Mgmt) (t : Table) (k : Nat) :
    (s.setMgmt m).recordFields t k = s.recordFields t k := rfl
theorem setMgmt_keyNamed (s : State) (m : Mgmt) (t : Table) (r : Request) :
    (s.setMgmt m).keyNamed t r = s.keyNamed t r := rfl
theorem setMgmt_recordAt (s : State) (m : Mgmt) (t : Table) (k : Nat) : (s.setMgmt m).recordAt t k = s.recordAt t k := rfl
theorem setMgmt_slotRevision (s : State) (m : Mgmt) (t : Table) (k : Nat) :
    (s.setMgmt m).slotRevision t k = s.slotRevision t k := rfl
theorem settle_keyNamed (s : State) (t : Table) (r : Request) : s.settle.keyNamed t r = s.keyNamed t r := rfl

theorem settle_slotRevision (s : State) (t : Table) (k : Nat) : s.settle.slotRevision t k = s.slotRevision t k := by
  cases t <;> try rfl
  simp only [State.slotRevision, settle_alarm_lines]; rfl

theorem settle_recordAt (s : State) (t : Table) (k : Nat) : s.settle.recordAt t k = s.recordAt t k := by
  cases t <;> try rfl
  · simp [State.recordAt, State.recordFields]
  · simp only [State.recordAt, State.recordFields]; split <;> rfl

/-! ### Answers -/

theorem refuse_settle (s : State) (x : Executing) (c : AnswerCode) : (s.refuse x c).settle = s.refuse x c := reply_settle _ _
theorem doneForm_settle (s : State) (x : Executing) (t : Table) (k : Nat) (f : Byte) :
    (s.doneForm x t k f).settle = s.doneForm x t k f := reply_settle _ _
theorem done_settle (s : State) (x : Executing) (t : Table) (k : Nat) : (s.done x t k).settle = s.done x t k := reply_settle _ _
theorem doneSlot_settle (s : State) (x : Executing) (t : Table) (k : Nat) :
    (s.doneSlot x t k).settle = s.doneSlot x t k := reply_settle _ _
theorem doneStatus_settle (s : State) (x : Executing) : (s.doneStatus x).settle = s.doneStatus x := reply_settle _ _

/-- The revision of a refusal, from the state before it. -/
theorem settle_refusalRevision (s : State) (x : Executing) (c : AnswerCode) :
    s.settle.refusalRevision x c = s.refusalRevision x c := by
  simp only [State.refusalRevision, settle_keyNamed, settle_recordAt, settle_slotRevision]

theorem refuse_answered (s : State) (x : Executing) (c : AnswerCode) :
    (s.refuse x c).AnsweredRefusal x c (s.refusalRevision x c) := by
  refine ⟨rfl, ?_⟩
  simp only [State.refuse, reply_mgmt, settle_refusalRevision]; rfl

/-- DONE with a record: the answer shows the record as it stands after the command. -/
theorem done_answered (s : State) (x : Executing) (t : Table) (k : Nat) (ht : t ≠ .alarm) :
    (s.done x t k).AnsweredDone x.kind t k x.req.group := by
  refine ⟨rfl, ?_⟩
  simp only [State.done, State.doneForm, reply_mgmt, ht, if_false]
  rfl

theorem doneForm_answered (s : State) (x : Executing) (t : Table) (k : Nat) (ht : t ≠ .alarm) :
    (s.doneForm x t k formIndex).AnsweredDone x.kind t k x.req.group := done_answered s x t k ht

theorem doneSlot_answered (s : State) (x : Executing) (t : Table) (k : Nat) :
    (s.doneSlot x t k).AnsweredSlot x.kind t k x.req.group := ⟨rfl, rfl⟩

theorem doneStatus_answered (s : State) (x : Executing) : (s.doneStatus x).AnsweredStatus x.kind x.req.group := ⟨rfl, rfl⟩

/-! ### Checks -/

/-- A request of a known kind, table, form and group with at most 12 fields passes the first two checks. -/
theorem checked_pass {k : State → State} (h : requestKnown x.kind x.table x.req = true) (hc : x.req.count.toNat ≤ 12) :
    s.checked x k = k s := by simp [State.checked, h, Nat.not_lt.mpr hc]

theorem checked_count {k : State → State} (h : requestKnown x.kind x.table x.req = true) (hc : 12 < x.req.count.toNat) :
    s.checked x k = s.refuse x .badField := by simp [State.checked, h, hc]

/-- A record named, live and at the revision sent passes the third and fourth checks. -/
theorem atRecord_pass {t : Table} {fenced : Bool} {k : Nat → State → State} {i : Nat} (hk : s.keyNamed t x.req = some i)
    (hr : s.recordAt t i = true) (hv : fenced = true → x.req.revision = s.slotRevision t i) :
    s.atRecord x t fenced k = k i s := by
  simp only [State.atRecord, hk, hr, if_true]
  cases fenced <;> simp_all

theorem atRecord_none {t : Table} {fenced : Bool} {k : Nat → State → State} (hk : s.keyNamed t x.req = none) :
    s.atRecord x t fenced k = s.refuse x .noSuch := by simp only [State.atRecord, hk]

theorem atRecord_free {t : Table} {fenced : Bool} {k : Nat → State → State} {i : Nat} (hk : s.keyNamed t x.req = some i)
    (hr : s.recordAt t i = false) : s.atRecord x t fenced k = s.refuse x .noSuch := by
  simp [State.atRecord, hk, hr]

theorem atRecord_stale {t : Table} {k : Nat → State → State} {i : Nat} (hk : s.keyNamed t x.req = some i)
    (hr : s.recordAt t i = true) (hv : x.req.revision ≠ s.slotRevision t i) :
    s.atRecord x t true k = s.refuse x .stale := by
  simp [State.atRecord, hk, hr, hv]

/-- A refusal for a revision that is not the record's carries the record's own. -/
theorem stale_refusalRevision {t : Table} {i : Nat} (ht : Table.ofCode x.table.toNat = some t) (hn : keyless x.kind = false)
    (hk : s.keyNamed t x.req = some i) (hr : s.recordAt t i = true) :
    s.refusalRevision x .stale = s.slotRevision t i := by
  simp [State.refusalRevision, hn, ht, hk, hr]

/-- An INDEX key within the table names its index. -/
theorem keyNamed_index {t : Table} {k : Nat} (h : x.req.NamesIndex k) (hk : k ∈ tableKeys t) : s.keyNamed t x.req = some k := by
  obtain ⟨hf, _, _, rfl⟩ := h
  simp [State.keyNamed, hf, hk]

theorem atIx_fin {n : Nat} (i : Fin n) (f : Fin n → State → State) : s.atIx n i.val f = f i s := by
  simp [State.atIx, toIx]

end Sys2Proof.Machine
end

