-- ==== Sys2Proof/Tests/Slice0.lean ====
section
/-! SUPPORT. Tests: the smoke test of WellFormed, words and frames read by hand, one or two results per command on small states, and
for every statement with hypotheses a state and operands that meet them. -/
namespace Sys2Proof.Tests
open Sys2Proof Sys2Proof.Machine

set_option maxRecDepth 8000
set_option linter.unreachableTactic false
set_option linter.unusedTactic false


/-! ### Small states -/

/-- The part ten oscillator seconds on, setup closed, every port OPEN, half a second past the boundary of second 5. -/
def site : State :=
  { State.reset with
    clock := ⟨10000000000, 11000000000⟩
    mgmt := { Mgmt.reset with setup := .closed }
    ports := Vector.replicate 8 { Port.reset with state := .opened, linkUp := true }
    tb := { Timebase.reset with siteTime := 5500000000, runCounter := 10, lastBoundary := 5, nextSecond := 6 } }

/-- A USABLE pulse entry whose last edge was 1 s ago. -/
def usable : RefEntry :=
  { RefEntry.reset 40 with
    state := .usable, enabled := true, usableSince := some 0, decayClock := some 0, progress := 30
    missingSince := some 9000000000, prevEdge := some 9000000000, listenSince := some 0 }

/-- The same entry in QUALIFYING. -/
def qualifying : RefEntry := { usable with state := .qualifying, usableSince := none, decayClock := none, progress := 3 }

/-- LOCKED to entry 0, class A. -/
def locked : State :=
  ({ site with tb := { site.tb with state := .locked, selected := some 0, e := some 50, siteClass := .a, lockRun := 16, lockedTime := 400 } }).setRef
    0 usable

/-- HOLDOVER with E 300, class B. -/
def held : State := { site with tb := { site.tb with state := .holdover, e := some 300, siteClass := .b, h := some 4 } }

/-- An IN-SERVICE lease of tag 7 on port 0. -/
def unit : Lease where
  state := .inService
  tag := 7
  port := 0
  required := .d
  grantedCredit := 60
  turnaround := 100
  compensation := some 500
  lastMeasured := some 3
  rejected := 0
  delayJump := false
  offer := .none
  suspendCause := none
  deadline := none
  admission := 0
  report := ⟨none, [], 0⟩
  credit := some 60
  notice := none
  symbol := some ⟨5, 0⟩
  mark := none

/-- `s` with lease `x` live in slot `l` and counted by its port. -/
def withLease (s : State) (l : LeaseIx) (x : Lease) : State :=
  (s.setLeaseSlot l ⟨1, some x⟩).updPort x.port fun r => { r with liveLeases := r.liveLeases + 1 }

/-- The LOCKED site serving the unit in slot 0. -/
def serving : State := withLease locked 0 unit

/-- A request naming index `k` with revision `rev` and fields `fs`. -/
def ask (k rev : Nat) (fs : List Field) : Request :=
  ⟨formIndex, 0, BitVec.ofNat 64 k, BitVec.ofNat 8 rev, BitVec.ofNat 8 fs.length, fs, 15 + 5 * fs.length⟩

/-- `s` as the next command, with no time gone by, finds it. -/
abbrev now (s : State) : State := s.elapse 0

/-- `s` as a frame on the lane of port `p`, with no time gone by and nothing heard before it, finds it at its FRAME-END. -/
abbrev ended (p : PortIx) (s : State) : State := (now s).setLane p ⟨0, none⟩

theorem onLane {s : State} {p : PortIx} {f : LaneFrame} (h : s.resetLow = false) (up : (s.port p).linkUp = true) :
    s.FrameAt 0 p [] f (ended p s) := ⟨now s, ⟨h, rfl⟩, up, rfl⟩

/-- The part after reset with lock on every lane. -/
def lockedLanes : State := { State.reset with ports := Vector.replicate 8 { Port.reset with linkUp := true } }

/-- An admission entry that takes tag 7 on every port. -/
def admits7 : Admission := ⟨7, 0xFFFFFFFF, 0xFF, .auto, .c, 60, true, 10⟩

/-- An alarm record of a port. -/
def portDown (st : AlarmState) : AlarmRecord := ⟨st, .portDown, 2, none, .major, none, 1, 3, 4⟩

/-- `s` with an alarm record in slot `i`. -/
def withAlarm (s : State) (i : SlotIx) (r : AlarmRecord) : State := s.setAlarm (s.alarm.setSlot i ⟨9, some r⟩)


/-! ### Hypotheses met

Each test_meets theorem applies a statement to concrete states and operands, a state for each of its clauses: every argument and every
`first | decide | …` proves one hypothesis there. What is left of the statement is that the command completes. -/

/-- The command answers a next state there. -/
def completes (i : Instr) (s : State) : Prop := ∃ t, exec i s = .next t

/-- Some value is this one. -/
def settles {α : Type} (a : α) : Prop := ∃ b, a = b

theorem done {i : Instr} {s : State} {P : State → Prop} (h : ∃ t, exec i s = .next t ∧ P t) : completes i s :=
  let ⟨t, g, _⟩ := h; ⟨t, g⟩

theorem refusedDone {i : Instr} {s : State} {P : State → Rev → Prop} (h : ∃ t rev, exec i s = .next t ∧ P t rev) : completes i s :=
  let ⟨t, _, g, _⟩ := h; ⟨t, g⟩

/-- The characters of the label of second 123,456,789. -/
def labelChars (valid : Bool) : List LabelChar :=
  let body : List Byte := [0x5C, if valid then 1 else 0] ++ (List.range 6).map fun j => (123456789#48).extractLsb' (40 - 8 * j) 8
  let check := crc16 body
  (body ++ [check.extractLsb' 8 8, check.extractLsb' 0 8]).map fun b => LabelChar.mk b true

/-- The characters after the first, with no wait between them. -/
def labelRest (valid : Bool) : List LineChar := (labelChars valid).tail.map fun c => ⟨0, c⟩

/-- A usable entry 100 ns ago off by `v` ns. -/
def devi (v : Int) : RefEntry := { usable with lastOffset := some ⟨v, 10000000000, 0⟩ }

/-- Two deviants that agree, and two that do not. -/
def agreeing : State :=
  { (((locked.setRef 1 (devi 900)).setRef 2 (devi 1000)).setRef 3 (devi 5)) with tb := { locked.tb with siteTime := 6000000001 } }
def differing : State :=
  { (((locked.setRef 1 (devi 900)).setRef 2 (devi (-1000))).setRef 3 (devi 5)) with tb := { locked.tb with siteTime := 6000000001 } }

def case1 : State := { locked with tb := { locked.tb with freqCorr := -250 } }

def case2 : State := { locked with tb := { locked.tb with freqCorr := 333, siteFrac := 17 } }

theorem test_meets_SiteTimeRuns (H : Obligations.SiteTimeRuns) :
    True ∧
    True := by
  refine ⟨(fun _ => trivial) (H case1 (case1.elapse 1000000000) 1000000000 ⟨rfl, rfl⟩ ?_),
    (fun _ => trivial) (H case2 (case2.elapse 7) 7 ⟨rfl, rfl⟩ ?_)⟩ <;>
    first | decide | exact ⟨by decide, by decide⟩ | exact ⟨by decide, by decide, by decide, by decide⟩ | exact ⟨rfl, .inl ⟨rfl, rfl, by decide⟩⟩

def case3 : State := { held with clock := ⟨10000000000, 10000000000⟩ }

def case4 : State :=
  { held with clock := ⟨10000000000, 10000000000⟩, tb := { held.tb with e := some 5000, siteClass := .d } }

def case5 : State := { locked with clock := ⟨10000000000, 10000000000⟩ }

theorem test_meets_RunSecondCounts (H : Obligations.RunSecondCounts) :
    completes (.runSecond 0) case3 ∧
    completes (.runSecond 0) case4 ∧
    completes (.runSecond 0) case5 ∧
    completes (.runSecond 0) site := by
  refine ⟨done ((H case3 (now case3) 0 ⟨rfl, rfl⟩).1 ?_),
    done ((H case4 (now case4) 0 ⟨rfl, rfl⟩).1 ?_),
    done ((H case5 (now case5) 0 ⟨rfl, rfl⟩).1 ?_),
    done ((H site (now site) 0 ⟨rfl, rfl⟩).2 ?_)⟩ <;>
    first | decide | exact ⟨by decide, by decide⟩ | exact ⟨by decide, by decide, by decide, by decide⟩ | exact ⟨rfl, .inl ⟨rfl, rfl, by decide⟩⟩

def case6 : State := { serving with wires := ⟨[⟨0, 60, 0⟩], []⟩ }

def case7 : State := { serving with wires := ⟨[⟨0, 260, 0⟩], []⟩, tb := { locked.tb with unlockRun := 3 } }

def case8 : State :=
  { serving with wires := ⟨[⟨0, -5, 0⟩], []⟩, tb := { locked.tb with lockRun := 15, state := .acquiring } }

def case9 : State :=
  { serving with wires := ⟨[⟨0, -5000, 0⟩], []⟩, tb := { locked.tb with lockRun := 15, state := .acquiring } }

def case10 : State := { serving with wires := ⟨[⟨1, 60, 0⟩], []⟩ }

def case11 : State := { locked with wires := ⟨[⟨0, 6000, 0⟩, ⟨0, 1, 0⟩], []⟩ }

def case12 : State :=
  { serving with tb := { serving.tb with stepPolicy := .stepAny, state := .acquiring, e := none, siteClass := .none }, outs := Vector.replicate 4 { Output.reset with state := .running, enabled := true, plan := some ⟨1, 0, 5⟩, nextEdge := some 6000000000 }, wires := ⟨[⟨0, -6000000000, 0⟩, ⟨0, 1, 0⟩], []⟩ }

theorem test_meets_SampleCorrectsSiteTime (H : Obligations.SampleCorrectsSiteTime) :
    completes (.timebaseSample 0) case6 ∧
    completes (.timebaseSample 0) case7 ∧
    completes (.timebaseSample 0) case8 ∧
    completes (.timebaseSample 0) case9 ∧
    completes (.timebaseSample 0) case10 ∧
    completes (.timebaseSample 0) case11 ∧
    completes (.timebaseSample 0) case12 := by
  refine ⟨done ((H case6 (now case6) 0 ⟨0, 60, 0⟩ [] ⟨rfl, rfl⟩ rfl).2.2.1 ?_ ?_ ?_),
    done ((H case7 (now case7) 0 ⟨0, 260, 0⟩ [] ⟨rfl, rfl⟩ rfl).2.2.1 ?_ ?_ ?_),
    done ((H case8 (now case8) 0 ⟨0, -5, 0⟩ [] ⟨rfl, rfl⟩ rfl).2.1 ?_ ?_ ?_),
    done ((H case9 (now case9) 0 ⟨0, -5000, 0⟩ [] ⟨rfl, rfl⟩ rfl).2.1 ?_ ?_ ?_),
    done ((H case10 (now case10) 0 ⟨1, 60, 0⟩ [] ⟨rfl, rfl⟩ rfl).1 ?_),
    done ((H case11 (now case11) 0 ⟨0, 6000, 0⟩ [⟨0, 1, 0⟩] ⟨rfl, rfl⟩ rfl).2.2.2 ?_ ?_ ?_),
    done ((H case12 (now case12) 0 ⟨0, -6000000000, 0⟩ [⟨0, 1, 0⟩] ⟨rfl, rfl⟩ rfl).2.2.2 ?_ ?_ ?_)⟩ <;>
    first | decide | exact ⟨by decide, by decide⟩ | exact ⟨by decide, by decide, by decide, by decide⟩ | exact ⟨rfl, .inl ⟨rfl, rfl, by decide⟩⟩

def case13 : State :=
  { held with wires := ⟨[], [⟨.four, 7⟩]⟩, tb := { held.tb with assist := some .four, state := .assisted } }

def case14 : State := { locked with wires := ⟨[], [⟨.four, 7⟩]⟩ }

def case15 : State :=
  { locked.setRef 1 usable with tb := { locked.tb with restore := some 1, waitToRestore := 10, revertive := true } }

theorem test_meets_AssistAndRevertiveSwitch (H : Obligations.AssistAndRevertiveSwitch) :
    completes (.assistMeasurement 0) case13 ∧
    completes (.assistMeasurement 0) case14 ∧
    completes (.revertiveSwitch 0) case15 ∧
    completes (.revertiveSwitch 0) locked := by
  refine ⟨done ((H case13 (now case13) 0 ⟨rfl, rfl⟩).1 ⟨.four, 7⟩ [] rfl),
    done ((H case14 (now case14) 0 ⟨rfl, rfl⟩).1 ⟨.four, 7⟩ [] rfl),
    done ((H case15 (now case15) 0 ⟨rfl, rfl⟩).2.1 1 ?_ ?_),
    done ((H locked (now locked) 0 ⟨rfl, rfl⟩).2.2 (Or.inl rfl))⟩ <;>
    first | decide | exact ⟨by decide, by decide⟩ | exact ⟨by decide, by decide, by decide, by decide⟩ | exact ⟨rfl, .inl ⟨rfl, rfl, by decide⟩⟩

def case16 : State := { locked with clock := ⟨10250000000, 11000000000⟩, tb := { locked.tb with forced := some 0 } }

def case17 : State := { locked with clock := ⟨10250000000, 11000000000⟩, tb := { locked.tb with lockedTime := 4 } }

def case18 : State := { (locked.setRef 2 usable).setRef 3 usable with clock := ⟨10250000000, 11000000000⟩ }

def case19 : State := { (locked.setRef 4 usable) with clock := ⟨10250000000, 11000000000⟩ }

theorem test_meets_LossOfTheSelectedReference (H : Obligations.LossOfTheSelectedReference) :
    completes (.missingSampleTimerExpiry 0 0) case16 ∧
    completes (.missingSampleTimerExpiry 0 0) case17 ∧
    completes (.missingSampleTimerExpiry 0 0) case18 ∧
    completes (.missingSampleTimerExpiry 0 0) case19 := by
  refine ⟨done ((H case16 (now case16) 0 0 9000000000 ⟨rfl, rfl⟩ rfl rfl ?_ ?_ rfl ?_).2.1 ?_ ?_),
    done ((H case17 (now case17) 0 0 9000000000 ⟨rfl, rfl⟩ rfl rfl ?_ ?_ rfl ?_).2.2 ?_ ?_),
    done ((H case18 (now case18) 0 0 9000000000 ⟨rfl, rfl⟩ rfl rfl ?_ ?_ rfl ?_).1 2 ?_ ?_ ?_),
    done ((H case19 (now case19) 0 0 9000000000 ⟨rfl, rfl⟩ rfl rfl ?_ ?_ rfl ?_).2.1 ?_ ?_)⟩ <;>
    first | decide | exact ⟨by decide, by decide⟩ | exact ⟨by decide, by decide, by decide, by decide⟩ | exact ⟨rfl, .inl ⟨rfl, rfl, by decide⟩⟩

def case20 : State :=
  { withLease (withLease serving 3 { unit with tag := 8, port := 2, required := .a }) 4 { unit with tag := 9 } with tb := { serving.tb with siteTime := 6000000001, siteClass := .b, e := some 200 } }

/-- After a slew back across the start of second 6, which has had its boundary: before it is reached again, and in it again. -/
def slewedBack : State := { serving with tb := { serving.tb with siteTime := 5999999990, lastBoundary := 6, nextSecond := 6 } }
def case21 : State := { slewedBack with tb := { slewedBack.tb with siteTime := 6000000001 } }

/-- The same in second 7. -/
def secondOn : State := { slewedBack with tb := { slewedBack.tb with siteTime := 7000000000 } }

theorem test_meets_BoundaryQueuesMarksAndSymbols (H : Obligations.BoundaryQueuesMarksAndSymbols) :
    completes (.siteSecondBoundary 0) case20 ∧
    completes (.siteSecondBoundary 0) secondOn ∧
    completes (.siteSecondBoundary 0) case21 ∧
    completes (.siteSecondBoundary 0) slewedBack ∧
    completes (.siteSecondBoundary 0) serving := by
  refine ⟨done ((H case20 (now case20) 0 ⟨rfl, rfl⟩ ?_).1 ?_ (fun _ i o h => (show ∀ i o, (now case20).judged i = some o → o.natAbs ≤ (now case20).tb.wanderLimit from by decide) i o h)),
    done ((H secondOn (now secondOn) 0 ⟨rfl, rfl⟩ ?_).1 ?_ (fun _ i o h => (show ∀ i o, (now secondOn).judged i = some o → o.natAbs ≤ (now secondOn).tb.wanderLimit from by decide) i o h)),
    done ((H case21 (now case21) 0 ⟨rfl, rfl⟩ ?_).2.1 ?_ ?_),
    done ((H slewedBack (now slewedBack) 0 ⟨rfl, rfl⟩ ?_).2.2 ?_),
    done ((H serving (now serving) 0 ⟨rfl, rfl⟩ ?_).2.2 ?_)⟩ <;>
    first | decide | exact ⟨by decide, by decide⟩ | exact ⟨by decide, by decide, by decide, by decide⟩ | exact ⟨rfl, .inl ⟨rfl, rfl, by decide⟩⟩

def case22 : State := locked.setRef 2 usable

def case23 : State := { locked with tb := { locked.tb with forced := some 0 } }

theorem test_meets_ForceAndRelease (H : Obligations.ForceAndRelease) :
    completes (.force 0 (ask 0 0 []) .whole) locked ∧
    completes (.force 0 (ask 1 0 []) .whole) locked ∧
    completes (.force 0 (ask 2 0 []) .whole) case22 ∧
    completes (.release 0 (ask 0 0 []) .whole) case23 ∧
    completes (.release 0 (ask 0 0 []) .whole) locked := by
  refine ⟨done (((H locked (now locked) 0 (ask 0 0 []) .whole ⟨rfl, rfl⟩).1 0 ?_ ?_).1 ?_ ?_),
    refusedDone (((H locked (now locked) 0 (ask 1 0 []) .whole ⟨rfl, rfl⟩).1 1 ?_ ?_).2.2 ?_),
    done (((H case22 (now case22) 0 (ask 2 0 []) .whole ⟨rfl, rfl⟩).1 2 ?_ ?_).2.1 ?_ ?_),
    done (((H case23 (now case23) 0 (ask 0 0 []) .whole ⟨rfl, rfl⟩).2 ?_ ?_).1 ?_),
    refusedDone (((H locked (now locked) 0 (ask 0 0 []) .whole ⟨rfl, rfl⟩).2 ?_ ?_).2 ?_)⟩ <;>
    first | decide | exact ⟨by decide, by decide⟩ | exact ⟨by decide, by decide, by decide, by decide⟩ | exact ⟨rfl, .inl ⟨rfl, rfl, by decide⟩⟩

def case26 : State := locked.setRef 1 qualifying

/-- A character with its wait: the byte 5C after 500 µs, the longest wait that is no gap. -/
def late : LineChar := ⟨500000, ⟨0x5C, true⟩⟩

/-- `case26` where characters ended on the line 10 µs ago, within a frame and after one. -/
def inFrame : State := locked.setRef 1 { qualifying with receiver := ⟨9999900000, some ⟨9999800000, [⟨0x5C, true⟩]⟩⟩ }
def afterFrame : State := locked.setRef 1 { qualifying with receiver := ⟨9999900000, none⟩ }

theorem test_meets_LabelFrameIsTaken (H : Obligations.LabelFrameIsTaken) :
    completes (.labelFrame 0 1 ⟨0x5C, true⟩ [late]) case26 ∧
    completes (.labelFrame 0 1 ⟨0x5C, true⟩ (List.replicate 9 late)) case26 ∧
    completes (.labelFrame 0 1 ⟨0x5C, true⟩ (labelRest true)) case26 ∧
    completes (.labelFrame 0 1 ⟨0x5C, true⟩ (labelRest false ++ [late])) case26 ∧
    completes (.labelFrame 0 1 ⟨0x5C, true⟩ []) afterFrame ∧
    completes (.labelFrame 0 1 ⟨0x5C, true⟩ []) inFrame := by
  refine ⟨done (((H case26 (now case26) 0 1 ⟨0x5C, true⟩ [late] ⟨rfl, rfl⟩ ?_ ?_).1 ?_).1 ?_),
    done (((H case26 (now case26) 0 1 ⟨0x5C, true⟩ (List.replicate 9 late) ⟨rfl, rfl⟩ ?_ ?_).1 ?_).2.1 ?_ (.inr ?_)),
    done ((((H case26 (now case26) 0 1 ⟨0x5C, true⟩ (labelRest true) ⟨rfl, rfl⟩ ?_ ?_).1 ?_).2.2 123456789 true ⟨.inl rfl, 0, rfl, ?_⟩ ?_).1
      rfl),
    done ((((H case26 (now case26) 0 1 ⟨0x5C, true⟩ (labelRest false ++ [late]) ⟨rfl, rfl⟩ ?_ ?_).1 ?_).2.2 123456789 false
      ⟨.inl rfl, 0, rfl, ?_⟩ ?_).2 rfl),
    done (((H afterFrame (now afterFrame) 0 1 ⟨0x5C, true⟩ [] ⟨rfl, rfl⟩ ?_ ?_).2 ?_).1 rfl),
    done (((H inFrame (now inFrame) 0 1 ⟨0x5C, true⟩ [] ⟨rfl, rfl⟩ ?_ ?_).2 ?_).2 _ rfl ?_)⟩ <;>
    decide +kernel

def case27 : State :=
  (locked.setRef 0 { usable with pendingLabel := some ⟨5, true⟩, inputDelay := 100 }).setRef 1 { qualifying with pendingLabel := some ⟨6, true⟩ }

def case28 : State :=
  { (locked.setRef 1 { qualifying with pendingLabel := some ⟨6, true⟩ }) with tb := { locked.tb with siteTime := 5999999900 } }

def case29 : State :=
  { (locked.setRef 1 { qualifying with pendingLabel := some ⟨6, true⟩, progress := 29 }) with tb := { locked.tb with siteTime := 5999999900 } }

def case30 : State :=
  { (locked.setRef 1 { qualifying with pendingLabel := some ⟨6, true⟩, progress := 29 }) with tb := { locked.tb with siteTime := 5999990900 } }

def case31 : State :=
  { (site.setRef 1 { qualifying with pendingLabel := some ⟨6, true⟩, progress := 29 }) with tb := { site.tb with siteTime := 5999990900, e := some 7 } }

theorem test_meets_EdgeGivesASample (H : Obligations.EdgeGivesASample) :
    completes (.referenceEdge 0 0 .rising) case27 ∧
    completes (.referenceEdge 0 1 .rising) case28 ∧
    completes (.referenceEdge 0 1 .rising) case29 ∧
    completes (.referenceEdge 0 1 .rising) case30 ∧
    completes (.referenceEdge 0 1 .rising) case31 := by
  refine ⟨done ((H case27 (now case27) 0 0 9000000000 ⟨5, true⟩ ⟨rfl, rfl⟩ rfl ?_ rfl ?_ ?_).1 rfl),
    done ((H case28 (now case28) 0 1 9000000000 ⟨6, true⟩ ⟨rfl, rfl⟩ rfl ?_ rfl ?_ ?_).2 rfl),
    done ((H case29 (now case29) 0 1 9000000000 ⟨6, true⟩ ⟨rfl, rfl⟩ rfl ?_ rfl ?_ ?_).2 rfl),
    done ((H case30 (now case30) 0 1 9000000000 ⟨6, true⟩ ⟨rfl, rfl⟩ rfl ?_ rfl ?_ ?_).2 rfl),
    done ((H case31 (now case31) 0 1 9000000000 ⟨6, true⟩ ⟨rfl, rfl⟩ rfl ?_ rfl ?_ ?_).2 rfl)⟩ <;>
    first | decide | exact ⟨by decide, by decide⟩ | exact ⟨by decide, by decide, by decide, by decide⟩ | exact ⟨rfl, .inl ⟨rfl, rfl, by decide⟩⟩

def case32 : State := locked.setRef 0 { usable with missingSince := some 8000000000 }

def case33 : State :=
  locked.setRef 0 { usable with pendingLabel := some ⟨5, true⟩, prevEdge := none, missingSince := none }

def case34 : State := locked.setRef 0 { usable with prevEdge := some 9900000000, faultScore := 3 }

def case35 : State := locked

def case36 : State := locked.setRef 0 { usable with labelLess := 1 }

def case37 : State := locked.setRef 0 { usable with pendingLabel := some ⟨9, true⟩ }

theorem test_meets_EdgeStartsOrFaults (H : Obligations.EdgeStartsOrFaults) :
    completes (.referenceEdge 0 0 .falling) locked ∧
    completes (.referenceEdge 0 1 .rising) locked ∧
    completes (.referenceEdge 0 0 .rising) case32 ∧
    completes (.referenceEdge 0 0 .rising) case33 ∧
    completes (.referenceEdge 0 0 .rising) case34 ∧
    completes (.referenceEdge 0 0 .rising) case35 ∧
    completes (.referenceEdge 0 0 .rising) case36 ∧
    completes (.referenceEdge 0 0 .rising) case37 := by
  refine ⟨done ((H locked (now locked) 0 0 .falling ⟨rfl, rfl⟩).1 ?_),
    done ((H locked (now locked) 0 1 .rising ⟨rfl, rfl⟩).1 ?_),
    done ((H case32 (now case32) 0 0 .rising ⟨rfl, rfl⟩).2.1 ?_ ?_ 8000000000 rfl ?_),
    done (((H case33 (now case33) 0 0 .rising ⟨rfl, rfl⟩).2.2 ?_ ?_ ?_).1 rfl ⟨5, true⟩ rfl),
    done (((H case34 (now case34) 0 0 .rising ⟨rfl, rfl⟩).2.2 ?_ ?_ ?_).2.1 9900000000 rfl ?_),
    done (((H case35 (now case35) 0 0 .rising ⟨rfl, rfl⟩).2.2 ?_ ?_ ?_).2.2.1 ?_ rfl rfl),
    done (((H case36 (now case36) 0 0 .rising ⟨rfl, rfl⟩).2.2 ?_ ?_ ?_).2.2.2.1 ?_ rfl rfl),
    done (((H case37 (now case37) 0 0 .rising ⟨rfl, rfl⟩).2.2 ?_ ?_ ?_).2.2.2.2 9000000000 ⟨9, true⟩ rfl ?_ rfl rfl ?_)⟩ <;>
    first | decide | exact ⟨by decide, by decide⟩ | exact ⟨by decide, by decide, by decide, by decide⟩ | exact ⟨rfl, .inl ⟨rfl, rfl, by decide⟩⟩

def case38 : State := locked.setRef 4 qualifying

def case39 : State := locked.setRef 4 { qualifying with window := some ⟨4499999990, 0, 88⟩ }

def case40 : State := locked.setRef 4 { qualifying with window := some ⟨4499999990, 1, 9999999⟩ }

def case41 : State := locked.setRef 4 { qualifying with window := some ⟨4499999990, 0, 9999999⟩ }

def case42 : State :=
  locked.setRef 4 { qualifying with window := some ⟨4499999990, 0, 9999999⟩, qualifyTarget := 1, progress := 0 }

def case43 : State :=
  locked.setRef 4 { usable with window := some ⟨4499999990, 0, 9999999⟩, qualifyTarget := 1, progress := 0 }

def case44 : State :=
  locked.setRef 4 { usable with window := some ⟨4499999890, 0, 9999999⟩, qualifyTarget := 1, progress := 0 }

theorem test_meets_LinePulseMeasures (H : Obligations.LinePulseMeasures) :
    completes (.linePulse 0 .five) locked ∧
    completes (.linePulse 0 .four) case38 ∧
    completes (.linePulse 0 .four) case39 ∧
    completes (.linePulse 0 .four) case40 ∧
    completes (.linePulse 0 .four) case41 ∧
    completes (.linePulse 0 .four) case42 ∧
    completes (.linePulse 0 .four) case43 ∧
    completes (.linePulse 0 .four) case44 := by
  refine ⟨done ((H locked (now locked) 0 .five ⟨rfl, rfl⟩).1 ?_),
    done ((H case38 (now case38) 0 .four ⟨rfl, rfl⟩).2.1 ?_ rfl),
    done ((H case39 (now case39) 0 .four ⟨rfl, rfl⟩).2.2.1 ?_ ⟨4499999990, 0, 88⟩ rfl ?_),
    done ((H case40 (now case40) 0 .four ⟨rfl, rfl⟩).2.2.2.1 ?_ ⟨4499999990, 1, 9999999⟩ rfl ?_ ?_),
    done (((H case41 (now case41) 0 .four ⟨rfl, rfl⟩).2.2.2.2 ?_ ⟨4499999990, 0, 9999999⟩ rfl ?_ ?_).2.2 ?_ rfl),
    done (((H case42 (now case42) 0 .four ⟨rfl, rfl⟩).2.2.2.2 ?_ ⟨4499999990, 0, 9999999⟩ rfl ?_ ?_).2.2 ?_ rfl),
    done (((H case43 (now case43) 0 .four ⟨rfl, rfl⟩).2.2.2.2 ?_ ⟨4499999990, 0, 9999999⟩ rfl ?_ ?_).2.1 ?_ rfl),
    done (((H case44 (now case44) 0 .four ⟨rfl, rfl⟩).2.2.2.2 ?_ ⟨4499999890, 0, 9999999⟩ rfl ?_ ?_).1 ?_)⟩ <;>
    first | decide | exact ⟨by decide, by decide⟩ | exact ⟨by decide, by decide, by decide, by decide⟩ | exact ⟨rfl, .inl ⟨rfl, rfl, by decide⟩⟩

def case45 : State := locked.setRef 1 { qualifying with missingSince := some 8750000000 }

def case46 : State := locked.setRef 0 { usable with missingSince := some 8750000000, faultScore := 3 }

def case47 : State :=
  locked.setRef 1 { qualifying with state := .faulted, holdOffRemaining := some 0, faultCause := some .missing, faultScore := 2 }

def case48 : State := locked.setRef 1 { usable with decayClock := some 900, faultScore := 2 }

theorem test_meets_ReferenceTimersExpire (H : Obligations.ReferenceTimersExpire) :
    completes (.missingSampleTimerExpiry 0 1) case45 ∧
    completes (.missingSampleTimerExpiry 0 0) case46 ∧
    completes (.missingSampleTimerExpiry 0 0) locked ∧
    completes (.holdOffExpiry 0 1) case47 ∧
    completes (.holdOffExpiry 0 1) locked ∧
    completes (.faultScoreDecay 0 1) case48 ∧
    completes (.faultScoreDecay 0 1) locked := by
  refine ⟨done ((H case45 (now case45) 0 1 ⟨rfl, rfl⟩).1 ?_ ?_),
    done ((H case46 (now case46) 0 0 ⟨rfl, rfl⟩).1 ?_ ?_),
    done ((H locked (now locked) 0 0 ⟨rfl, rfl⟩).2.1 ?_),
    done ((H case47 (now case47) 0 1 ⟨rfl, rfl⟩).2.2.1 rfl rfl ?_),
    done ((H locked (now locked) 0 1 ⟨rfl, rfl⟩).2.2.2.1 ?_),
    done ((H case48 (now case48) 0 1 ⟨rfl, rfl⟩).2.2.2.2.1 900 rfl rfl ?_),
    done ((H locked (now locked) 0 1 ⟨rfl, rfl⟩).2.2.2.2.2 ?_)⟩ <;>
    first | decide | exact ⟨by decide, by decide⟩ | exact ⟨by decide, by decide, by decide, by decide⟩ | exact ⟨rfl, .inl ⟨rfl, rfl, by decide⟩⟩

def case49 : State :=
  withAlarm (locked.setRef 1 { usable with state := .lockedOut, faultScore := 4, faultCause := some .glitch, missingSince := none }) 4 ⟨.activeNew, .refLockedOut, 1, none, .major, none, 1, 2, 3⟩

def case50 : State := locked.setRef 1 { RefEntry.reset 40 with faultScore := 4 }

theorem test_meets_ClearLockoutFollowsTheState (H : Obligations.ClearLockoutFollowsTheState) :
    completes (.clearLockout 0 (ask 1 0 []) .whole) case49 ∧
    completes (.clearLockout 0 (ask 1 0 []) .whole) case50 ∧
    completes (.clearLockout 0 (ask 0 0 []) .whole) locked := by
  refine ⟨done ((H case49 (now case49) 0 (ask 1 0 []) .whole 1 ⟨rfl, rfl⟩ ?_ ?_).1 rfl),
    done ((H case50 (now case50) 0 (ask 1 0 []) .whole 1 ⟨rfl, rfl⟩ ?_ ?_).2.1 rfl rfl),
    refusedDone ((H locked (now locked) 0 (ask 0 0 []) .whole 0 ⟨rfl, rfl⟩ ?_ ?_).2.2 ?_ ?_)⟩ <;>
    first | decide | exact ⟨by decide, by decide⟩ | exact ⟨by decide, by decide, by decide, by decide⟩ | exact ⟨rfl, .inl ⟨rfl, rfl, by decide⟩⟩

def case51 : State := locked.setPort 3 { Port.reset with state := .down }

def case52 : State := locked.setPort 3 { Port.reset with state := .conflict }

def case53 : State :=
  withLease (withLease (serving.setRef 6 { usable with boundLease := some 3 }) 3 { unit with tag := 8, offer := .bound .six, state := .suspended }) 4 { unit with tag := 9, port := 1 }

/-- `s` with `n` symbols counted at the receiver of port `p`. -/
def counting (p : PortIx) (n : Nat) (s : State) : State := s.setLane p ⟨n, none⟩

theorem test_meets_LockOpensAndDownsThePort (H : Obligations.LockOpensAndDownsThePort) :
    completes (.laneLockGained 0 ⟨3, [], .idle⟩) (counting 3 1022 case51) ∧
    completes (.laneLockGained 0 ⟨3, [], .idle⟩) (counting 3 1023 case51) ∧
    completes (.laneLockGained 0 ⟨3, [], .idle⟩) (counting 3 1023 case52) ∧
    completes (.laneLockLost 0 ⟨0, []⟩) (counting 0 14 case53) ∧
    completes (.laneLockLost 0 ⟨0, []⟩) (counting 0 15 case53) ∧
    completes (.laneLockLost 0 ⟨3, []⟩) (counting 3 15 lockedLanes) ∧
    completes (.laneLockLost 0 ⟨3, []⟩) (counting 3 1023 case52) := by
  refine ⟨done (((H (counting 3 1022 case51) (now (counting 3 1022 case51)) 0 3 [] ⟨rfl, rfl⟩).1 rfl .idle).1 ?_),
    done (((H (counting 3 1023 case51) (now (counting 3 1023 case51)) 0 3 [] ⟨rfl, rfl⟩).1 rfl .idle).2.1 ?_ rfl),
    done (((H (counting 3 1023 case52) (now (counting 3 1023 case52)) 0 3 [] ⟨rfl, rfl⟩).1 rfl .idle).2.2 ?_ ?_),
    done (((H (counting 0 14 case53) (now (counting 0 14 case53)) 0 0 [] ⟨rfl, rfl⟩).2.1 rfl).1 ?_),
    done (((H (counting 0 15 case53) (now (counting 0 15 case53)) 0 0 [] ⟨rfl, rfl⟩).2.1 rfl).2.1 ?_ rfl),
    done (((H (counting 3 15 lockedLanes) (now (counting 3 15 lockedLanes)) 0 3 [] ⟨rfl, rfl⟩).2.1 rfl).2.2 ?_ ?_),
    done ((H (counting 3 1023 case52) (now (counting 3 1023 case52)) 0 3 [] ⟨rfl, rfl⟩).2.2 rfl)⟩ <;> decide

/-- `s` with a frame open at the receiver of port 0, and its data symbols so far. -/
def opened (data : List Byte) (s : State) : State := s.setLane 0 ⟨0, some ⟨⟨5, 0⟩, data⟩⟩

theorem test_meets_LaneReceiverAssemblesFrames (H : Obligations.LaneReceiverAssemblesFrames) :
    completes (.laneLockGained 0 ⟨0, [], .frameStart⟩) serving ∧
    completes (.laneLockGained 0 ⟨0, [], .data 3⟩) (opened [7] serving) ∧
    completes (.laneLockGained 0 ⟨0, [], .idle⟩) (opened [7] serving) ∧
    completes (.laneLockGained 0 ⟨0, [], .boundary 31⟩) (opened [7] serving) ∧
    completes (.laneLockGained 0 ⟨0, [], .frameEnd⟩) (opened [7] serving) ∧
    completes (.laneLockGained 0 ⟨0, [], .frameEnd⟩) (opened [0x13, 1, 5, 0xB5, 0x3B] serving) ∧
    completes (.laneLockGained 0 ⟨0, [], .idle⟩) serving ∧ completes (.laneLockLost 0 ⟨0, []⟩) serving :=
  ⟨done ((H.2.1 serving (now serving) 0 0 [] .frameStart ⟨rfl, rfl⟩ rfl).1 rfl),
    done ((H.2.1 (opened [7] serving) (now (opened [7] serving)) 0 0 [] (.data 3) ⟨rfl, rfl⟩ rfl).2.1 3 rfl),
    done ((H.2.1 (opened [7] serving) (now (opened [7] serving)) 0 0 [] .idle ⟨rfl, rfl⟩ rfl).2.2.1 (.inl rfl)),
    done ((H.2.1 (opened [7] serving) (now (opened [7] serving)) 0 0 [] (.boundary 31) ⟨rfl, rfl⟩ rfl).2.2.1 (.inr ⟨31, rfl⟩)),
    done ((H.2.1 (opened [7] serving) (now (opened [7] serving)) 0 0 [] .frameEnd ⟨rfl, rfl⟩ rfl).2.2.2.1 rfl
      fun f h => by cases h; decide),
    ⟨_, (H.2.1 (opened [0x13, 1, 5, 0xB5, 0x3B] serving) (now (opened [0x13, 1, 5, 0xB5, 0x3B] serving)) 0 0 [] .frameEnd ⟨rfl, rfl⟩
      rfl).2.2.2.2 ⟨⟨5, 0⟩, [0x13, 1, 5, 0xB5, 0x3B]⟩ (.leave 5) rfl rfl (by decide +kernel)⟩,
    ⟨_, (H.2.2.2 serving ((now serving).hearSymbol 0 (now serving).capture (some .idle)) 0 0 0 []).2.1 .idle ⟨rfl, rfl⟩⟩,
    ⟨_, (H.2.2.2 serving ((now serving).hearSymbol 0 (now serving).capture none) 0 0 0 []).2.2 ⟨rfl, rfl⟩⟩⟩

theorem lagree (s : State) (h : (∀ l k : LeaseIx, ∀ x, s.lease l = some x → ∀ y, s.lease k = some y → x.tag = y.tag → l = k) ∧ (∀ p, (s.port p).liveLeases = s.liveOn p ∧ (s.port p).liveLeases ≤ 4) ∧ ∀ l : LeaseIx, ∀ x, s.lease l = some x → (x.offer = .bound .six → (s.ref 6).boundLease = some l) ∧ (x.offer = .bound .seven → (s.ref 7).boundLease = some l)) : s.LeasesAgree := ⟨fun l k x y a b => h.1 l k x a y b, h.2.1, fun l x p a b => by cases p <;> [exact (h.2.2 l x a).1 b; exact (h.2.2 l x a).2 b]⟩

def case54 : State :=
  withLease (withLease (withLease (serving.setRef 6 { usable with boundLease := some 3, faultScore := 3 }) 3 { unit with tag := 8, offer := .bound .six }) 4 { unit with tag := 9, port := 1 }) 5 { unit with tag := 10, state := .pending, deadline := some 77 }

def case55 : State := withLease (serving) 5 { unit with tag := 10, state := .suspended, suspendCause := some .host }

/-- The body of a MARK: 13 bytes, whatever they are. -/
def markBody : List Byte := List.replicate 13 0

theorem test_meets_HubFrameBringsConflict (H : Obligations.HubFrameBringsConflict) :
    completes (.hubFrameReceived 0 ⟨0, []⟩ ⟨.mark, markBody⟩) case54 ∧
    completes (.hubFrameReceived 0 ⟨0, []⟩ ⟨.mark, markBody⟩) case55 ∧
    completes (.hubFrameReceived 0 ⟨0, []⟩ ⟨.mark, markBody⟩) lockedLanes := by
  refine ⟨done ((H case54 (ended 0 case54) 0 0 [] .mark markBody (onLane rfl rfl) rfl).1 rfl (lagree _ ?_)),
    done ((H case55 (ended 0 case55) 0 0 [] .mark markBody (onLane rfl rfl) rfl).1 rfl (lagree _ ?_)),
    done ((H lockedLanes (ended 0 lockedLanes) 0 0 [] .mark markBody (onLane rfl rfl) rfl).2 ?_)⟩ <;>
    first | decide | exact ⟨by decide, by decide⟩ | exact ⟨by decide, by decide, by decide, by decide⟩ | exact ⟨rfl, .inl ⟨rfl, rfl, by decide⟩⟩

def case56 : State :=
  serving.setPort 0 { Port.reset with state := .opened, queue := [.mark 0 6 5 .a false false, .wait 4], tx := some ⟨.symbol 0, 9999999984⟩ }

def case57 : State :=
  (withLease (withLease serving 1 { unit with tag := 8, notice := some ⟨.degraded, 2⟩ }) 2 { unit with tag := 9, notice := some ⟨.step, 2⟩ }).setPort 0 { Port.reset with state := .opened, queue := .echo 1 2 :: List.replicate 15 (.wait 4), schedule := [⟨0, 6000000000, 6, 0⟩] }

def case58 : State :=
  serving.setPort 0 { Port.reset with state := .opened, queue := [.wait 4], schedule := [⟨0, 5500000079, 6, 0⟩] }

def case59 : State :=
  serving.setPort 0 { Port.reset with state := .opened, queue := [.wait 4], schedule := [⟨0, 5500000080, 6, 0⟩] }

theorem test_meets_FrameDeparts (H : Obligations.FrameDeparts) :
    completes (.frameDeparture 0 0) case56 ∧
    completes (.frameDeparture 0 0) case57 ∧
    completes (.frameDeparture 0 0) case58 ∧
    completes (.frameDeparture 0 0) case59 := by
  refine ⟨done ((H case56 (now case56) 0 0 ⟨rfl, rfl⟩).1 (.mark 0 6 5 .a false false) [.wait 4] rfl ?_),
    done ((H case57 (now case57) 0 0 ⟨rfl, rfl⟩).1 (.echo 1 2) (List.replicate 15 (.wait 4)) rfl ?_),
    done ((H case58 (now case58) 0 0 ⟨rfl, rfl⟩).2 (Or.inr ⟨.wait 4, [], rfl, ?_⟩)),
    done ((H case59 (now case59) 0 0 ⟨rfl, rfl⟩).1 (.wait 4) [] rfl ?_)⟩ <;>
    first | decide | exact ⟨by decide, by decide⟩ | exact ⟨by decide, by decide, by decide, by decide⟩ | exact ⟨rfl, .inl ⟨rfl, rfl, by decide⟩⟩

def case60 : State :=
  (withLease (serving.setRef 6 { usable with boundLease := some 1 }) 1 { unit with tag := 8, symbol := none, offer := .bound .six }).setPort 0 { Port.reset with state := .opened, schedule := [⟨0, 5500000001, 6, 0⟩, ⟨0, 5500000000, 6, 0⟩, ⟨1, 5499999999, 7, 0⟩] }

theorem test_meets_BoundarySymbolIsEmitted (H : Obligations.BoundarySymbolIsEmitted) :
    completes (.boundarySymbolEmission 0 0) case60 := by
  refine done ((H case60 (now case60) 0 0 ⟨rfl, rfl⟩).1 ⟨1, 5499999999, 7, 0⟩ ?_ (fun x hx hn => (show ∀ x ∈ (now case60).ports[0].schedule, reached (now case60).tb.siteTime x.instant = true → x ≠ (⟨1, 5499999999, 7, 0⟩ : SymbolEntry) → (SymbolEntry.before ⟨1, 5499999999, 7, 0⟩ x = true ∧ x.before ⟨1, 5499999999, 7, 0⟩ = false) from ?_) x hx.1 hx.2 hn) ?_) <;>
    first | decide | exact ⟨by decide, by decide⟩ | exact ⟨by decide, by decide, by decide, by decide⟩ | exact ⟨rfl, .inl ⟨rfl, rfl, by decide⟩⟩

def case61 : State := locked.setPort 3 { Port.reset with state := .closed, linkUp := false, rev := 4 }

def case62 : State :=
  (withLease (serving.setLeaseSlot 0 ⟨3, some { unit with state := .suspended, suspendCause := some .conflict }⟩) 5 { unit with tag := 10, port := 3 }).setPort 0 { Port.reset with state := .conflict, linkUp := true, liveLeases := 1 }

def case63 : State :=
  (withLease (serving.setLeaseSlot 0 ⟨3, some { unit with state := .suspended, suspendCause := some .conflict }⟩) 5 { unit with tag := 10, port := 3 }).setPort 0 { Port.reset with state := .conflict, liveLeases := 1 }

theorem test_meets_ReopenAndClose (H : Obligations.ReopenAndClose) :
    completes (.reopen 0 (ask 3 0 []) .whole) case61 ∧
    completes (.close 0 (ask 3 0 []) .whole) case61 ∧
    completes (.reopen 0 (ask 3 0 []) .whole) locked ∧
    completes (.reopen 0 (ask 3 0 []) .whole) State.reset ∧
    completes (.close 0 (ask 3 0 []) .whole) State.reset ∧
    completes (.reopen 0 (ask 0 0 []) .whole) case62 ∧
    completes (.reopen 0 (ask 0 0 []) .whole) case63 ∧
    completes (.close 0 (ask 0 0 []) .whole) serving := by
  refine ⟨done (((H case61 (now case61) 0 (ask 3 0 []) .whole 3 ⟨rfl, rfl⟩ ?_).1 ?_).2.2.1 rfl rfl),
    done (((H case61 (now case61) 0 (ask 3 0 []) .whole 3 ⟨rfl, rfl⟩ ?_).2 ?_).2.1 rfl rfl),
    refusedDone (((H locked (now locked) 0 (ask 3 0 []) .whole 3 ⟨rfl, rfl⟩ ?_).1 ?_).2.1 rfl ?_),
    refusedDone (((H State.reset (now State.reset) 0 (ask 3 0 []) .whole 3 ⟨rfl, rfl⟩ ?_).1 ?_).1 rfl),
    refusedDone (((H State.reset (now State.reset) 0 (ask 3 0 []) .whole 3 ⟨rfl, rfl⟩ ?_).2 ?_).1 rfl),
    done (((H case62 (now case62) 0 (ask 0 0 []) .whole 0 ⟨rfl, rfl⟩ ?_).1 ?_).2.2.2.1 rfl rfl rfl),
    done (((H case63 (now case63) 0 (ask 0 0 []) .whole 0 ⟨rfl, rfl⟩ ?_).1 ?_).2.2.2.2 rfl rfl rfl),
    done (((H serving (now serving) 0 (ask 0 0 []) .whole 0 ⟨rfl, rfl⟩ ?_).2 ?_).2.2 rfl ?_)⟩ <;>
    first | decide | exact ⟨by decide, by decide⟩ | exact ⟨by decide, by decide, by decide, by decide⟩ | exact ⟨rfl, .inl ⟨rfl, rfl, by decide⟩⟩

def withReports (s : State) (r : List DepartureReport) : State := s.updPort 0 fun p => { p with reports := r }

def inFlight (s : State) (st : EchoStanding) (n : Nat) (samples : List Int) (timeouts : Nat := 0) : State := s.updScanner 0 fun c => { c with batch := some ⟨0, .routine, samples, timeouts, BitVec.ofNat 2 n, st⟩ }

def unitIs (s : State) (x : Lease) : State := s.setLeaseSlot 0 ⟨1, some x⟩

def case64 : State := withReports serving [.echo 0 2 ⟨5, 0⟩, .mark 0 6, .mark 0 7]

def case65 : State := withReports (unitIs serving { unit with credit := some 9 }) [.mark 0 6]

def case66 : State :=
  (withReports (unitIs serving { unit with credit := some 3, grantedCredit := 3, notice := some ⟨.step, 9⟩ }) [.mark 0 6]).updPort 0 fun p => { p with queue := List.replicate 16 (.wait 3) }

def case67 : State := withReports (unitIs serving { unit with credit := some 1 }) [.mark 0 6]

/-- A credit of 0, which a CHANGE from unlimited credit can leave. -/
def spent : State := withReports (unitIs serving { unit with credit := some 0 }) [.mark 0 6]

def case68 : State := withReports (unitIs serving { unit with credit := none }) [.mark 0 6]

def case69 : State := withReports (inFlight serving .waiting 2 [5]) [.mark 0 6, .echo 0 2 ⟨5, 0⟩]

def case70 : State := withReports (inFlight serving .waiting 1 [5]) [.mark 0 6, .echo 0 2 ⟨5, 0⟩]

theorem test_meets_DepartureReportsAreTaken (H : Obligations.DepartureReportsAreTaken) :
    completes (.markDeparture 0 0) case64 ∧
    completes (.markDeparture 0 0) case65 ∧
    completes (.markDeparture 0 0) case66 ∧
    completes (.markDeparture 0 0) case67 ∧
    completes (.markDeparture 0 0) spent ∧
    completes (.markDeparture 0 0) case68 ∧
    completes (.echoDeparture 0 0) case69 ∧
    completes (.echoDeparture 0 0) case70 := by
  refine ⟨done (((H case64 (now case64) 0 0 [.echo 0 2 ⟨5, 0⟩] [.mark 0 7] 0 ⟨rfl, rfl⟩).1 6 rfl ?_).1 unit 60 rfl rfl rfl rfl ?_),
    done (((H case65 (now case65) 0 0 [] [] 0 ⟨rfl, rfl⟩).1 6 rfl ?_).1 { unit with credit := some 9 } 9 rfl rfl rfl rfl ?_),
    done (((H case66 (now case66) 0 0 [] [] 0 ⟨rfl, rfl⟩).1 6 rfl ?_).1 { unit with credit := some 3, grantedCredit := 3, notice := some ⟨.step, 9⟩ } 3 rfl rfl rfl rfl ?_),
    done (((H case67 (now case67) 0 0 [] [] 0 ⟨rfl, rfl⟩).1 6 rfl ?_).2.1 { unit with credit := some 1 } 1 rfl rfl rfl ?_),
    done (((H spent (now spent) 0 0 [] [] 0 ⟨rfl, rfl⟩).1 6 rfl ?_).2.1 { unit with credit := some 0 } 0 rfl rfl rfl ?_),
    done (((H case68 (now case68) 0 0 [] [] 0 ⟨rfl, rfl⟩).1 6 rfl ?_).2.2 ?_),
    done (((H case69 (now case69) 0 0 [.mark 0 6] [] 0 ⟨rfl, rfl⟩).2 2 ⟨5, 0⟩ rfl ?_).1 ⟨0, .routine, [5], 0, 2, .waiting⟩ rfl rfl rfl rfl),
    done (((H case70 (now case70) 0 0 [.mark 0 6] [] 0 ⟨rfl, rfl⟩).2 2 ⟨5, 0⟩ rfl ?_).2 ?_)⟩ <;>
    first | decide | exact ⟨by decide, by decide⟩ | exact ⟨by decide, by decide, by decide, by decide⟩ | exact ⟨rfl, .inl ⟨rfl, rfl, by decide⟩⟩

def case71 : State := inFlight serving (.departed 5499990000 0 9999990000) 2 [1100, 1101]

def case72 : State :=
  inFlight (unitIs serving { unit with state := .measuring }) (.departed 5499990000 0 9999990000) 2 [1100, 1101, 1099]

def case73 : State :=
  inFlight (unitIs serving { unit with compensation := some 540 }) (.departed 5499990000 0 9999990000) 2 [1100, 1101, 1099]

def case74 : State :=
  inFlight (unitIs (serving.setRef 6 { usable with boundLease := some 0, faultScore := 2 }) { unit with compensation := some 571, offer := .bound .six }) (.departed 5499990000 0 9999990000) 2 [1100, 1101, 1099]

def case75 : State :=
  inFlight (unitIs (serving.setRef 6 { usable with boundLease := some 0, faultScore := 3 }) { unit with compensation := some 571, offer := .bound .six }) (.departed 5499990000 0 9999990000) 2 [1100, 1101, 1099]

def case76 : State := inFlight serving (.departed 5499990000 0 9999990000) 2 [1200, 1101, 1099]

/-- `s` at a site time and a step number: what an ECHO-BACK captures that ends with no time gone by. -/
def heard (site : Nat) (step : BitVec 8) (s : State) : State := { s with tb := { s.tb with siteTime := site, stepNumber := step } }

theorem test_meets_EchoBackGivesASample (H : Obligations.EchoBackGivesASample) :
    completes (.echoBack 0 ⟨0, []⟩ 0 2) lockedLanes ∧
    completes (.echoBack 0 ⟨0, []⟩ 0 4) (heard 5 0 case71) ∧
    completes (.echoBack 0 ⟨0, []⟩ 9 2) (heard 5 0 case71) ∧
    completes (.echoBack 0 ⟨0, []⟩ 0 2) (heard 5499991200 1 case71) ∧
    completes (.echoBack 0 ⟨0, []⟩ 0 2) (heard 5499991200 0 case71) ∧
    completes (.echoBack 0 ⟨0, []⟩ 0 1) (heard 5499991200 0 case71) ∧
    completes (.echoBack 0 ⟨0, []⟩ 0 2) (heard 5499991200 0 case72) ∧
    completes (.echoBack 0 ⟨0, []⟩ 0 2) (heard 5499991200 0 case73) ∧
    completes (.echoBack 0 ⟨0, []⟩ 0 2) (heard 5499991200 0 case74) ∧
    completes (.echoBack 0 ⟨0, []⟩ 0 2) (heard 5499991200 0 case76) := by
  refine ⟨done (H.1 lockedLanes (ended 0 lockedLanes) 0 0 [] ⟨0, 2⟩ (onLane rfl rfl) (.inl ?_)),
    done (H.1 (heard 5 0 case71) (ended 0 (heard 5 0 case71)) 0 0 [] ⟨0, 4⟩ (onLane rfl rfl) (.inr (.inl ?_))),
    done (H.1 (heard 5 0 case71) (ended 0 (heard 5 0 case71)) 0 0 [] ⟨9, 2⟩ (onLane rfl rfl)
      (.inr (.inr fun l x h1 h2 => by have : l = 9 := Fin.ext h1.symm; subst this; cases (show none = some x from h2)))),
    done ((H.2 (heard 5499991200 1 case71) (ended 0 (heard 5499991200 1 case71)) 0 0 [] ⟨0, 2⟩ 0 unit ⟨0, .routine, [1100, 1101], 0, 2, .departed 5499990000 0 9999990000⟩ 5499990000 0 9999990000 (onLane rfl rfl) rfl rfl rfl rfl rfl).1 ?_ ?_ ?_),
    done ((H.2 (heard 5499991200 0 case71) (ended 0 (heard 5499991200 0 case71)) 0 0 [] ⟨0, 2⟩ 0 unit ⟨0, .routine, [1100, 1101], 0, 2, .departed 5499990000 0 9999990000⟩ 5499990000 0 9999990000 (onLane rfl rfl) rfl rfl rfl rfl rfl).2.1 ?_ ?_ rfl ?_),
    done ((H.2 (heard 5499991200 0 case71) (ended 0 (heard 5499991200 0 case71)) 0 0 [] ⟨0, 1⟩ 0 unit ⟨0, .routine, [1100, 1101], 0, 2, .departed 5499990000 0 9999990000⟩ 5499990000 0 9999990000 (onLane rfl rfl) rfl rfl rfl rfl rfl).2.2.2.2.2 ?_ (Or.inr (Or.inl ?_))),
    done ((H.2 (heard 5499991200 0 case72) (ended 0 (heard 5499991200 0 case72)) 0 0 [] ⟨0, 2⟩ 0 { unit with state := .measuring } ⟨0, .routine, [1100, 1101, 1099], 0, 2, .departed 5499990000 0 9999990000⟩ 5499990000 0 9999990000 (onLane rfl rfl) rfl rfl rfl rfl rfl).2.2.1 ?_ ?_ rfl ?_ ?_ rfl),
    done (((H.2 (heard 5499991200 0 case73) (ended 0 (heard 5499991200 0 case73)) 0 0 [] ⟨0, 2⟩ 0 { unit with compensation := some 540 } ⟨0, .routine, [1100, 1101, 1099], 0, 2, .departed 5499990000 0 9999990000⟩ 5499990000 0 9999990000 (onLane rfl rfl) rfl rfl rfl rfl rfl).2.2.2.1 ?_ ?_ rfl ?_ ?_ rfl |>.1 540 rfl ?_)),
    done (((H.2 (heard 5499991200 0 case74) (ended 0 (heard 5499991200 0 case74)) 0 0 [] ⟨0, 2⟩ 0 { unit with compensation := some 571, offer := .bound .six } ⟨0, .routine, [1100, 1101, 1099], 0, 2, .departed 5499990000 0 9999990000⟩ 5499990000 0 9999990000 (onLane rfl rfl) rfl rfl rfl rfl rfl).2.2.2.1 ?_ ?_ rfl ?_ ?_ rfl |>.2 571 rfl ?_ (lagree _ ?_))),
    done ((H.2 (heard 5499991200 0 case76) (ended 0 (heard 5499991200 0 case76)) 0 0 [] ⟨0, 2⟩ 0 unit ⟨0, .routine, [1200, 1101, 1099], 0, 2, .departed 5499990000 0 9999990000⟩ 5499990000 0 9999990000 (onLane rfl rfl) rfl rfl rfl rfl rfl).2.2.2.2.1 ?_ ?_ rfl ?_ ?_ ?_)⟩ <;>
    first | decide | exact ⟨by decide, by decide⟩ | exact ⟨by decide, by decide, by decide, by decide⟩ | exact ⟨rfl, .inl ⟨rfl, rfl, by decide⟩⟩

def case77 : State := inFlight serving (.departed 5499990000 0 9998000000) 3 [1200, 1101, 1099]

def case78 : State :=
  inFlight (unitIs (serving.setRef 6 { usable with boundLease := some 0, faultScore := 3 }) { unit with compensation := some 571, offer := .bound .six }) (.departed 5499990000 0 9998000000) 3 [1200] 2

def case79 : State :=
  (withLease (withLease serving 3 { unit with tag := 8 }) 1 { unit with tag := 9 }).updScanner 0 fun c => { c with roundRobin := some 1, lastRoutine := some 0 }

def case80 : State :=
  (withLease (withLease serving 3 { unit with tag := 8 }) 1 { unit with tag := 9 }).updScanner 0 fun c => { c with roundRobin := some 3, lastRoutine := none }

def case81 : State := serving.updScanner 0 fun c => { c with lastRoutine := some 1 }

theorem test_meets_EchoTimerAndRoutineBatch (H : Obligations.EchoTimerAndRoutineBatch) :
    completes (.echoTimerExpiry 0 0) case77 ∧
    completes (.echoTimerExpiry 0 0) case78 ∧
    completes (.echoTimerExpiry 0 0) serving ∧
    completes (.routineBatchDue 0 0) case79 ∧
    completes (.routineBatchDue 0 0) case80 ∧
    completes (.routineBatchDue 0 0) case81 := by
  refine ⟨done (((H case77 (now case77) 0 0 ⟨rfl, rfl⟩).1 ⟨0, .routine, [1200, 1101, 1099], 0, 3, .departed 5499990000 0 9998000000⟩ 9998000000 rfl rfl ?_ |>.1 ?_)),
    done (((H case78 (now case78) 0 0 ⟨rfl, rfl⟩).1 ⟨0, .routine, [1200], 2, 3, .departed 5499990000 0 9998000000⟩ 9998000000 rfl rfl ?_ |>.2 { unit with compensation := some 571, offer := .bound .six } ?_ rfl rfl ?_ (lagree _ ?_))),
    done ((H serving (now serving) 0 0 ⟨rfl, rfl⟩).2.1 (fun b t0 h => by cases (show (none : Option Batch) = some b from h))),
    done ((H case79 (now case79) 0 0 ⟨rfl, rfl⟩).2.2.1 3 rfl rfl rfl ?_ ?_ ?_ (Or.inl ?_)),
    done ((H case80 (now case80) 0 0 ⟨rfl, rfl⟩).2.2.1 0 rfl rfl rfl ?_ ?_ ?_ (Or.inr ?_)),
    done ((H case81 (now case81) 0 0 ⟨rfl, rfl⟩).2.2.2 ?_)⟩ <;>
    first | decide | exact ⟨by decide, by decide⟩ | exact ⟨by decide, by decide, by decide, by decide⟩ | exact ⟨rfl, .inl ⟨rfl, rfl, by decide⟩⟩

def open7 (s : State) (a : Admission) : State := s.setAdmission 0 ⟨1, some a⟩

def case82 : State :=
  withAlarm (open7 locked admits7) 3 ⟨.clearedUnseen, .leaseExpired, 0, some 7, .minor, none, 1, 2, 3⟩

def case83 : State := open7 locked { admits7 with decision := .ask, offerAllowed := false }

theorem test_meets_JoinCreatesALease (H : Obligations.JoinCreatesALease) :
    completes (.join 0 ⟨2, []⟩ { tag := 7, wanted := 1, offer := 1, turnaround := 300 }) case82 ∧
    completes (.join 0 ⟨2, []⟩ { tag := 7, wanted := 4, offer := 1, turnaround := 300 }) case83 := by
  refine ⟨done (H case82 (ended 2 case82) 0 2 [] ⟨7, 1, 1, 300⟩ .a 0 admits7 1 (onLane rfl rfl) rfl rfl ?_ ?_ rfl ?_ ?_ ?_ ?_ ?_ rfl ?_),
    done (H case83 (ended 2 case83) 0 2 [] ⟨7, 4, 1, 300⟩ .d 0 { admits7 with decision := .ask, offerAllowed := false } 0 (onLane rfl rfl) rfl rfl ?_ ?_ rfl ?_ ?_ ?_ ?_ ?_ rfl ?_)⟩ <;>
    first | decide | exact ⟨by decide, by decide⟩ | exact ⟨by decide, by decide, by decide, by decide⟩ | exact ⟨rfl, .inl ⟨rfl, rfl, by decide⟩⟩

def case84 : State := unitIs serving { unit with state := .pending, deadline := some 12 }

def case85 : State := unitIs serving { unit with state := .suspended, suspendCause := some .host }

def case86 : State := open7 locked { admits7 with decision := .deny }

def case87 : State :=
  open7 (withLease (withLease (withLease (withLease locked 3 { unit with tag := 13 }) 4 { unit with tag := 14 }) 5 { unit with tag := 15 }) 6 { unit with tag := 16 }) admits7

def case88 : State :=
  open7 ((List.finRange 32).foldl (fun s l => withLease s l { unit with tag := BitVec.ofNat 32 (100 + l), port := 1 }) locked) admits7

theorem test_meets_JoinIsRefusedOrRejoins (H : Obligations.JoinIsRefusedOrRejoins) :
    completes (.join 0 ⟨2, []⟩ { tag := 7, wanted := 1, offer := 1, turnaround := 300 }) lockedLanes ∧
    completes (.join 0 ⟨2, []⟩ { tag := 7, wanted := 1, offer := 1, turnaround := 300 }) serving ∧
    completes (.join 0 ⟨0, []⟩ { tag := 7, wanted := 1, offer := 1, turnaround := 300 }) case84 ∧
    completes (.join 0 ⟨0, []⟩ { tag := 7, wanted := 1, offer := 1, turnaround := 300 }) case85 ∧
    completes (.join 0 ⟨0, []⟩ { tag := 7, wanted := 1, offer := 1, turnaround := 300 }) serving ∧
    completes (.join 0 ⟨0, []⟩ { tag := 7, wanted := 1, offer := 1, turnaround := 300 }) locked := by
  refine ⟨done ((H lockedLanes (ended 2 lockedLanes) 0 2 [] ⟨7, 1, 1, 300⟩ .a (onLane rfl rfl)).1 ?_),
    done ((((H serving (ended 2 serving) 0 2 [] ⟨7, 1, 1, 300⟩ .a (onLane rfl rfl)).2 rfl ?_ rfl).1 0 unit rfl rfl (lagree _ ?_) |>.1 ?_)),
    done ((((H case84 (ended 0 case84) 0 0 [] ⟨7, 1, 1, 300⟩ .a (onLane rfl rfl)).2 rfl ?_ rfl).1 0 { unit with state := .pending, deadline := some 12 } rfl rfl (lagree _ ?_) |>.2.1 rfl rfl)),
    done ((((H case85 (ended 0 case85) 0 0 [] ⟨7, 1, 1, 300⟩ .a (onLane rfl rfl)).2 rfl ?_ rfl).1 0 { unit with state := .suspended, suspendCause := some .host } rfl rfl (lagree _ ?_) |>.2.2.1 rfl rfl rfl)),
    done ((((H serving (ended 0 serving) 0 0 [] ⟨7, 1, 1, 300⟩ .a (onLane rfl rfl)).2 rfl ?_ rfl).1 0 unit rfl rfl (lagree _ ?_) |>.2.2.2 rfl ?_ ?_)),
    done ((((H locked (ended 0 locked) 0 0 [] ⟨7, 1, 1, 300⟩ .a (onLane rfl rfl)).2 rfl ?_ rfl).2 ?_ |>.1 (Or.inl ?_)))⟩ <;>
    first | decide | exact ⟨by decide, by decide⟩ | exact ⟨by decide, by decide, by decide, by decide⟩ | exact ⟨rfl, .inl ⟨rfl, rfl, by decide⟩⟩

def boundUnit : Lease := { unit with offer := .bound .six }

def case89 : State :=
  withLease { unitIs ((serving.setRef 6 { usable with boundLease := some 0 })) boundUnit with tb := { serving.tb with selected := some 6 } } 4 { unit with tag := 9, port := 1, required := .a }

def pend (d : Nat) : Lease := { unit with state := .pending, deadline := some d }

def case90 : State := unitIs serving (pend 10)

def case91 : State := unitIs serving (pend 11)

theorem test_meets_LeasesAreRetired (H : Obligations.LeasesAreRetired) :
    completes (.leave 0 ⟨0, []⟩ 0) case89 ∧
    completes (.leave 0 ⟨1, []⟩ 0) case89 ∧
    completes (.approvalDeadlineExpiry 0 0) case89 ∧
    completes (.retireLease 0 (ask 0 1 []) .whole) case89 ∧
    completes (.deny 0 (ask 0 1 []) .whole) case89 ∧
    completes (.approvalDeadlineExpiry 0 0) case90 ∧
    completes (.deny 0 (ask 0 1 []) .whole) case90 ∧
    completes (.approvalDeadlineExpiry 0 0) case91 := by
  refine ⟨done (((H case89 (ended 0 case89) 0 0 boundUnit rfl).1 0 [] 0 (onLane rfl rfl) rfl).1 rfl rfl),
    done (((H case89 (ended 1 case89) 0 0 boundUnit rfl).1 1 [] 0 (onLane rfl rfl) rfl).2 ?_),
    done (((H case89 (now case89) 0 0 boundUnit rfl).2 ⟨rfl, rfl⟩ |>.2.1 ?_)),
    done (((H case89 (now case89) 0 0 boundUnit rfl).2 ⟨rfl, rfl⟩ |>.2.2 (ask 0 1 []) .whole ?_ ?_).1 ?_),
    refusedDone ((((H case89 (now case89) 0 0 boundUnit rfl).2 ⟨rfl, rfl⟩ |>.2.2 (ask 0 1 []) .whole ?_ ?_).2 ?_ |>.2 ?_)),
    done (((H case90 (now case90) 0 0 (pend 10) rfl).2 ⟨rfl, rfl⟩ |>.1 10 rfl rfl).1 ?_),
    done ((((H case90 (now case90) 0 0 (pend 10) rfl).2 ⟨rfl, rfl⟩ |>.2.2 (ask 0 1 []) .whole ?_ ?_).2 ?_ |>.1 ?_)),
    done (((H case91 (now case91) 0 0 (pend 11) rfl).2 ⟨rfl, rfl⟩ |>.1 11 rfl rfl).2 ?_)⟩ <;>
    first | decide | exact ⟨by decide, by decide⟩ | exact ⟨by decide, by decide, by decide, by decide⟩ | exact ⟨rfl, .inl ⟨rfl, rfl, by decide⟩⟩

def case92 : State := unitIs serving { unit with credit := some 5, notice := some ⟨.renewDue, 8⟩ }

theorem test_meets_RenewRestoresTheCredit (H : Obligations.RenewRestoresTheCredit) :
    completes (.renew 0 ⟨0, []⟩ 0) case92 ∧
    completes (.renew 0 ⟨0, []⟩ 0) serving ∧
    completes (.renew 0 ⟨1, []⟩ 0) serving := by
  refine ⟨done (((H case92 (ended 0 case92) 0 0 [] 0 (onLane rfl rfl)).1 0 { unit with credit := some 5, notice := some ⟨.renewDue, 8⟩ } rfl rfl rfl rfl).1 ?_ ?_),
    done (((H serving (ended 0 serving) 0 0 [] 0 (onLane rfl rfl)).1 0 unit rfl rfl rfl rfl).2 ?_),
    done (((H serving (ended 1 serving) 0 1 [] 0 (onLane rfl rfl)).2 (Or.inr fun l x h1 h2 => by have : l = 0 := Fin.ext h1.symm; subst this; cases (show some unit = some x from h2); decide)))⟩ <;>
    first | decide | exact ⟨by decide, by decide⟩ | exact ⟨by decide, by decide, by decide, by decide⟩ | exact ⟨rfl, .inl ⟨rfl, rfl, by decide⟩⟩

def case93 : State := withAlarm serving 5 ⟨.activeSeen, .unitReported, 0, some 7, .major, none, 1, 2, 3⟩

def case94 : State := unitIs serving { unit with state := .pending }

def peer (r : RefEntry) : State := unitIs (serving.setRef 6 { r with boundLease := some 0 }) boundUnit

def case95 : State := { peer usable with tb := { serving.tb with selected := some 6 } }

def case96 : State := peer { qualifying with progress := 29 }

def case97 : State :=
  unitIs (serving.setRef 6 { qualifying with boundLease := some 0 }) { boundUnit with symbol := none }

theorem test_meets_ReportAndPeerMark (H : Obligations.ReportAndPeerMark) :
    completes (.report 0 ⟨0, []⟩ { lease := 0, severity := 3, words := [1, 2] }) serving ∧
    completes (.report 0 ⟨0, []⟩ { lease := 0, severity := 0, words := [] }) case93 ∧
    completes (.report 0 ⟨0, []⟩ ⟨0, 0, []⟩) case94 ∧
    completes (.peerMark 0 ⟨0, []⟩ { lease := 0, seconds := 5, valid := 1, difference := 77 }) case95 ∧
    completes (.peerMark 0 ⟨0, []⟩ { lease := 0, seconds := 5, valid := 1, difference := 77 }) case96 ∧
    completes (.peerMark 0 ⟨0, []⟩ { lease := 0, seconds := 7, valid := 1, difference := 77 }) case96 ∧
    completes (.peerMark 0 ⟨0, []⟩ { lease := 0, seconds := 5, valid := 0, difference := 77 }) case96 ∧
    completes (.peerMark 0 ⟨0, []⟩ ⟨0, 5, 0, 77⟩) case97 ∧
    completes (.peerMark 0 ⟨0, []⟩ { lease := 0, seconds := 5, valid := 0, difference := 77 }) serving ∧
    completes (.report 0 ⟨0, []⟩ ⟨0, 5, []⟩) serving ∧ completes (.report 0 ⟨0, []⟩ ⟨0, 0, []⟩) lockedLanes ∧
    completes (.peerMark 0 ⟨0, []⟩ ⟨0, 5, 2, 77⟩) serving ∧ completes (.peerMark 0 ⟨0, []⟩ ⟨32, 5, 1, 77⟩) serving := by
  refine ⟨done ((H.1 serving (ended 0 serving) 0 [] ⟨0, 3, [1, 2]⟩ 0 unit (onLane rfl rfl) rfl rfl rfl ?_ ?_).1 ?_),
    done ((H.1 case93 (ended 0 case93) 0 [] ⟨0, 0, []⟩ 0 unit (onLane rfl rfl) rfl rfl rfl ?_ ?_).1 ?_),
    done ((H.1 case94 (ended 0 case94) 0 [] ⟨0, 0, []⟩ 0 { unit with state := .pending } (onLane rfl rfl) rfl rfl rfl ?_ ?_).2 rfl),
    done (((H.2.1 case95 (ended 0 case95) 0 [] ⟨0, 5, 1, 77⟩ 0 boundUnit (onLane rfl rfl) rfl rfl rfl ?_).1 .six ⟨5, 0⟩ rfl rfl |>.1 ?_ ?_ ?_ rfl)),
    done (((H.2.1 case96 (ended 0 case96) 0 [] ⟨0, 5, 1, 77⟩ 0 boundUnit (onLane rfl rfl) rfl rfl rfl ?_).1 .six ⟨5, 0⟩ rfl rfl |>.2.1 ?_ ?_ ?_ rfl)),
    done (((H.2.1 case96 (ended 0 case96) 0 [] ⟨0, 7, 1, 77⟩ 0 boundUnit (onLane rfl rfl) rfl rfl rfl ?_).1 .six ⟨5, 0⟩ rfl rfl |>.2.2 ?_ ?_)),
    done (((H.2.1 case96 (ended 0 case96) 0 [] ⟨0, 5, 0, 77⟩ 0 boundUnit (onLane rfl rfl) rfl rfl rfl ?_).1 .six ⟨5, 0⟩ rfl rfl |>.2.2 ?_ ?_)),
    done ((H.2.1 case97 (ended 0 case97) 0 [] ⟨0, 5, 0, 77⟩ 0 { boundUnit with symbol := none } (onLane rfl rfl) rfl rfl rfl ?_).2.1 .six rfl rfl ?_),
    done ((H.2.1 serving (ended 0 serving) 0 [] ⟨0, 5, 0, 77⟩ 0 unit (onLane rfl rfl) rfl rfl rfl ?_).2.2 ?_),
    done ((H.2.2 serving (ended 0 serving) 0 0 []).1 ⟨0, 5, []⟩ (onLane rfl rfl) ?_ (.inl ?_)),
    done ((H.2.2 lockedLanes (ended 0 lockedLanes) 0 0 []).1 ⟨0, 0, []⟩ (onLane rfl rfl) ?_ (.inr (.inl ?_))),
    done ((H.2.2 serving (ended 0 serving) 0 0 []).2 ⟨0, 5, 2, 77⟩ (onLane rfl rfl) (.inl ?_)),
    done ((H.2.2 serving (ended 0 serving) 0 0 []).2 ⟨32, 5, 1, 77⟩ (onLane rfl rfl)
      (.inr (.inr fun l x h => absurd h (by revert l; decide))))⟩ <;>
    first | decide | exact ⟨by decide, by decide⟩ | exact ⟨by decide, by decide, by decide, by decide⟩ | exact ⟨rfl, .inl ⟨rfl, rfl, by decide⟩⟩

def case98 : State := unitIs serving (pend 11)

def case99 : State := peer { usable with faultScore := 3 }

def susp : Lease := { unit with state := .suspended, suspendCause := some .source }

def case100 : State := unitIs serving susp

/-- The lease suspended by the scanner at this instant, from revision 0 to 1. -/
def metUnit : Lease := { unit with state := .suspended, suspendCause := some .unreachable, mark := some ⟨0, 1, serving.clock.osc⟩ }

def caseMet : State := unitIs serving metUnit

theorem test_meets_ApproveSuspendResume (H : Obligations.ApproveSuspendResume) :
    completes (.approve 0 (ask 0 1 []) .whole) case98 ∧
    completes (.approve 0 (ask 0 1 []) .whole) serving ∧
    completes (.suspend 0 (ask 0 1 []) .whole) case99 ∧
    completes (.resume 0 (ask 0 1 []) .whole) case99 ∧
    completes (.suspend 0 (ask 0 1 []) .whole) case100 ∧
    completes (.suspend 0 (ask 0 0 []) .whole) caseMet ∧
    completes (.resume 0 (ask 0 1 []) .whole) case100 := by
  refine ⟨done (((H case98 (now case98) 0 (ask 0 1 []) .whole 0 (pend 11) ⟨rfl, rfl⟩ ?_ rfl).1 ?_ ?_ |>.1 rfl)),
    refusedDone (((H serving (now serving) 0 (ask 0 1 []) .whole 0 unit ⟨rfl, rfl⟩ ?_ rfl).1 ?_ ?_ |>.2 ?_)),
    done (((H case99 (now case99) 0 (ask 0 1 []) .whole 0 boundUnit ⟨rfl, rfl⟩ ?_ rfl).2.1 ?_ ?_ |>.1 ?_ (lagree _ ?_))),
    refusedDone (((H case99 (now case99) 0 (ask 0 1 []) .whole 0 boundUnit ⟨rfl, rfl⟩ ?_ rfl).2.2.2 ?_ ?_ |>.2 ?_)),
    refusedDone (((H case100 (now case100) 0 (ask 0 1 []) .whole 0 susp ⟨rfl, rfl⟩ ?_ rfl).2.1 ?_ ?_ |>.2 ?_)),
    refusedDone ((H caseMet (now caseMet) 0 (ask 0 0 []) .whole 0 metUnit ⟨rfl, rfl⟩ ?_ rfl).2.2.1 ?_
      ⟨metUnit, _, rfl, rfl, rfl, rfl, rfl, ?_⟩),
    done (((H case100 (now case100) 0 (ask 0 1 []) .whole 0 susp ⟨rfl, rfl⟩ ?_ rfl).2.2.2 ?_ ?_ |>.1 rfl rfl))⟩ <;>
    first | decide | rfl | exact ⟨by decide, by decide⟩ | exact ⟨by decide, by decide, by decide, by decide⟩ | exact ⟨rfl, .inl ⟨rfl, rfl, by decide⟩⟩

def case101 : State := serving.updScanner 0 fun c => { c with injection := some 3 }

def case102 : State := serving.updScanner 0 fun c => { c with batch := some ⟨0, .routine, [], 0, 0, .waiting⟩ }

theorem test_meets_MeasureInjectsABatch (H : Obligations.MeasureInjectsABatch) :
    completes (.measure 0 (ask 0 9 []) .whole) case100 ∧
    completes (.measure 0 (ask 0 9 []) .whole) case101 ∧
    completes (.measure 0 (ask 0 9 []) .whole) serving ∧
    completes (.measure 0 (ask 0 9 []) .whole) case102 := by
  refine ⟨refusedDone ((H case100 (now case100) 0 (ask 0 9 []) .whole 0 susp ⟨rfl, rfl⟩ ?_ rfl ?_).1 ?_),
    refusedDone ((H case101 (now case101) 0 (ask 0 9 []) .whole 0 unit ⟨rfl, rfl⟩ ?_ rfl ?_).2.1 ?_ rfl),
    done ((H serving (now serving) 0 (ask 0 9 []) .whole 0 unit ⟨rfl, rfl⟩ ?_ rfl ?_).2.2 ?_ rfl),
    done ((H case102 (now case102) 0 (ask 0 9 []) .whole 0 unit ⟨rfl, rfl⟩ ?_ rfl ?_).2.2 ?_ rfl)⟩ <;>
    first | decide | exact ⟨by decide, by decide⟩ | exact ⟨by decide, by decide, by decide, by decide⟩ | exact ⟨rfl, .inl ⟨rfl, rfl, by decide⟩⟩

def cl (g gr : Nat) (c : Option Nat) : List Field := [⟨4, BitVec.ofNat 32 g⟩, ⟨5, BitVec.ofNat 32 gr⟩] ++ c.toList.map fun v => ⟨25, BitVec.ofNat 32 v⟩

/-- The unit with unlimited credit. -/
def unlimited : State := unitIs serving { unit with grantedCredit := 255, credit := none }

theorem test_meets_ChangeLeaseTakesItsFields (H : Obligations.ChangeLeaseTakesItsFields) :
    completes (.changeLease 0 (ask 0 1 (cl 1 70 (some 65))) .whole) serving ∧
    completes (.changeLease 0 (ask 0 1 (cl 4 70 (some 0))) .whole) unlimited ∧
    completes (.changeLease 0 (ask 0 1 (cl 4 60 (some 60))) .whole) serving ∧
    completes (.changeLease 0 (ask 0 1 (cl 2 255 none)) .whole) serving ∧
    completes (.changeLease 0 (ask 0 1 (cl 2 20 none)) .whole) serving ∧
    completes (.changeLease 0 (ask 0 1 [{ id := 9, value := 5 }]) .whole) serving ∧
    completes (.changeLease 0 (ask 0 1 []) .whole) serving := by
  refine ⟨done (((H serving (now serving) 0 (ask 0 1 (cl 1 70 (some 65))) .whole 0 unit .a 70 (some 65) ⟨rfl, rfl⟩ ?_ rfl rfl ?_).1 rfl ?_ ?_ ?_ |>.1 ⟨?_, ?_⟩)),
    done (((H unlimited (now unlimited) 0 (ask 0 1 (cl 4 70 (some 0))) .whole 0 { unit with grantedCredit := 255, credit := none } .d 70 (some 0) ⟨rfl, rfl⟩ ?_ rfl rfl ?_).1 rfl ?_ ?_ ?_ |>.1 ⟨?_, ?_⟩)),
    done (((H serving (now serving) 0 (ask 0 1 (cl 4 60 (some 60))) .whole 0 unit .d 60 (some 60) ⟨rfl, rfl⟩ ?_ rfl rfl ?_).1 rfl ?_ ?_ ?_ |>.1 ⟨?_, ?_⟩)),
    done (((H serving (now serving) 0 (ask 0 1 (cl 2 255 none)) .whole 0 unit .b 255 none ⟨rfl, rfl⟩ ?_ rfl rfl ?_).1 rfl ?_ ?_ ?_ |>.1 ⟨?_, ?_⟩)),
    refusedDone (((H serving (now serving) 0 (ask 0 1 (cl 2 20 none)) .whole 0 unit .b 20 none ⟨rfl, rfl⟩ ?_ rfl rfl ?_).1 rfl ?_ ?_ ?_ |>.2 (fun h => absurd h.2 ?_))),
    refusedDone ((H serving (now serving) 0 (ask 0 1 [⟨9, 5⟩]) .whole 0 unit .b 20 none ⟨rfl, rfl⟩ ?_ rfl rfl ?_).2.1 ?_),
    done ((H serving (now serving) 0 (ask 0 1 []) .whole 0 unit .b 20 none ⟨rfl, rfl⟩ ?_ rfl rfl ?_).2.2 rfl)⟩ <;>
    first | decide | exact ⟨by decide, by decide⟩ | exact ⟨by decide, by decide, by decide, by decide⟩ | exact ⟨rfl, .inl ⟨rfl, rfl, by decide⟩⟩

def case103 : State := open7 locked admits7

theorem test_meets_RetireAdmissionFreesTheSlot (H : Obligations.RetireAdmissionFreesTheSlot) :
    completes (.retireAdmission 0 (ask 0 1 []) .whole) case103 ∧
    completes (.retireAdmission 0 (ask 0 2 []) .whole) case103 ∧
    completes (.retireAdmission 0 (ask 1 2 []) .whole) case103 := by
  refine ⟨done ((H case103 (now case103) 0 (ask 0 1 []) .whole 0 ⟨rfl, rfl⟩ ?_ ?_).2.2 rfl rfl),
    refusedDone ((H case103 (now case103) 0 (ask 0 2 []) .whole 0 ⟨rfl, rfl⟩ ?_ ?_).2.1 rfl ?_),
    refusedDone ((H case103 (now case103) 0 (ask 1 2 []) .whole 1 ⟨rfl, rfl⟩ ?_ ?_).1 rfl)⟩ <;>
    first | decide | exact ⟨by decide, by decide⟩ | exact ⟨by decide, by decide, by decide, by decide⟩ | exact ⟨rfl, .inl ⟨rfl, rfl, by decide⟩⟩

def fullA : List Field := [⟨1, 7⟩, ⟨2, 0xFFFFFFFF⟩, ⟨3, 255⟩, ⟨4, 0⟩, ⟨5, 3⟩, ⟨6, 60⟩, ⟨7, 1⟩, ⟨8, 10⟩]

def case104 : State := open7 locked { admits7 with tagValue := 6 }

theorem test_meets_CreateAndChangeAdmission (H : Obligations.CreateAndChangeAdmission) :
    completes (.create 0 (ask 0 1 []) .whole) case103 ∧
    completes (.create 0 (ask 1 1 fullA) .whole) case103 ∧
    completes (.create 0 (ask 1 1 (List.take 4 fullA)) .whole) case103 ∧
    completes (.create 0 (ask 1 1 (List.take 3 fullA)) .whole) case103 ∧
    completes (.changeAdmission 0 (ask 0 1 fullA) .whole) case104 := by
  refine ⟨refusedDone (((H case103 (now case103) 0 (ask 0 1 []) .whole 0 admits7 ⟨rfl, rfl⟩ ?_).1 ?_ |>.1 rfl)),
    done (((H case103 (now case103) 0 (ask 1 1 fullA) .whole 1 admits7 ⟨rfl, rfl⟩ ?_).1 ?_ |>.2.1 rfl ?_ ?_)),
    done (((H case103 (now case103) 0 (ask 1 1 (fullA.take 4)) .whole 1 admits7 ⟨rfl, rfl⟩ ?_).1 ?_ |>.2.2.1 rfl ?_ ?_)),
    refusedDone (((H case103 (now case103) 0 (ask 1 1 (fullA.take 3)) .whole 1 admits7 ⟨rfl, rfl⟩ ?_).1 ?_ |>.2.2.2 rfl ?_)),
    done ((H case104 (now case104) 0 (ask 0 1 fullA) .whole 0 admits7 ⟨rfl, rfl⟩ ?_).2 ?_ rfl rfl ?_ ?_)⟩ <;>
    first | decide | exact ⟨by decide, by decide⟩ | exact ⟨by decide, by decide, by decide, by decide⟩ | exact ⟨rfl, .inl ⟨rfl, rfl, by decide⟩⟩

def running : Output := { Output.reset with state := .running, enabled := true, plan := some ⟨10, 500, 9000⟩, nextEdge := some 5500000000, n := 4 }

def outIs (o : Output) : State := locked.setOut 1 o

def case105 : State := outIs { running with line := .high, fallRemaining := some 7 }

def case106 : State := outIs running

def case107 : State := outIs { running with line := .high, fallRemaining := some 0 }

def case108 : State := outIs { running with changeWaiting := true }

def case109 : State := outIs { running with nextEdge := some 5500000001 }

/-- A SQUELCHED output with an instant of its stored plan at the site time of `locked`. -/
def squelched : Output := { Output.reset with state := .squelched, enabled := true, n := 2, width := 5, minClass := .a }

def instantNow : State := outIs squelched

def instantLater : State := outIs { squelched with phase := 7 }

theorem test_meets_OutputsFollowTheirPlan (H : Obligations.OutputsFollowTheirPlan) :
    completes (.outputRisingEdge 0 1) case105 ∧
    completes (.outputFall 0 1) case105 ∧
    completes (.outputRisingEdge 0 1) case106 ∧
    completes (.outputRisingEdge 0 1) case107 ∧
    completes (.outputFall 0 1) case107 ∧
    completes (.outputRisingEdge 0 1) case108 ∧
    completes (.outputRisingEdge 0 1) case109 ∧
    completes (.outputRisingEdge 0 1) instantNow ∧
    completes (.outputRisingEdge 0 1) instantLater ∧
    completes (.outputRisingEdge 0 1) locked := by
  refine ⟨done (((H.1 case105 (now case105) 0 1 ⟨rfl, rfl⟩).1 5500000000 ⟨10, 500, 9000⟩ rfl rfl rfl ?_ |>.1 ?_)),
    done ((H.1 case105 (now case105) 0 1 ⟨rfl, rfl⟩).2.2.2.2 ?_),
    done (((H.1 case106 (now case106) 0 1 ⟨rfl, rfl⟩).1 5500000000 ⟨10, 500, 9000⟩ rfl rfl rfl ?_ |>.2.1 ?_ ?_)),
    done (((H.1 case107 (now case107) 0 1 ⟨rfl, rfl⟩).1 5500000000 ⟨10, 500, 9000⟩ rfl rfl rfl ?_ |>.2.1 ?_ ?_)),
    done ((H.1 case107 (now case107) 0 1 ⟨rfl, rfl⟩).2.2.2.1 rfl),
    done (((H.1 case108 (now case108) 0 1 ⟨rfl, rfl⟩).1 5500000000 ⟨10, 500, 9000⟩ rfl rfl rfl ?_ |>.2.2 ?_ ?_)),
    done ((H.1 case109 (now case109) 0 1 ⟨rfl, rfl⟩).2.2.1 (.inr (.inr ⟨?_, ?_⟩))),
    done ((H.1 instantNow (now instantNow) 0 1 ⟨rfl, rfl⟩).2.1 ?_ ?_),
    done ((H.1 instantLater (now instantLater) 0 1 ⟨rfl, rfl⟩).2.2.1 (.inr (.inl ⟨?_, ?_⟩))),
    done ((H.1 locked (now locked) 0 1 ⟨rfl, rfl⟩).2.2.1 (.inl ?_))⟩ <;>
    first | decide | exact ⟨by decide, by decide⟩ | exact ⟨by decide, by decide, by decide, by decide⟩ | exact ⟨rfl, .inl ⟨rfl, rfl, by decide⟩⟩

/-- The clauses of a class change event: squelch, release before and after the instant was taken, and no crossing. -/
theorem test_meets_OutputsFollowTheirPlanAtAClassChange (H : Obligations.OutputsFollowTheirPlan) :
    ((case106.crossClass .none).out 1).state = .squelched ∧ ((instantNow.crossClass .a).out 1).nextEdge = some 5500000000 ∧
    (((outIs { squelched with passed := some (⟨2, 0, 5⟩, 5500000000) }).crossClass .a).out 1).nextEdge = some 6000000000 ∧
    (case106.crossClass .d).out 1 = running :=
  ⟨congrArg Output.state ((H.2.1 case106 .none 1).1 rfl rfl (by decide)),
    congrArg Output.nextEdge ((H.2.1 instantNow .a 1).2.1 rfl rfl (by decide)),
    congrArg Output.nextEdge ((H.2.1 (outIs { squelched with passed := some (⟨2, 0, 5⟩, 5500000000) }) .a 1).2.1 rfl rfl (by decide)),
    (H.2.1 case106 .d 1).2.2 (.inl (by decide))⟩

def co (e n p w c : Nat) : List Field := [⟨2, BitVec.ofNat 32 e⟩, ⟨3, BitVec.ofNat 32 n⟩, ⟨4, BitVec.ofNat 32 p⟩, ⟨5, BitVec.ofNat 32 w⟩, ⟨6, BitVec.ofNat 32 c⟩]

def case110 : State := outIs running

theorem test_meets_ChangeOutputActs (H : Obligations.ChangeOutputActs) :
    completes (.changeOutput 0 (ask 1 0 (co 1 10 50 60 4)) .whole) case110 ∧
    completes (.changeOutput 0 (ask 1 0 (co 0 10 50 60 4)) .whole) case110 ∧
    completes (.changeOutput 0 (ask 1 0 (co 0 3 50 60 4)) .whole) case110 ∧
    completes (.changeOutput 0 (ask 1 0 (co 1 10 50 60 4)) .whole) locked ∧
    completes (.changeOutput 0 (ask 1 0 (co 1 10 50 60 4)) .whole) site ∧
    completes (.changeOutput 0 (ask 1 0 (co 0 10 50 60 4)) .whole) site := by
  refine ⟨done ((H case110 (now case110) 0 (ask 1 0 (co 1 10 50 60 4)) .whole 1 true 10 50 60 .d ⟨rfl, rfl⟩ ?_ rfl ?_ rfl ?_ ?_ ?_).1 ?_),
    done ((H case110 (now case110) 0 (ask 1 0 (co 0 10 50 60 4)) .whole 1 false 10 50 60 .d ⟨rfl, rfl⟩ ?_ rfl ?_ rfl ?_ ?_ ?_).1 ?_),
    refusedDone ((H case110 (now case110) 0 (ask 1 0 (co 0 3 50 60 4)) .whole 1 false 3 50 60 .d ⟨rfl, rfl⟩ ?_ rfl ?_ rfl ?_ ?_ ?_).2 ?_),
    done ((H locked (now locked) 0 (ask 1 0 (co 1 10 50 60 4)) .whole 1 true 10 50 60 .d ⟨rfl, rfl⟩ ?_ rfl ?_ rfl ?_ ?_ ?_).1 ?_),
    done ((H site (now site) 0 (ask 1 0 (co 1 10 50 60 4)) .whole 1 true 10 50 60 .d ⟨rfl, rfl⟩ ?_ rfl ?_ rfl ?_ ?_ ?_).1 ?_),
    done ((H site (now site) 0 (ask 1 0 (co 0 10 50 60 4)) .whole 1 false 10 50 60 .d ⟨rfl, rfl⟩ ?_ rfl ?_ rfl ?_ ?_ ?_).1 ?_)⟩ <;>
    first | decide | exact ⟨by decide, by decide⟩ | exact ⟨by decide, by decide, by decide, by decide⟩ | exact ⟨rfl, .inl ⟨rfl, rfl, by decide⟩⟩

def case111 : State := locked

def au : AlarmUnit := (withAlarm (withAlarm locked 3 (portDown .activeSeen)) 1 { portDown .activeNew with subject := 4 }).alarm

def fullU : AlarmUnit := { au with slots := Vector.ofFn fun i : Fin 48 => if i = 0 then ⟨2, none⟩ else ⟨3, some { portDown .clearedUnseen with subject := 100 + i.val, lastChanged := 100 - i.val / 2, severity := if i.val = 47 then .critical else .major }⟩ }

theorem fullU_longest_ago : ∀ j : SlotIx, ∀ y, fullU.slots[j].record = some y → j ≠ 0 → y.state = .clearedUnseen → y.severity.code ≤ 3 → j ≠ 46 → 77 < y.lastChanged ∨ (77 = y.lastChanged ∧ 46 < j) := by decide

theorem fullU_none_yields : ∀ i : SlotIx, ∀ x, fullU.slots[i].record = some x → ¬ x.severity.code ≤ 1 := by decide

/-- A full table with an overflow record. -/
def overflown : AlarmUnit := { fullU with slots := fullU.slots.set 0 ⟨5, some ⟨.activeSeen, .alarmOverflow, 0, none, .major, none, 255, 2, 2⟩⟩ }

theorem overflown_none_yields : ∀ i : SlotIx, ∀ x, overflown.slots[i].record = some x → ¬ x.severity.code ≤ 1 := by decide

theorem test_meets_RaiseTakesASlot (H : Obligations.RaiseTakesASlot) :
    settles (au.raise 9 { kind := AlarmKind.portDown, subject := 2 }) ∧
    settles (au.raise 9 { kind := AlarmKind.portDown, subject := 3 }) ∧
    settles (fullU.raise 9 { kind := AlarmKind.portDown, subject := 3 }) ∧
    settles (fullU.raise 9 { kind := AlarmKind.leasePending, subject := 3 }) ∧
    settles (overflown.raise 9 { kind := AlarmKind.leasePending, subject := 3 }) := by
  refine ⟨.intro _ ((H au 9 ⟨.portDown, 2, none, none, none⟩).1 3 (portDown .activeSeen) rfl rfl rfl ?_),
    .intro _ ((H au 9 ⟨.portDown, 3, none, none, none⟩).2.1 ?_ 2 ?_ rfl ?_),
    .intro _ ((H fullU 9 ⟨.portDown, 3, none, none, none⟩).2.2.1 ?_ ?_ 46 ({ portDown .clearedUnseen with subject := 146, lastChanged := 77 }) ⟨?_, rfl, rfl, ?_⟩ (fun j y h hn => fullU_longest_ago j y h.2.1 h.1 h.2.2.1 h.2.2.2 hn)),
    .intro _ (((H fullU 9 ⟨.leasePending, 3, none, none, none⟩).2.2.2 ?_ ?_ (fun i x h => fullU_none_yields i x h.2.1 h.2.2.2) |>.1 rfl)),
    .intro _ (((H overflown 9 ⟨.leasePending, 3, none, none, none⟩).2.2.2 ?_ ?_ (fun i x h => overflown_none_yields i x h.2.1 h.2.2.2) |>.2 _ rfl))⟩ <;>
    first | decide | exact ⟨by decide, by decide⟩ | exact ⟨by decide, by decide, by decide, by decide⟩ | exact ⟨rfl, .inl ⟨rfl, rfl, by decide⟩⟩

def withOverflow (st : AlarmState) : AlarmUnit := { au with slots := au.slots.set 0 ⟨5, some ⟨st, .alarmOverflow, 0, none, .major, none, 3, 2, 2⟩⟩ }

theorem test_meets_ClearFollowsTheState (H : Obligations.ClearFollowsTheState) :
    settles (au.clear 9 AlarmKind.portDown 4) ∧
    settles (au.clear 9 AlarmKind.portDown 2) ∧
    settles (((withOverflow AlarmState.activeNew).clear 9 AlarmKind.portDown 2).slots[3]) ∧
    settles (((withOverflow AlarmState.activeSeen).clear 9 AlarmKind.portDown 2).slots[3]) ∧
    settles ((withOverflow AlarmState.activeSeen).clear 9 AlarmKind.portDown 5) := by
  refine ⟨.intro _ (((H au 9 .portDown 4).1 1 { portDown .activeNew with subject := 4 } rfl rfl rfl ?_).1 rfl),
    .intro _ (((H au 9 .portDown 2).1 3 (portDown .activeSeen) rfl rfl rfl ?_).2.2.1 rfl (Or.inr (fun ⟨x, h, _⟩ => by cases (show (none : Option AlarmRecord) = some x from h)))),
    .intro _ (((H (withOverflow .activeNew) 9 .portDown 2).1 3 (portDown .activeSeen) rfl rfl rfl ?_).2.2.2 rfl ?_ ⟨_, rfl, Or.inl rfl⟩).1,
    .intro _ (((H (withOverflow .activeSeen) 9 .portDown 2).1 3 (portDown .activeSeen) rfl rfl rfl ?_).2.2.2 rfl ?_ ⟨_, rfl, Or.inr rfl⟩).1,
    .intro _ (((H (withOverflow .activeSeen) 9 .portDown 5).2 ?_))⟩ <;>
    first | decide | exact ⟨by decide, by decide⟩ | exact ⟨by decide, by decide, by decide, by decide⟩ | exact ⟨rfl, .inl ⟨rfl, rfl, by decide⟩⟩

def akey (k : AlarmRecord) (rev : Nat) : Request := { ask 0 rev [] with form := formAlarmKey, key := k.alarmKey }

def case112 : State := { locked with alarm := withOverflow .activeNew }

def case113 : State := { locked with alarm := (withOverflow .activeNew).setSlot 3 ⟨9, some (portDown .clearedUnseen)⟩ }

theorem test_meets_AckFollowsTheState (H : Obligations.AckFollowsTheState) :
    completes (.ack 0 (akey { portDown .activeNew with subject := 4 } 9) .whole) case112 ∧
    completes (.ack 0 (akey (portDown AlarmState.activeSeen) 9) .whole) case112 ∧
    completes (.ack 0 (akey (portDown AlarmState.clearedUnseen) 9) .whole) case113 ∧
    completes (.ackAll 0 (ask 0 0 []) .whole) case113 := by
  refine ⟨done (((H case112 (now case112) 0 (akey { portDown .activeNew with subject := 4 } 9) .whole ⟨rfl, rfl⟩ ?_).1 1 { portDown .activeNew with subject := 4 } rfl ?_ rfl rfl ?_ |>.1 rfl)),
    refusedDone (((H case112 (now case112) 0 (akey (portDown .activeSeen) 9) .whole ⟨rfl, rfl⟩ ?_).1 3 (portDown .activeSeen) rfl ?_ rfl rfl ?_ |>.2.2 rfl)),
    done (((H case113 (now case113) 0 (akey (portDown .clearedUnseen) 9) .whole ⟨rfl, rfl⟩ ?_).1 3 (portDown .clearedUnseen) rfl ?_ rfl rfl ?_ |>.2.1 rfl)),
    done ((H case113 (now case113) 0 (ask 0 0 []) .whole ⟨rfl, rfl⟩ ?_).2 ?_)⟩ <;>
    first | decide | exact ⟨by decide, by decide⟩ | exact ⟨by decide, by decide, by decide, by decide⟩ | exact ⟨rfl, .inl ⟨rfl, rfl, by decide⟩⟩

theorem test_meets_AlarmSettingsChange (H : Obligations.AlarmSettingsChange) :
    completes (.changeAlarmKind 0 (ask 3 0 [{ id := 4, value := 4 }]) .whole) locked ∧
    completes (.changeAlarmKind 0 (ask 12 0 [{ id := 4, value := 4 }]) .whole) locked ∧
    completes (.changeAlarmUnit 0 (ask 0 0 [{ id := 1, value := 4 }]) .whole) locked ∧
    completes (.changeAlarmLine 0 (ask 4 0 [{ id := 1, value := 2 }, { id := 2, value := 4 }, { id := 3, value := 1 }, { id := 4, value := 0 }]) .whole) locked ∧
    completes (.changeAlarmLine 0 (ask 4 0 [{ id := 1, value := 2 }, { id := 2, value := 64 }, { id := 3, value := 1 }, { id := 4, value := 0 }]) .whole) locked := by
  refine ⟨done (((H locked (now locked) 0 (ask 3 0 [⟨4, 4⟩]) .whole .critical ⟨rfl, rfl⟩).1 2 ?_ ?_ rfl rfl |>.1 rfl)),
    refusedDone (((H locked (now locked) 0 (ask 12 0 [⟨4, 4⟩]) .whole .critical ⟨rfl, rfl⟩).1 11 ?_ ?_ rfl rfl |>.2 rfl)),
    done ((H locked (now locked) 0 (ask 0 0 [⟨1, 4⟩]) .whole .critical ⟨rfl, rfl⟩).2.1 ?_ ?_ rfl rfl),
    done (((H locked (now locked) 0 (ask 4 0 [⟨1, 2⟩, ⟨2, 4⟩, ⟨3, 1⟩, ⟨4, 0⟩]) .whole .critical ⟨rfl, rfl⟩).2.2 4 .timebaseIn 4 true .activeHigh ?_ ?_ rfl rfl |>.1 ?_)),
    refusedDone (((H locked (now locked) 0 (ask 4 0 [⟨1, 2⟩, ⟨2, 64⟩, ⟨3, 1⟩, ⟨4, 0⟩]) .whole .critical ⟨rfl, rfl⟩).2.2 4 .timebaseIn 64 true .activeHigh ?_ ?_ rfl rfl |>.2 ?_))⟩ <;>
    first | decide | exact ⟨by decide, by decide⟩ | exact ⟨by decide, by decide, by decide, by decide⟩ | exact ⟨rfl, .inl ⟨rfl, rfl, by decide⟩⟩

def roomy : State :=
  { (withLease (withLease (((held.setPort 3 { Port.reset with state := .down }).setRef 2 { usable with state := .faulted, faultCause := some .glitch }).setOut 1 { Output.reset with state := .squelched, enabled := true }) 0 { unit with state := .suspended, suspendCause := some .host, delayJump := true }) 1 { unit with tag := 9, required := .a, report := ⟨some .critical, [1], 3⟩ }) with alarm := { (withOverflow .activeSeen) with rooms := [.timebase, .ports, .outputs, .leaseController, .referenceUnit] } }

def case114 : State := roomy

theorem test_meets_RoomRaisesStandingConditions (H : Obligations.RoomRaisesStandingConditions) :
    completes (.roomAnnouncement 0 .timebase) case114 ∧
    completes (.roomAnnouncement 0 .ports) case114 ∧
    completes (.roomAnnouncement 0 .outputs) case114 ∧
    completes (.roomAnnouncement 0 .leaseController) case114 ∧
    completes (.roomAnnouncement 0 .referenceUnit) case114 ∧
    completes (.roomAnnouncement 0 .referenceUnit) locked := by
  refine ⟨done ((H case114 (now case114) 0 .timebase ⟨rfl, rfl⟩).1 ?_),
    done ((H case114 (now case114) 0 .ports ⟨rfl, rfl⟩).1 ?_),
    done ((H case114 (now case114) 0 .outputs ⟨rfl, rfl⟩).1 ?_),
    done ((H case114 (now case114) 0 .leaseController ⟨rfl, rfl⟩).1 ?_),
    done ((H case114 (now case114) 0 .referenceUnit ⟨rfl, rfl⟩).1 ?_),
    done ((H locked (now locked) 0 .referenceUnit ⟨rfl, rfl⟩).2 ?_)⟩ <;>
    first | decide | exact ⟨by decide, by decide⟩ | exact ⟨by decide, by decide, by decide, by decide⟩ | exact ⟨rfl, .inl ⟨rfl, rfl, by decide⟩⟩

def w (n : Nat) : Word := BitVec.ofNat 32 n

def thr (a b c d : Nat) : List Field := [⟨14, w a⟩, ⟨15, w b⟩, ⟨16, w c⟩, ⟨17, w d⟩, ⟨18, 2⟩, ⟨19, 9⟩, ⟨20, 3⟩]

def case115 : State := { held with mgmt := Mgmt.reset }

def case116 : State :=
  { held with mgmt := Mgmt.reset, tb := { held.tb with state := .spent, e := some 7000, siteClass := .none } }

theorem test_meets_ChangeTimebaseAndPort (H : Obligations.ChangeTimebaseAndPort) :
    completes (.changeTimebase 0 (ask 0 0 [{ id := 6, value := 1 }, { id := 7, value := 400 }, { id := 8, value := 0 }, { id := 9, value := 500 }, { id := 10, value := 7 }, { id := 11, value := 60 }, { id := 12, value := 600 }, { id := 13, value := 0 }]) .whole) locked ∧
    completes (.changeTimebase 0 (ask 0 0 [{ id := 6, value := 0 }, { id := 7, value := 400 }, { id := 8, value := 0 }, { id := 9, value := 500 }, { id := 10, value := 7 }, { id := 11, value := 60 }, { id := 12, value := 600 }, { id := 13, value := 0 }]) .whole) locked ∧
    completes (.changeTimebase 0 (ask 0 0 (thr 10 20 30 40)) .whole) case115 ∧
    completes (.changeTimebase 0 (ask 0 0 (thr 10 20 20 40)) .whole) case115 ∧
    completes (.changeTimebase 0 (ask 0 0 (thr 10 20 30 40)) .whole) held ∧
    completes (.changeTimebase 0 (ask 0 0 (thr 10 20 30 40000)) .whole) case116 ∧
    completes (.changePort 0 (ask 4 0 [{ id := 3, value := BitVec.ofInt 32 (-9) }, { id := 4, value := 33 }, { id := 5, value := 600 }]) .whole) locked := by
  refine ⟨done ((H locked (now locked) 0 (ask 0 0 [⟨6, 1⟩, ⟨7, 400⟩, ⟨8, 0⟩, ⟨9, 500⟩, ⟨10, 7⟩, ⟨11, 60⟩, ⟨12, 600⟩, ⟨13, 0⟩]) .whole ⟨rfl, rfl⟩).1 true 400 500 7 60 600 0 .stepAny ?_ rfl ?_ rfl ?_ ?_ ?_ ?_ ?_ ?_ ?_ ?_ ?_),
    done ((H locked (now locked) 0 (ask 0 0 [⟨6, 0⟩, ⟨7, 400⟩, ⟨8, 0⟩, ⟨9, 500⟩, ⟨10, 7⟩, ⟨11, 60⟩, ⟨12, 600⟩, ⟨13, 0⟩]) .whole ⟨rfl, rfl⟩).1 false 400 500 7 60 600 0 .stepAny ?_ rfl ?_ rfl ?_ ?_ ?_ ?_ ?_ ?_ ?_ ?_ ?_),
    done (((H case115 (now case115) 0 (ask 0 0 (thr 10 20 30 40)) .whole ⟨rfl, rfl⟩).2.1 10 20 30 40 2 9 3 ?_ rfl ?_ rfl ?_ ?_ ?_ ?_ ?_ ?_ ?_ |>.2.2 ?_ rfl)),
    refusedDone (((H case115 (now case115) 0 (ask 0 0 (thr 10 20 20 40)) .whole ⟨rfl, rfl⟩).2.1 10 20 20 40 2 9 3 ?_ rfl ?_ rfl ?_ ?_ ?_ ?_ ?_ ?_ ?_ |>.1 ?_)),
    refusedDone (((H held (now held) 0 (ask 0 0 (thr 10 20 30 40)) .whole ⟨rfl, rfl⟩).2.1 10 20 30 40 2 9 3 ?_ rfl ?_ rfl ?_ ?_ ?_ ?_ ?_ ?_ ?_ |>.2.1 ?_ rfl)),
    done (((H case116 (now case116) 0 (ask 0 0 (thr 10 20 30 40000)) .whole ⟨rfl, rfl⟩).2.1 10 20 30 40000 2 9 3 ?_ rfl ?_ rfl ?_ ?_ ?_ ?_ ?_ ?_ ?_ |>.2.2 ?_ rfl)),
    done ((H locked (now locked) 0 (ask 4 0 [⟨3, BitVec.ofInt 32 (-9)⟩, ⟨4, 33⟩, ⟨5, 600⟩]) .whole ⟨rfl, rfl⟩).2.2 4 (-9) 33 600 ?_ rfl ?_ rfl ?_ ?_ ?_)⟩ <;>
    first | decide | exact ⟨by decide, by decide⟩ | exact ⟨by decide, by decide, by decide, by decide⟩ | exact ⟨rfl, .inl ⟨rfl, rfl, by decide⟩⟩

def case117 : State := locked.setRef 1 qualifying

def case118 : State := locked.setRef 1 { RefEntry.reset 40 with faultScore := 4 }

theorem test_meets_ChangeReferenceActs (H : Obligations.ChangeReferenceActs) :
    completes (.changeReference 0 (ask 1 0 [{ id := 2, value := 1 }]) .whole) locked ∧
    completes (.changeReference 0 (ask 0 0 [{ id := 2, value := 0 }]) .whole) locked ∧
    completes (.changeReference 0 (ask 6 0 [{ id := 2, value := 0 }]) .whole) locked ∧
    completes (.changeReference 0 (ask 1 0 [{ id := 3, value := 2 }, { id := 4, value := 99 }, { id := 5, value := BitVec.ofInt 32 (-7) }, { id := 6, value := 1 }, { id := 8, value := 30 }]) .whole) case117 ∧
    completes (.changeReference 0 (ask 4 0 [{ id := 9, value := 77 }]) .whole) locked ∧
    completes (.changeReference 0 (ask 6 0 [{ id := 9, value := 77 }]) .whole) locked ∧
    completes (.changeReference 0 (ask 1 0 [{ id := 2, value := 1 }]) .whole) case118 := by
  refine ⟨done ((H locked (now locked) 0 (ask 1 0 [⟨2, 1⟩]) .whole 1 ⟨rfl, rfl⟩ ?_ rfl ?_).1 rfl ?_ rfl rfl),
    done ((H locked (now locked) 0 (ask 0 0 [⟨2, 0⟩]) .whole 0 ⟨rfl, rfl⟩ ?_ rfl ?_).2.1 rfl ?_ rfl),
    refusedDone ((H locked (now locked) 0 (ask 6 0 [⟨2, 0⟩]) .whole 6 ⟨rfl, rfl⟩ ?_ rfl ?_).2.2.1 ?_ (Or.inr rfl)),
    done ((H case117 (now case117) 0 (ask 1 0 [⟨3, 2⟩, ⟨4, 99⟩, ⟨5, BitVec.ofInt 32 (-7)⟩, ⟨6, 1⟩, ⟨8, 30⟩]) .whole 1 ⟨rfl, rfl⟩ ?_ rfl ?_).2.2.2.1 2 99 30 (-7) .falling ?_ ?_ rfl ?_ ?_ ?_ ?_),
    done (((H locked (now locked) 0 (ask 4 0 [⟨9, 77⟩]) .whole 4 ⟨rfl, rfl⟩ ?_ rfl ?_).2.2.2.2 77 rfl ?_ ?_ |>.1 ?_)),
    refusedDone (((H locked (now locked) 0 (ask 6 0 [⟨9, 77⟩]) .whole 6 ⟨rfl, rfl⟩ ?_ rfl ?_).2.2.2.2 77 rfl ?_ ?_ |>.2 ?_ ?_)),
    done ((H case118 (now case118) 0 (ask 1 0 [⟨2, 1⟩]) .whole 1 ⟨rfl, rfl⟩ ?_ rfl ?_).1 rfl ?_ rfl rfl)⟩ <;>
    first | decide | exact ⟨by decide, by decide⟩ | exact ⟨by decide, by decide, by decide, by decide⟩ | exact ⟨rfl, .inl ⟨rfl, rfl, by decide⟩⟩

def case119 : State := { locked with alarm := withOverflow .activeNew }

theorem test_meets_LookReturnsTheRecord (H : Obligations.LookReturnsTheRecord) :
    completes (.look 0 .lease (ask 0 0 []) .whole) serving ∧
    completes (.look 0 .timebase { ask 0 0 [] with group := 1 } .whole) serving ∧
    completes (.look 0 .alarm (akey (portDown AlarmState.activeSeen) 9) .whole) case119 ∧
    completes (.look 0 .alarm (ask 3 0 []) .whole) case119 := by
  refine ⟨done ((H serving (now serving) 0 .lease (ask 0 0 []) .whole ⟨rfl, rfl⟩ ?_).1 0 ?_ ?_ ?_),
    done ((H serving (now serving) 0 .timebase { ask 0 0 [] with group := 1 } .whole ⟨rfl, rfl⟩ ?_).1 0 ?_ ?_ ?_),
    done ((H case119 (now case119) 0 .alarm (akey (portDown .activeSeen) 9) .whole ⟨rfl, rfl⟩ ?_).2 3 (portDown .activeSeen) rfl rfl ?_ ?_ rfl),
    done ((H case119 (now case119) 0 .alarm (ask 3 0 []) .whole ⟨rfl, rfl⟩ ?_).1 3 ?_ ?_ ?_)⟩ <;>
    first | decide | exact ⟨by decide, by decide⟩ | exact ⟨by decide, by decide, by decide, by decide⟩ | exact ⟨rfl, .inl ⟨rfl, rfl, by decide⟩⟩

def case120 : State := { locked with alarm := withOverflow .activeNew }

theorem minA : ∀ j : SlotIx, ∀ q, (now case120).alarm.slots[j].record = some q → j ≠ 1 → attentionNumber 3 3 1 < attentionNumber q.severity.code q.firstRaised j.val ∨ j = 0 := by decide

theorem test_meets_NextWalksTheTable (H : Obligations.NextWalksTheTable) :
    completes (.next 0 .alarm (ask 1 0 []) .whole) case119 ∧
    completes (.next 0 .lease { ask 0 0 [] with form := formStartKey } .whole) serving ∧
    completes (.next 0 .lease (ask 0 0 []) .whole) serving := by
  refine ⟨done (((H case119 (now case119) 0 .alarm (ask 1 0 []) .whole ⟨rfl, rfl⟩ ?_ ?_).1 (some 1) ?_ (Or.inr ⟨rfl, rfl⟩) |>.1 3 ?_ ?_ ?_ ?_)),
    done (((H serving (now serving) 0 .lease { ask 0 0 [] with form := formStartKey } .whole ⟨rfl, rfl⟩ ?_ ?_).1 none ?_ (Or.inl ⟨rfl, ?_, rfl⟩) |>.1 0 ?_ ?_ ?_ ?_)),
    refusedDone (((H serving (now serving) 0 .lease (ask 0 0 []) .whole ⟨rfl, rfl⟩ ?_ ?_).1 (some 0) ?_ (Or.inr ⟨rfl, rfl⟩) |>.2 ?_))⟩ <;>
    first | decide | exact ⟨by decide, by decide⟩ | exact ⟨by decide, by decide, by decide, by decide⟩ | exact ⟨rfl, .inl ⟨rfl, rfl, by decide⟩⟩

theorem test_meets_CloseSetupOpensThePorts (H : Obligations.CloseSetupOpensThePorts) :
    completes (.closeSetup 0 0 (ask 0 0 []) .whole) State.reset ∧
    completes (.closeSetup 0 0 (ask 0 0 []) .whole) locked := by
  refine ⟨done ((H State.reset (now State.reset) 0 0 (ask 0 0 []) .whole ⟨rfl, rfl⟩ ?_ ?_).1 rfl),
    done ((H locked (now locked) 0 0 (ask 0 0 []) .whole ⟨rfl, rfl⟩ ?_ ?_).2 rfl)⟩ <;>
    first | decide | exact ⟨by decide, by decide⟩ | exact ⟨by decide, by decide, by decide, by decide⟩ | exact ⟨rfl, .inl ⟨rfl, rfl, by decide⟩⟩

theorem test_meets_StatusReturnsTheSummary (H : Obligations.StatusReturnsTheSummary) :
    completes (.status 0 9 (ask 0 0 []) .whole) serving := by
  refine done (H serving (now serving) 0 9 (ask 0 0 []) .whole ⟨rfl, rfl⟩ ?_ ?_) <;>
    first | decide | exact ⟨by decide, by decide⟩ | exact ⟨by decide, by decide, by decide, by decide⟩ | exact ⟨rfl, .inl ⟨rfl, rfl, by decide⟩⟩
/-! ### Hypotheses met: the queue, the management port, the checks, the invariants -/

/-- `s` with one command waiting. -/
def waiting (s : State) (i : Instr) : State := s.withPending [i]

/-- The LOCKED site with RESET_N held low. -/
def heldLow : State := { locked with resetLow := true }

/-- The LOCKED site with an answer held, and with a request in execution. -/
def answered : State := locked.setMgmt { locked.mgmt with lastAnswer := some ⟨.done, 0x01, 0x01, 0, 0, 0, 3, [⟨1, 2⟩]⟩ }
def executing : State := locked.setMgmt { locked.mgmt with executing := some ⟨0x01, 0x01, ask 0 0 []⟩ }

theorem test_meets_StepRunsTheFrontCommand (H : Obligations.StepRunsTheFrontCommand) :
    step (waiting locked (.runSecond 0)) = exec (.runSecond 0) { waiting locked (.runSecond 0) with pending := [] } ∧
    step locked = .next locked :=
  ⟨H.1 _ (.runSecond 0) [] rfl, H.2 locked rfl⟩

theorem test_meets_ResetNAndRestartTakeResetValues (H : Obligations.ResetNAndRestartTakeResetValues) :
    completes (.runSecond 7) heldLow ∧ completes .resetN locked ∧ completes (.resetNRelease 7) heldLow ∧
    completes (.resetNRelease 7) locked ∧ completes (.restart 0 0xFF (ask 0 0 []) .whole) serving :=
  ⟨⟨_, H.1 heldLow (.runSecond 7) rfl (fun h => nomatch h) (fun _ h => nomatch h)⟩, ⟨_, H.2.1 locked⟩,
    ⟨_, H.2.2.1 heldLow 7 rfl⟩, done (H.2.2.2.1 locked (locked.elapse 7) 7 ⟨rfl, rfl⟩),
    done (H.2.2.2.2 serving 0 0xFF (ask 0 0 []) .whole ⟨by decide, by decide⟩ ⟨rfl, .inl ⟨rfl, rfl, by decide⟩⟩)⟩

theorem test_meets_StatusAndAnswerTransactions (H : Obligations.StatusAndAnswerTransactions) :
    completes (.statusPoll 0 0x00 3) locked ∧ completes (.statusPoll 0 0x03 0) executing ∧
    completes (.answerTransaction 0 21) answered ∧ completes (.answerTransaction 0 20) answered ∧
    completes (.answerTransaction 0 1) locked ∧ completes (.answerTransaction 0 30) executing :=
  ⟨done (H.1 locked (now locked) 0 3 0x00 ⟨rfl, rfl⟩ (by decide) (by decide)),
    done (H.1 executing (now executing) 0 0 0x03 ⟨rfl, rfl⟩ (by decide) (by decide)),
    done ((H.2 answered (now answered) 0 21 ⟨rfl, rfl⟩ (by decide)).1 _ rfl rfl),
    done ((H.2 answered (now answered) 0 20 ⟨rfl, rfl⟩ (by decide)).1 _ rfl rfl),
    done ((H.2 locked (now locked) 0 1 ⟨rfl, rfl⟩ (by decide)).2 (.inr rfl)),
    done ((H.2 executing (now executing) 0 30 ⟨rfl, rfl⟩ (by decide)).2 (.inl rfl))⟩

/-- The entry of slot 0 takes tag 7 on port 2 and decides a JOIN of a tag no lease holds. -/
theorem test_meets_JoinIsMatchedInIndexOrder (H : Obligations.JoinIsMatchedInIndexOrder) :
    completes (.join 0 ⟨2, []⟩ ⟨7, 1, 1, 300⟩) case82 ∧ case82.matching 7 2 = some 0 ∧ locked.matching 7 2 = none :=
  ⟨done (H.2.2 case82 (ended 2 case82) 0 2 [] ⟨7, 1, 1, 300⟩ (onLane rfl rfl) (by decide)), ((H.2.1 case82 7 2).1 0).2 ⟨⟨admits7, rfl, (H.1 admits7 7 2).2 ⟨fun _ _ _ => rfl, by decide⟩⟩,
      fun j h => absurd h (by revert j; decide)⟩,
    (H.2.1 locked 7 2).2.2 fun i ⟨_, g, _⟩ =>
      nomatch ((by decide : ∀ i, (locked.admissionSlot i).entry = none) i).symm.trans g⟩

/-- A request one byte short. -/
def short : Request := { ask 0 0 [] with clocked := 14 }

theorem test_meets_RequestTransactionIsTakenOrLeft (H : Obligations.RequestTransactionIsTakenOrLeft) :
    completes (.status 0 0 (ask 0 0 []) .taken) locked ∧ completes (.status 0 0 short .whole) locked ∧
    completes (.status 0 0 (ask 0 0 []) .taken) executing ∧ completes (.status 0 0 (ask 0 0 []) .acts) executing :=
  ⟨done ((H locked (now locked) _ 0 _ .taken ⟨rfl, rfl⟩ rfl).1 rfl ⟨rfl, by decide⟩),
    done ((H locked (now locked) _ 0 _ .whole ⟨rfl, rfl⟩ rfl).2.1 (.inr rfl) (fun h => absurd h.2 (by decide))),
    done ((H executing (now executing) _ 0 _ .taken ⟨rfl, rfl⟩ rfl).2.1 (.inl rfl) (fun h => nomatch h.1)),
    done ((H executing (now executing) _ 0 _ .acts ⟨rfl, rfl⟩ rfl).2.2 rfl (by decide))⟩

/-- A request with 13 fields. -/
def thirteen : Request := { ask 0 0 [] with count := 13, clocked := 15 }

theorem test_meets_ChecksAreMadeInOrder (H : Obligations.ChecksAreMadeInOrder) :
    completes (.unknownRequest 0 0x15 0x01 (ask 0 0 []) .whole) locked ∧
    completes (.unknownRequest 0 0x01 0x01 { ask 0 0 [] with group := 2 } .whole) locked ∧
    completes (.retireLease 0 thirteen .whole) serving ∧ completes (.retireLease 0 (ask 32 1 []) .whole) serving ∧
    completes (.retireLease 0 (ask 31 1 []) .whole) serving ∧ completes (.retireLease 0 (ask 0 2 []) .whole) serving ∧
    completes (.suspend 0 (ask 0 2 []) .whole) caseMet := by
  have acts : ∀ (s : State) (x : Executing), s.resetLow = false → s.mgmt.executing = none →
      requestLength x.req ≤ x.req.clocked → s.RequestActs x .whole := fun _ _ a b c => ⟨a, .inl ⟨rfl, b, c⟩⟩
  refine ⟨refusedDone ((H locked (now locked) _ 0 _ _ ⟨rfl, rfl⟩ rfl (acts _ _ rfl rfl (by decide))).1 (by decide)),
    refusedDone ((H locked (now locked) _ 0 _ _ ⟨rfl, rfl⟩ rfl (acts _ _ rfl rfl (by decide))).1 (by decide)),
    refusedDone ((H serving (now serving) _ 0 _ _ ⟨rfl, rfl⟩ rfl (acts _ _ rfl rfl (by decide))).2.1 (by decide) (by decide)),
    refusedDone (((H serving (now serving) _ 0 _ _ ⟨rfl, rfl⟩ rfl (acts _ _ rfl rfl (by decide))).2.2 .lease ?_ ?_ ?_ ?_ ?_ ?_).1
      ?_),
    refusedDone (((H serving (now serving) _ 0 _ _ ⟨rfl, rfl⟩ rfl (acts _ _ rfl rfl (by decide))).2.2 .lease ?_ ?_ ?_ ?_ ?_ ?_).2.1
      31 ?_ ?_),
    done (((H serving (now serving) _ 0 _ _ ⟨rfl, rfl⟩ rfl (acts _ _ rfl rfl (by decide))).2.2 .lease ?_ ?_ ?_ ?_ ?_ ?_).2.2
      0 ?_ ?_ ?_ ?_ ?_),
    done (((H caseMet (now caseMet) _ 0 _ _ ⟨rfl, rfl⟩ rfl (acts _ _ rfl rfl (by decide))).2.2 .lease ?_ ?_ ?_ ?_ ?_ ?_).2.2
      0 ?_ ?_ ?_ ?_ ?_)⟩
  all_goals first
    | decide
    | exact fun _ h => absurd h (by decide)
    | exact fun l _ hk ⟨_, m, hx, _, hm, hb, _⟩ => by
        obtain rfl : l = 0 := Fin.ext hk.symm
        cases hx
        cases hm
        exact absurd hb (by decide)

theorem test_meets_ConsistencyCheckFaults (H : Obligations.ConsistencyCheckFaults) :
    completes (.siteSecondBoundary 0) agreeing ∧ completes (.siteSecondBoundary 0) differing :=
  ⟨done (H agreeing (now agreeing) 0 0 ⟨rfl, rfl⟩ (by decide) rfl rfl rfl),
    done (H differing (now differing) 0 0 ⟨rfl, rfl⟩ (by decide) rfl rfl rfl)⟩

/-- A JOIN admitted but for room: the port holds 4 leases; the table holds 32. -/
def portFull : State := open7 ([(3, 13), (4, 14), (5, 15), (6, 16)].foldl (fun s (x : LeaseIx × Tag) =>
  withLease s x.1 { unit with tag := x.2 }) locked) admits7
def tableFull : State :=
  open7 ((List.finRange 32).foldl (fun s l => withLease s l { unit with tag := BitVec.ofNat 32 (100 + l), port := 1 }) locked) admits7

theorem test_meets_JoinIsRefusedFull (H : Obligations.JoinIsRefusedOrRejoins) :
    completes (.join 0 ⟨0, []⟩ ⟨7, 1, 1, 300⟩) tableFull ∧ completes (.join 0 ⟨0, []⟩ ⟨7, 1, 1, 300⟩) portFull := by
  have a : ∀ s : State, (s.admissionSlot 0).entry = some admits7 →
      ¬ ((∀ j, ∀ b, (s.admissionSlot j).entry = some b → b.admits 7 0 = false) ∨
        ∃ i a, (s.admissionSlot i).entry = some a ∧ a.admits 7 0 = true ∧ a.decision = .deny ∧
          ∀ j, j < i → ∀ b, (s.admissionSlot j).entry = some b → b.admits 7 0 = false) := by
    rintro s h (g | ⟨i, a, hi, _, hd, hj⟩)
    · exact absurd (g 0 _ h) (by decide)
    · by_cases z : i = 0
      · subst z; rw [h] at hi; cases hi; cases hd
      · exact absurd (hj 0 (Fin.pos_of_ne_zero z) _ h) (by decide)
  exact ⟨done (((H tableFull (ended 0 tableFull) 0 0 [] ⟨7, 1, 1, 300⟩ .a (onLane rfl rfl)).2 rfl (by decide) rfl).2 (by decide +kernel) |>.2.1
      (a _ rfl) (by decide +kernel)),
    done (((H portFull (ended 0 portFull) 0 0 [] ⟨7, 1, 1, 300⟩ .a (onLane rfl rfl)).2 rfl (by decide) rfl).2 (by decide +kernel) |>.2.2
      (a _ rfl) (by decide +kernel) (by decide +kernel))⟩

/-- One alarm record, in slot 3. -/
def oneAlarm : State := { locked with alarm := locked.alarm.setSlot 3 ⟨9, some (portDown .activeNew)⟩ }

theorem test_meets_NextWalksTheAlarmTable (H : Obligations.NextWalksTheTable) :
    completes (.next 0 .alarm { ask 0 0 [] with form := formStartKey } .whole) oneAlarm ∧
    completes (.next 0 .alarm { ask 0 0 [] with form := formStartAttention } .whole) oneAlarm := by
  have only : ∀ j q, (now oneAlarm).alarm.slots[(j : SlotIx)].record = some q → j ≠ 3 → False := by
    intro j q h n
    revert q n; revert j; decide
  refine ⟨done (((H oneAlarm (now oneAlarm) 0 .alarm { ask 0 0 [] with form := formStartKey } .whole ⟨rfl, rfl⟩
      ⟨by decide, by decide⟩ ⟨rfl, .inl ⟨rfl, rfl, by decide⟩⟩).2 false none rfl (.inl ⟨rfl, .inl ⟨rfl, rfl⟩⟩)).1 3
      (portDown .activeNew) ⟨rfl, fun _ h => nomatch h⟩ fun j q h n => (only j q h.1 n).elim),
    done (((H oneAlarm (now oneAlarm) 0 .alarm { ask 0 0 [] with form := formStartAttention } .whole ⟨rfl, rfl⟩
      ⟨by decide, by decide⟩ ⟨rfl, .inl ⟨rfl, rfl, by decide⟩⟩).2 true none rfl (.inr ⟨rfl, .inl ⟨rfl, rfl⟩⟩)).1 3
      (portDown .activeNew) ⟨rfl, fun _ h => nomatch h⟩ fun j q h n => (only j q h.1 n).elim)⟩

/-- The serving site, an output running, with a run second next: the invariants' hypotheses are met there. -/
def steady : State :=
  waiting (serving.setOut 1 { Output.reset with
    state := .running, enabled := true, plan := some ⟨1, 0, 5⟩, nextEdge := some 6000000000 }) (.runSecond 0)

theorem steady_leasesAgree : steady.LeasesAgree :=
  lagree steady (by decide +kernel)

theorem test_meets_PinsAgreeAfterEveryStep (H : Obligations.PinsAgreeAfterEveryStep) : ∃ t, step steady = .next t ∧ t.PinsAgree :=
  ⟨_, rfl, H steady _ ⟨rfl, rfl, by decide⟩ rfl⟩

theorem test_meets_TimebaseAgreesAfterEveryStep (H : Obligations.TimebaseAgreesAfterEveryStep) :
    ∃ t, step steady = .next t ∧ t.TimebaseAgrees :=
  ⟨_, rfl, H steady _ ⟨rfl, fun e h => by cases h; decide, ⟨rfl, rfl, rfl⟩⟩ rfl⟩

theorem test_meets_RunningValuesStayInRange (H : Obligations.RunningValuesStayInRange) :
    (∃ t, step steady = .next t ∧ t.InRange ∧ t.LockoutAgrees) ∧ ∃ t, step steady = .next t ∧ t.LanesAgree :=
  ⟨⟨_, rfl, H.1 steady _
    ⟨by decide, by decide, by decide, by decide, by decide, by decide, by decide, by decide, by decide, by decide,
      fun h e => absurd e (by cases h <;> exact fun e => nomatch e), by decide⟩
    (fun i => by revert i; decide) rfl⟩, _, rfl, H.2 steady _ (fun p => by revert p; decide) rfl⟩

theorem test_meets_OutputsAgreeAfterEveryStep (H : Obligations.OutputsAgreeAfterEveryStep) :
    ∃ t, step steady = .next t ∧ t.OutputsAgree :=
  ⟨_, rfl, H steady _ (fun i => by revert i; decide) rfl⟩

theorem test_meets_LeasesAgreeAfterEveryStep (H : Obligations.LeasesAgreeAfterEveryStep) :
    ∃ t, step steady = .next t ∧ t.LeasesAgree :=
  ⟨_, rfl, H steady _ steady_leasesAgree rfl⟩

theorem test_meets_AlarmsAgreeAfterEveryStep (H : Obligations.AlarmsAgreeAfterEveryStep) :
    ∃ t, step steady = .next t ∧ t.AlarmsAgree :=
  ⟨_, rfl, H steady _ steady_leasesAgree
    (fun i r h => absurd h (by have : ∀ j : SlotIx, steady.alarm.slots[j].record = none := by decide
                               rw [this i]; exact fun h => nomatch h)) rfl⟩

/-! ### One result or two per command -/

/-- The state after the command. -/
def after (i : Instr) (s : State) : State := match exec i s with
  | .next t => t
  | .fault _ | .refused _ => s

/-- The code of the last answer. -/
def code (s : State) : Option AnswerCode := s.mgmt.lastAnswer.map fun a => a.code

theorem test_resetN : after .resetN serving = { State.reset with resetLow := true } := rfl
theorem test_resetNRelease : after (.resetNRelease 5) heldLow = State.reset := rfl
theorem test_runSecond : ((after (.runSecond 0) case3).tb.e, (after (.runSecond 0) case3).tb.h, (after (.runSecond 0) case3).tb.runCounter) =
    (some 301, some 5, 11) := by decide
theorem test_siteSecondBoundary : ((after (.siteSecondBoundary 0) case20).port 0).queue =
    [.mark 0 7 500 .b false false, .mark 4 7 500 .b false false] := by decide
theorem test_siteSecondBoundary_degraded : ((after (.siteSecondBoundary 0) case20).port 2).queue = [.mark 3 7 500 .b true false] := by
  decide
theorem test_boundary_after_slew_back : (after (.siteSecondBoundary 0) secondOn).tb.lastBoundary = 7 ∧
    ((after (.siteSecondBoundary 0) secondOn).port 0).queue = [.mark 0 8 500 .a false false] ∧
    (after (.siteSecondBoundary 0) case21).tb = (now case21).tb ∧ ((after (.siteSecondBoundary 0) case21).port 0).queue = [] := by decide
theorem test_referenceEdge : (after (.referenceEdge 0 0 .rising) case27).wires.samples = [⟨0, -499999900, 0⟩] := by decide
theorem test_labelFrame : ((after (.labelFrame 0 1 ⟨0x5C, true⟩ (labelRest true)) (locked.setRef 1 qualifying)).ref 1).pendingLabel =
    some ⟨123456789, true⟩ := by decide +kernel
theorem test_linePulse : ((after (.linePulse 0 .four) case42).ref 4).lastFreq = some 10 := by decide
theorem test_assistMeasurement : (after (.assistMeasurement 0) case13).tb.freqCorr = -7 := by decide
theorem test_timebaseSample : ((after (.timebaseSample 0) case6).tb.siteTime, (after (.timebaseSample 0) case6).tb.e,
    (after (.timebaseSample 0) case6).tb.siteClass, (after (.timebaseSample 0) case6).tb.freqCorr) =
    (5500000060, some 100, .a, 3) := by decide
theorem test_missingSampleTimerExpiry : (((after (.missingSampleTimerExpiry 0 1) case45).ref 1).state,
    ((after (.missingSampleTimerExpiry 0 1) case45).ref 1).faultCause) = (.faulted, some .missing) := by decide
theorem test_holdOffExpiry : ((after (.holdOffExpiry 0 1) case47).ref 1).state = .qualifying := by decide
theorem test_faultScoreDecay : ((after (.faultScoreDecay 0 1) case48).ref 1).faultScore = 1 := by decide
theorem test_revertiveSwitch : (after (.revertiveSwitch 0) case15).tb.selected = some 1 := by decide
theorem test_laneLockGained : ((after (.laneLockGained 0 ⟨3, List.replicate 1023 (some .idle), .idle⟩) case51).port 3).state = .opened ∧
    ((after (.laneLockGained 0 ⟨3, List.replicate 1022 (some .idle), .idle⟩) case51).port 3).state = .down := by decide +kernel
theorem test_laneLockLost : let s := after (.laneLockLost 0 ⟨0, List.replicate 15 none⟩) case53
    ((s.port 0).state, s.lease 3, (s.ref 6).state) = (.down, none, .disabled) ∧
    ((after (.laneLockLost 0 ⟨0, List.replicate 14 none⟩) case53).port 0).state = .opened := by decide +kernel
theorem test_join : ((after (.join 0 ⟨2, []⟩ ⟨7, 1, 1, 300⟩) case82).port 2).queue = [.accept 7 1 .c 60, .echo 1 0] := by decide +kernel
theorem test_renew : ((after (.renew 0 ⟨0, []⟩ 0) case92).lease 0).map (fun x => (x.credit, x.notice)) = some (some 60, none) := by
  decide +kernel
theorem test_leave : (after (.leave 0 ⟨0, []⟩ 0) case89).lease 0 = none := by decide +kernel
theorem test_report : ((after (.report 0 ⟨0, []⟩ ⟨0, 3, [1, 2]⟩) serving).lease 0).map (fun x => x.report) =
    some ⟨some .major, [1, 2], 1⟩ := by decide +kernel
theorem test_peerMark : (after (.peerMark 0 ⟨0, []⟩ ⟨0, 5, 1, 77⟩) case95).wires.samples = [⟨6, 77, 0⟩] := by decide +kernel
theorem test_echoBack : ((after (.echoBack 0 ⟨0, []⟩ 0 2) (heard 5499991200 0 case72)).lease 0).map (fun x => (x.state, x.compensation)) =
    some (.inService, some 550) := by decide +kernel
theorem test_hubFrameReceived : ((after (.hubFrameReceived 0 ⟨0, []⟩ ⟨.mark, markBody⟩) case54).port 0).state = .conflict := by decide +kernel
/-- A LEAVE less its last symbol. -/
def leaving : List RxSymbol := (LaneFrame.leave 0).line.dropLast.map some
/-- IDLE in place of its FRAME-END discards a LEAVE; a frame cut by its FRAME-START does not, nor a symbol that is not valid. -/
theorem test_frame_cut : ((after (.laneLockGained 0 ⟨0, leaving ++ [some .idle], .frameEnd⟩) case89).lease 0).isSome = true ∧
    (after (.leave 0 ⟨0, leaving⟩ 0) case89).lease 0 = none ∧
    (after (.laneLockGained 0 ⟨0, leaving ++ [none], .frameEnd⟩) case89).lease 0 = none := by decide +kernel
/-- A frame that fails its check leaves no trace. -/
theorem test_frame_discarded :
    let s := after (.laneLockGained 0 ⟨0, [.frameStart, .data 0x13, .data 1, .data 0, .data 0, .data 0].map some, .frameEnd⟩) case89
    (s.lane 0, s.slot 0) = (⟨0, none⟩, case89.slot 0) := by decide +kernel
/-- FRAME-START is captured at its own instant, 56 ns before the end of an ECHO-BACK. -/
theorem test_capture : locked.captureAgo 100 7 = ⟨5500000044, 0⟩ ∧ locked.captureAgo 20 7 = ⟨5500000000, 0⟩ := by decide
theorem test_frameDeparture : ((after (.frameDeparture 0 0) case56).port 0).reports = [.mark 0 6] := by decide
theorem test_markDeparture : ((after (.markDeparture 0 0) case64).lease 0).map (fun x => x.credit) = some (some 59) := by decide
theorem test_echoDeparture : ((after (.echoDeparture 0 0) case69).port 0).scanner.batch.map (fun b => b.standing) =
    some (.departed 5 0 10000000000) := by decide
theorem test_echoTimerExpiry : ((after (.echoTimerExpiry 0 0) case77).port 0).queue = [.echo 0 0] := by decide
theorem test_boundarySymbolEmission : ((after (.boundarySymbolEmission 0 0) case60).lease 1).bind (fun x => x.symbol) = some ⟨7, 0⟩ := by
  decide
theorem test_routineBatchDue : ((after (.routineBatchDue 0 0) case79).port 0).queue = [.echo 3 0] := by decide
theorem test_approvalDeadlineExpiry : ((after (.approvalDeadlineExpiry 0 0) case90).port 0).queue = [.refuse 7 .approvalTimeout] := by
  decide
theorem test_outputRisingEdge : ((after (.outputRisingEdge 0 1) case106).out 1).nextEdge = some 5600000000 := by decide
/-- An instant taken while SQUELCHED, then a release at the same moment: the release takes the following instant (08:R145). -/
theorem test_instantThenRelease : (((after (.outputRisingEdge 0 1) instantNow).crossClass .a).out 1).nextEdge = some 6000000000 := by decide
theorem test_outputFall : ((after (.outputFall 0 1) case107).out 1).line = .low := by decide
theorem test_roomAnnouncement : (after (.roomAnnouncement 0 .ports) case114).alarm.rooms =
    [.timebase, .outputs, .leaseController, .referenceUnit] := by decide
theorem test_statusPoll : (after (.statusPoll 0 0 2) answered).mgmt.miso = [0x02, 0x00, 0x00] := by decide
theorem test_answerTransaction : (after (.answerTransaction 0 22) answered).mgmt.miso =
    [0x02, 0, 1, 1, 0, 0, 0, 0, 0, 0, 0, 0, 0, 0, 3, 1, 1, 0, 0, 0, 2, 0] := by decide
theorem test_unknownRequest : code (after (.unknownRequest 0 0x15 0x01 (ask 0 0 []) .whole) locked) = some .unknownRequest := by decide
theorem test_look : (after (.look 0 .admission (ask 0 0 []) .whole) case103).mgmt.lastAnswer.map (fun a => a.fields) =
    some [⟨1, 7⟩, ⟨2, 0xFFFFFFFF⟩, ⟨3, 0xFF⟩, ⟨4, 0⟩, ⟨5, 3⟩, ⟨6, 60⟩, ⟨7, 1⟩, ⟨8, 10⟩] := by decide
theorem test_next : (after (.next 0 .alarm (ask 0 0 []) .whole) oneAlarm).mgmt.lastAnswer.map (fun a => a.key) = some 3 := by decide
theorem test_changeTimebase : (after (.changeTimebase 0 (ask 0 0 [⟨9, 500⟩]) .whole) locked).tb.stepThreshold = 500 := by decide
theorem test_changeReference : ((after (.changeReference 0 (ask 1 0 [⟨2, 1⟩]) .whole) locked).ref 1).state = .qualifying := by decide
theorem test_changeAdmission : (after (.changeAdmission 0 (ask 0 1 [⟨6, 9⟩]) .whole) case103).admissionSlot 0 =
    ⟨2, some { admits7 with grantedCredit := 9 }⟩ := by decide
theorem test_changeLease : ((after (.changeLease 0 (ask 0 1 [⟨4, 2⟩]) .whole) serving).lease 0).map (fun x => x.required) = some .b := by
  decide
theorem test_changePort : ((after (.changePort 0 (ask 4 0 [⟨3, BitVec.ofInt 32 (-9)⟩]) .whole) locked).port 4).asymmetry = -9 := by decide
theorem test_changeOutput : ((after (.changeOutput 0 (ask 1 0 [⟨2, 1⟩]) .whole) locked).out 1).nextEdge = some 6000000000 := by decide
theorem test_changeAlarmKind : (after (.changeAlarmKind 0 (ask 3 0 [⟨4, 4⟩]) .whole) locked).alarm.kinds[(2 : Fin 20)] =
    ⟨some .critical, 1⟩ := by decide
theorem test_changeAlarmUnit : (after (.changeAlarmUnit 0 (ask 0 0 [⟨1, 4⟩]) .whole) locked).alarm.threshold = .critical := by decide
theorem test_changeAlarmLine : (after (.changeAlarmLine 0 (ask 4 0 [⟨1, 2⟩, ⟨2, 4⟩]) .whole) locked).alarm.lines[(4 : LineIx)].active =
    true := by decide
theorem test_create : (after (.create 0 (ask 1 1 fullA) .whole) case103).admissionSlot 1 = ⟨1, some admits7⟩ := by decide
theorem test_retireAdmission : (after (.retireAdmission 0 (ask 0 1 []) .whole) case103).admissionSlot 0 = ⟨2, none⟩ := by decide
theorem test_retireLease : (after (.retireLease 0 (ask 0 1 []) .whole) case89).slot 0 = ⟨2, none⟩ := by decide
theorem test_approve : ((after (.approve 0 (ask 0 1 []) .whole) case98).lease 0).map (fun x => x.state) = some .measuring := by decide
theorem test_deny : ((after (.deny 0 (ask 0 1 []) .whole) case90).port 0).queue = [.refuse 7 .host] := by decide
theorem test_suspend : ((after (.suspend 0 (ask 0 1 []) .whole) case99).lease 0).map (fun x => x.suspendCause) = some (some .host) := by
  decide
theorem test_suspend_meetsATimeout :
    (after (.suspend 0 (ask 0 0 []) .whole) caseMet).mgmt.lastAnswer.map (fun a => a.code) = some .wrongState ∧
    (after (.suspend 1 (ask 0 0 []) .whole) caseMet).mgmt.lastAnswer.map (fun a => a.code) = some .stale := by decide
theorem test_resume : ((after (.resume 0 (ask 0 1 []) .whole) case100).lease 0).map (fun x => x.state) = some .measuring := by decide
theorem test_measure : ((after (.measure 0 (ask 0 9 []) .whole) case102).port 0).scanner.injection = some 0 := by decide
theorem test_ack : ((after (.ack 0 (akey { portDown .activeNew with subject := 4 } 9) .whole) case112).alarm.slots[(1 : SlotIx)]).record.map
    (fun r => r.state) = some .activeSeen := by decide
theorem test_ackAll : (after (.ackAll 0 (ask 0 0 []) .whole) case113).mgmt.lastAnswer.map (fun a => a.fields) = some [⟨1, 2⟩, ⟨2, 1⟩] := by
  decide
theorem test_clearLockout : ((after (.clearLockout 0 (ask 1 0 []) .whole) case49).ref 1).state = .qualifying := by decide
theorem test_force : (after (.force 0 (ask 2 0 []) .whole) case22).tb.selected = some 2 := by decide
theorem test_release : (after (.release 0 (ask 0 0 []) .whole) case23).tb.forced = none := by decide
theorem test_reopen : ((after (.reopen 0 (ask 3 0 []) .whole) case61).port 3).state = .down := by decide
theorem test_close : ((after (.close 0 (ask 0 0 []) .whole) serving).port 0).state = .closed := by decide
theorem test_closeSetup : (after (.closeSetup 0 0 (ask 0 0 []) .whole) State.reset).mgmt.setup = .closed := by decide
theorem test_restart : (after (.restart 0 0 (ask 0 0 []) .whole) serving).tb = State.reset.tb := by decide
theorem test_status : (after (.status 0 0 (ask 0 0 []) .whole) serving).mgmt.lastAnswer.map (fun a => a.fields.take 3) =
    some [⟨1, 2⟩, ⟨2, 1⟩, ⟨3, 1⟩] := by decide

/-! ### Several effects in one event -/

/-- A unit with a waiting notice on a full queue that holds one frame of its own. -/
def fullQueue : State :=
  (unitIs serving { unit with notice := some ⟨.degraded, 3⟩ }).updPort 0 fun r => { r with queue := .echo 0 1 :: List.replicate 15 (.echo 9 0) }

/-- The retiring unit's own notice takes none of the room its frames leave. -/
theorem test_retire_from_full_queue : ((after (.leave 0 ⟨0, []⟩ 0) fullQueue).port 0).queue =
    List.replicate 15 (.echo 9 0) ++ [.notice 0 .retired 2] := by decide +kernel

/-- Two units on port 0: the first is bound to the selected entry 6, the second has an active alarm that has been seen in slot 1. -/
def twoRetire : State :=
  let s := withLease { peer usable with tb := { serving.tb with selected := some 6 } } 1 { unit with tag := 9 }
  withAlarm s 1 { portDown .activeSeen with kind := .leaseDegraded, subject := 1 }

/-- The clear of the second unit's alarm frees slot 1 for what the loss of the first one's entry raises. -/
theorem test_clears_come_first : (((after (.close 0 (ask 0 0 []) .whole) twoRetire).alarm.slots[(1 : SlotIx)]).record.map
    fun r => r.kind) = some .selectionChanged := by decide

/-- A frame cut at the entry to CONFLICT ended there: two IDLE symbols follow it. -/
theorem test_guard_after_cut :
    let cut := (after (.hubFrameReceived 0 ⟨0, []⟩ ⟨.mark, markBody⟩) (serving.updPort 0 fun r => { r with tx := some ⟨.frame (.echo 0 1), 10000000060⟩ })).port 0
    cut.guardPassed 10000000015 = false ∧ cut.guardPassed 10000000016 = true := by decide +kernel

/-- A unit in service in slot 0 and a pending one in slot 5 of port 0, with LEASE-PENDING of the latter and LEASE-TABLE-FULL in
alarm slots 1 and 2, both seen. -/
def conflicted : State :=
  withAlarm (withAlarm (withLease serving 5 { pend 77 with tag := 10 })
    1 { portDown .activeSeen with kind := .leasePending, subject := 5 })
    2 { portDown .activeSeen with kind := .leaseTableFull, subject := 0 }

/-- At entry to CONFLICT the pending unit's own clear comes before the suspension of the other, and LEASE-TABLE-FULL's after it. -/
theorem test_conflict_in_index_order :
    let s := after (.hubFrameReceived 0 ⟨0, []⟩ ⟨.mark, markBody⟩) conflicted
    (s.alarm.slots[(1 : SlotIx)].record.map (fun r => r.kind), s.alarm.slots[(2 : SlotIx)].record.map fun r => r.kind) =
      (some .leaseSuspended, some .portConflict) := by decide +kernel

/-! ### WellFormed: an ill-formed term for each check -/

theorem test_wellFormed_transactions : wellFormed (.statusPoll 0 1 0) = false ∧ wellFormed (.statusPoll 0 2 0) = false ∧
    wellFormed (.answerTransaction 0 0) = false := by decide
theorem test_wellFormed_frames : wellFormed (.report 0 ⟨0, []⟩ ⟨0, 0, List.replicate 7 0⟩) = false ∧
    wellFormed (.hubFrameReceived 0 ⟨0, []⟩ ⟨.echo, [0]⟩) = false := by decide
theorem test_wellFormed_unknownRequest : wellFormed (.unknownRequest 0 0x14 0 (ask 0 0 []) .whole) = false ∧
    wellFormed (.unknownRequest 0 0x15 0 { ask 0 0 [] with clocked := 0 } .whole) = false ∧
    wellFormed (.unknownRequest 0 0x15 0 { ask 0 0 [] with count := 1 } .whole) = false := by decide

/-- Every kind of request command, with the request given. -/
def requests (r : Request) : List Instr :=
  [.look 0 .port r .whole, .next 0 .port r .whole, .changeTimebase 0 r .whole, .changeReference 0 r .whole, .changeAdmission 0 r .whole,
    .changeLease 0 r .whole, .changePort 0 r .whole, .changeOutput 0 r .whole, .changeAlarmKind 0 r .whole, .changeAlarmUnit 0 r .whole,
    .changeAlarmLine 0 r .whole, .create 0 r .whole, .retireAdmission 0 r .whole, .retireLease 0 r .whole] ++
  [.approve 0 r .whole, .deny 0 r .whole, .suspend 0 r .whole, .resume 0 r .whole, .measure 0 r .whole, .ack 0 r .whole,
    .ackAll 0 r .whole, .clearLockout 0 r .whole, .force 0 r .whole, .release 0 r .whole, .reopen 0 r .whole, .close 0 r .whole,
    .closeSetup 0 0 r .whole, .restart 0 0 r .whole, .status 0 0 r .whole]

theorem test_wellFormed_requests :
    (requests { ask 0 0 [] with clocked := 0 }).all (fun i => !wellFormed i) = true ∧
    (requests { ask 0 0 [] with count := 1 }).all (fun i => !wellFormed i) = true ∧
    (requests { ask 0 0 [⟨1, 1⟩] with count := 13 }).all (fun i => !wellFormed i) = true ∧
    (requests { ask 0 0 [] with group := 2 }).all (fun i => !wellFormed i) = true := by decide
theorem test_wellFormed_known : wellFormed (.next 0 .timebase (ask 0 0 []) .whole) = false ∧
    wellFormed (.ack 0 (ask 0 0 []) .whole) = false ∧ wellFormed (.look 0 .port { ask 0 0 [] with form := formStartKey } .whole) = false ∧
    (requests (ask 0 0 [])).countP (fun i => wellFormed i) = 28 := by decide

/-! ### Bytes read by hand -/

theorem test_crc : crc16 [0x31, 0x32, 0x33, 0x34, 0x35, 0x36, 0x37, 0x38, 0x39] = 0x29B1 := by decide +kernel
theorem test_label_bytes : labelOfBytes [0x5C, 0x01, 0x00, 0x00, 0x07, 0x5B, 0xCD, 0x15, 0x8E, 0x02] = some (true, 123456789) := by
  decide +kernel
theorem test_label_rejected : labelOfBytes [0x5C, 0x01, 0x00, 0x00, 0x07, 0x5B, 0xCD, 0x15, 0x8E, 0x03] = none ∧
    labelOfBytes [0x5D, 0x01, 0x00, 0x00, 0x07, 0x5B, 0xCD, 0x15, 0x8E, 0x02] = none := by decide +kernel
theorem test_lane_join : frameOfData [0x11, 8, 0, 0, 0, 7, 1, 1, 0x01, 0x2C, 0xC3, 0x9A] = some (.join ⟨7, 1, 1, 300⟩) := by
  decide +kernel
theorem test_lane_renew_leave : frameOfData [0x12, 1, 5, 0x82, 0x0B] = some (.renew 5) ∧
    frameOfData [0x13, 1, 5, 0xB5, 0x3B] = some (.leave 5) := by decide +kernel
theorem test_lane_echoBack : frameOfData [0x14, 2, 5, 2, 0xE4, 0x41] = some (.echoBack ⟨5, 2⟩) := by decide +kernel
theorem test_lane_report : frameOfData [0x15, 7, 5, 3, 1, 0, 0, 1, 2, 0xF5, 0x3D] = some (.report ⟨5, 3, [258]⟩) := by
  decide +kernel
theorem test_lane_peerMark : frameOfData [0x16, 12, 5, 0, 0, 0, 0, 0, 9, 1, 0xFF, 0xFF, 0xFF, 0xFE, 0x0F, 0xF1] =
    some (.peerMark ⟨5, 9, 1, 0xFFFFFFFE⟩) := by decide +kernel
theorem test_lane_hub : frameOfData [0x24, 13, 0, 0, 0, 0, 0, 0, 0, 0, 0, 0, 0, 0, 0, 0x25, 0xCA] = some (.hub .mark markBody) := by
  decide +kernel
theorem test_lane_discarded : frameOfData [0x12, 1, 5, 0x82, 0x0C] = none ∧ frameOfData [0x12, 2, 5, 0x82, 0x0B] = none := by
  decide +kernel
theorem test_frame_bytes :
    let bytes := fun f : Frame => frameData f.kind.code f.body
    bytes (.accept 7 1 .c 60) = [0x21, 7, 0, 0, 0, 7, 1, 3, 60, 0x57, 0x24] ∧
    bytes (.wait 7) = [0x22, 4, 0, 0, 0, 7, 0x49, 0xB9] ∧
    bytes (.refuse 7 .approvalTimeout) = [0x23, 5, 0, 0, 0, 7, 5, 0xCD, 0x89] ∧
    bytes (.mark 5 9 500 .b true true) = [0x24, 13, 5, 0, 0, 0, 0, 0, 9, 0, 0, 1, 0xF4, 2, 3, 0x51, 0xEF] ∧
    bytes (.echo 3 1) = [0x25, 2, 3, 1, 0x24, 0xD9] ∧
    bytes (.notice 5 .step (-2)) = [0x26, 6, 5, 4, 0xFF, 0xFF, 0xFF, 0xFE, 0x28, 0x51] := by decide +kernel
theorem test_on_line :
    let r : Port := { Port.reset with tx := some ⟨.frame (.echo 3 1), 64⟩ }
    [0, 7, 8, 16, 56, 63, 64].map r.onLine = [.frameStart, .frameStart, .data 0x25, .data 2, .frameEnd, .frameEnd, .idle] := by
  decide +kernel
theorem test_transaction_status_answer : transactionCommand 0 .whole [0x00, 0x00] = some (.statusPoll 0 0 1) ∧
    transactionCommand 0 .whole [0x02, 0x00, 0x00] = some (.answerTransaction 0 3) ∧ transactionCommand 0 .whole [] = none := by decide
theorem test_transaction_request :
    transactionCommand 0 .whole [0x01, 0x03, 0x05, 0, 0, 0, 0, 0, 0, 0, 0, 0, 4, 7, 1, 0x04, 0, 0, 0, 33] =
      some (.changePort 0 ⟨0, 0, 4, 7, 1, [⟨4, 33⟩], 20⟩ .whole) ∧
    transactionCommand 0 .whole [0x01, 0x03, 0x07, 0, 0, 0, 0, 0, 0, 0, 0, 0, 4, 7, 0] =
      some (.unknownRequest 0 0x03 0x07 ⟨0, 0, 4, 7, 0, [], 15⟩ .whole) ∧
    transactionCommand 0 .whole [0x01, 0x0B, 0x07, 0, 0, 0, 0, 0, 0, 0, 0, 0, 4, 7, 0] =
      some (.unknownRequest 0 0x0B 0x07 ⟨0, 0, 4, 7, 0, [], 15⟩ .whole) := by decide

end Sys2Proof.Tests
end

/-! ### The laws of every step, taken apart by what they speak of -/
namespace Sys2Proof.Machine
open Sys2Proof

/-- The state table of 01 section 1.4 as a law of the timebase record: `State.TimebaseAgrees`, read from the record alone. -/
def Timebase.Agrees (t : Timebase) : Prop :=
  t.siteClass = t.classOf ∧ (∀ e, t.e = some e → e ≤ Config.eMax) ∧
  match t.state with
  | .freeRun => t.selected = none ∧ t.e = none ∧ t.h = none ∧ t.assist = none
  | .acquiring | .locked => t.selected.isSome ∧ t.h = none ∧ t.assist = none
  | .holdover => t.selected = none ∧ t.e.isSome ∧ t.h.isSome ∧ t.assist = none ∧ t.spentE = false
  | .assisted => t.selected = none ∧ t.e.isSome ∧ t.h.isSome ∧ t.assist.isSome ∧ t.spentE = false
  | .spent => t.selected = none ∧ t.h.isSome ∧ t.spentE = true

/-- The running values of the timebase record lie in their ranges: `State.InRange` less the queues. -/
def Timebase.InRange (t : Timebase) : Prop :=
  t.siteTime < Config.siteMod ∧ t.siteFrac < Config.secNs ∧ t.runCounter < Config.secMod ∧
  t.lastBoundary < Config.secMod ∧ t.nextSecond < Config.secMod ∧
  -Config.freqMax ≤ t.freqCorr ∧ t.freqCorr ≤ Config.freqMax ∧ t.lockRun ≤ 16 ∧ t.unlockRun ≤ 4 ∧
  t.lockedTime ≤ 86400 ∧ ∀ h, t.h = some h → h ≤ Config.eMax

/-- Fault score and LOCKED-OUT of one entry agree: `State.LockoutAgrees` at an entry (02:R39). -/
def RefEntry.LockoutFits (e : RefEntry) : Prop :=
  e.faultScore ≤ 4 ∧ (e.state = .lockedOut → e.faultScore = 4) ∧
    (e.faultScore = 4 → e.state = .lockedOut ∨ e.state = .disabled)

/-- A port and its lane receiver agree on lock: `State.LanesAgree` at a port (04:R67, R76 to R81). -/
def Port.LockFits (r : Port) (x : LaneReceiver) : Prop :=
  (r.state = .opened → r.linkUp = true) ∧ (r.state = .down → r.linkUp = false) ∧
    (r.linkUp = false → x.run < 1024 ∧ x.frame = none) ∧ (r.linkUp = true → x.run < 16)

/-- From `s` to `t` the laws of the entries, the ports and the lanes are kept, whatever became of the timebase record. -/
structure State.Beside (s t : State) : Prop where
  queues : ∀ p, (s.port p).queue.length ≤ 16 → (t.port p).queue.length ≤ 16
  lockouts : ∀ i, (s.ref i).LockoutFits → (t.ref i).LockoutFits
  locks : ∀ p, (s.port p).LockFits (s.lane p) → (t.port p).LockFits (t.lane p)

/-- From `s` to `t` every law of this section that held still holds. -/
structure State.Keeps (s t : State) : Prop extends State.Beside s t where
  agrees : s.tb.Agrees → t.tb.Agrees
  range : s.tb.InRange → t.tb.InRange

end Sys2Proof.Machine

/-! ### Walking a table -/
namespace Sys2Proof.Machine
open Sys2Proof

variable {s : State}

/-- What every turn of a walk keeps, the walk keeps. -/
theorem forAll_keeps {n : Nat} {f : Fin n → State → State} {P : State → Prop} (hf : ∀ i t, P t → P (f i t)) (h : P s) :
    P (forAll f s) := by
  unfold forAll
  generalize List.finRange n = xs
  induction xs generalizing s with
  | nil => exact h
  | cons i xs ih => exact ih (hf i s h)

/-! ### The timebase record through the operations that leave it alone -/

@[simp] theorem updTb_tb (f : Timebase → Timebase) : (s.updTb f).tb = f s.tb := rfl
@[simp] theorem updRef_tb (i : RefIx) (f : RefEntry → RefEntry) : (s.updRef i f).tb = s.tb := rfl
@[simp] theorem updPort_tb (p : PortIx) (f : Port → Port) : (s.updPort p f).tb = s.tb := rfl
@[simp] theorem updOut_tb (i : OutIx) (f : Output → Output) : (s.updOut i f).tb = s.tb := rfl
@[simp] theorem updLease_tb (l : LeaseIx) (f : Lease → Lease) : (s.updLease l f).tb = s.tb := rfl
@[simp] theorem moveLease_tb (l : LeaseIx) (f : Lease → Lease) : (s.moveLease l f).tb = s.tb := rfl
@[simp] theorem raise_tb (r : Raise) : (s.raise r).tb = s.tb := rfl
@[simp] theorem clearAlarm_tb (k : AlarmKind) (n : Nat) : (s.clearAlarm k n).tb = s.tb := rfl
@[simp] theorem raiseSelection_tb (i : Option RefIx) : (s.raiseSelection i).tb = s.tb := rfl

@[simp] theorem leaseAtClass_tb (before after : SiteClass) (l : LeaseIx) : (State.leaseAtClass before after l s).tb = s.tb :=
  (leaseAtClass_touches (ps := [.ports, .leases, .slots, .rooms]) (by simp) (by simp) (by simp) (by simp)
    State.OnlyTouches.rfl').tb (by simp)

@[simp] theorem moveOutput_tb (i : OutIx) (f : Output → SiteNs → SiteNs) : (s.moveOutput i f).tb = s.tb :=
  (moveOutput_touches (ps := [.outs, .slots, .rooms]) (by simp) (by simp) (by simp) State.OnlyTouches.rfl').tb (by simp)

@[simp] theorem clearStateAlarm_tb (st : TbState) : (s.clearStateAlarm st).tb = s.tb := by cases st <;> rfl
@[simp] theorem raiseHoldover_tb (st : TbState) : (s.raiseHoldover st).tb = s.tb := by cases st <;> rfl

@[simp] theorem raiseFreeRun_tb : s.raiseFreeRun.tb = s.tb := by unfold State.raiseFreeRun; split <;> rfl

/-! ### The site class follows E (01:R7) -/

/-- A class change event writes the class and advances the revision; the rest of the record stays. -/
theorem crossClass_tb (x : SiteClass) : (s.crossClass x).tb = { s.tb with siteClass := x, rev := s.tb.rev + 1 } := by
  have leases := forAll_keeps (P := fun t => t.tb = { s.tb with siteClass := x, rev := s.tb.rev + 1 })
    (f := State.leaseAtClass s.tb.siteClass x) (fun i t h => by simpa using h)
    (s := s.updTb fun b => { b with siteClass := x, rev := b.rev + 1 }) rfl
  exact forAll_keeps (P := fun t => t.tb = { s.tb with siteClass := x, rev := s.tb.rev + 1 }) (fun i t h => by simpa using h) leases

/-- Crossings between two classes: how many thresholds lie between them. -/
def SiteClass.apart (x y : SiteClass) : Nat := (x.rank - y.rank) + (y.rank - x.rank)

theorem SiteClass.apart_le_four (x y : SiteClass) : x.apart y ≤ 4 := by cases x <;> cases y <;> decide

/-- A crossing towards another class leaves one threshold less between them. -/
theorem SiteClass.apart_toward {x y : SiteClass} (h : x ≠ y) : (x.toward y).apart y + 1 = x.apart y := by
  cases x <;> cases y <;> first | exact absurd rfl h | rfl

theorem SiteClass.eq_of_apart_eq_zero {x y : SiteClass} (h : x.apart y = 0) : x = y := by
  cases x <;> cases y <;> first | rfl | exact absurd h (by decide)

/-- Enough crossings bring the site class to the class of E, and touch nothing else of the record but the revision. -/
theorem crossings_tb (n : Nat) (h : s.tb.siteClass.apart s.tb.classOf ≤ n) :
    (s.crossings n).tb = { s.tb with siteClass := s.tb.classOf, rev := (s.crossings n).tb.rev } := by
  induction n generalizing s with
  | zero =>
    have same := SiteClass.eq_of_apart_eq_zero (Nat.le_zero.mp h)
    simp only [State.crossings, ← same]
  | succ n ih =>
    unfold State.crossings
    split
    next same => simp only [← same]
    next apart =>
      have step := SiteClass.apart_toward apart
      have next := ih (s := s.crossClass (s.tb.siteClass.toward s.tb.classOf)) (by
        simp only [crossClass_tb]
        show (s.tb.siteClass.toward s.tb.classOf).apart s.tb.classOf ≤ n
        omega)
      rw [next]
      simp only [crossClass_tb]
      rfl

/-- Deriving the class again from E leaves the class of E (01:R7). -/
theorem deriveClass_tb : s.deriveClass.tb = { s.tb with siteClass := s.tb.classOf, rev := s.deriveClass.tb.rev } :=
  crossings_tb 4 (SiteClass.apart_le_four _ _)

end Sys2Proof.Machine

/-! ### What every event keeps -/
namespace Sys2Proof.Machine
open Sys2Proof

theorem timebaseAgrees_iff (s : State) : s.TimebaseAgrees ↔ s.tb.Agrees := Iff.rfl

theorem inRange_iff (s : State) : s.InRange ↔ s.tb.InRange ∧ ∀ p, (s.port p).queue.length ≤ 16 := by
  simp only [State.InRange, Timebase.InRange, and_assoc]

theorem lockoutAgrees_iff (s : State) : s.LockoutAgrees ↔ ∀ i, (s.ref i).LockoutFits := Iff.rfl

theorem lanesAgree_iff (s : State) : s.LanesAgree ↔ ∀ p, (s.port p).LockFits (s.lane p) := Iff.rfl

variable {s₀ s t : State}

namespace State.Beside

@[simp] theorem refl (s : State) : s.Beside s := ⟨fun _ h => h, fun _ h => h, fun _ h => h⟩

theorem trans {u : State} (h : s.Beside t) (k : t.Beside u) : s.Beside u where
  queues p hp := k.queues p (h.queues p hp)
  lockouts i hi := k.lockouts i (h.lockouts i hi)
  locks p hp := k.locks p (h.locks p hp)

end State.Beside

namespace State.Keeps

@[simp] theorem refl (s : State) : s.Keeps s := ⟨.refl s, fun h => h, fun h => h⟩

theorem trans {u : State} (h : s.Keeps t) (k : t.Keeps u) : s.Keeps u :=
  ⟨h.toBeside.trans k.toBeside, fun a => k.agrees (h.agrees a), fun a => k.range (h.range a)⟩

/-- What keeps the laws beside the timebase record keeps all of them, if the record itself keeps its own. -/
theorem of_beside (h : s.Beside t) (ha : s.tb.Agrees → t.tb.Agrees) (hr : s.tb.InRange → t.tb.InRange) : s.Keeps t :=
  ⟨h, ha, hr⟩

/-- A change of other parts than the timebase, the entries, the ports and the lanes keeps every law. -/
theorem of_same (h : s₀.Keeps s) (htb : t.tb = s.tb) (href : t.refs = s.refs) (hport : t.ports = s.ports)
    (hlane : t.lanes = s.lanes) : s₀.Keeps t := by
  have ref (i : RefIx) : t.ref i = s.ref i := by simp only [State.ref, href]
  have port (p : PortIx) : t.port p = s.port p := by simp only [State.port, hport]
  have lane (p : PortIx) : t.lane p = s.lane p := by simp only [State.lane, hlane]
  refine h.trans ⟨⟨fun p => ?_, fun i => ?_, fun p => ?_⟩, ?_, ?_⟩
  · rw [port]; exact id
  · rw [ref]; exact id
  · rw [port, lane]; exact id
  · rw [htb]; exact id
  · rw [htb]; exact id

theorem forAll {n : Nat} {f : Fin n → State → State} (hf : ∀ i t, State.Keeps t (f i t)) (h : s₀.Keeps s) :
    s₀.Keeps (forAll f s) := forAll_keeps (fun i t ht => ht.trans (hf i t)) h

/-! #### Writers -/

@[simp] theorem setClock {c : Clock} (h : s₀.Keeps s) : s₀.Keeps (s.setClock c) := h.of_same rfl rfl rfl rfl
@[simp] theorem setWires {w : Wires} (h : s₀.Keeps s) : s₀.Keeps (s.setWires w) := h.of_same rfl rfl rfl rfl
@[simp] theorem setAlarm {a : AlarmUnit} (h : s₀.Keeps s) : s₀.Keeps (s.setAlarm a) := h.of_same rfl rfl rfl rfl
@[simp] theorem setMgmt {m : Mgmt} (h : s₀.Keeps s) : s₀.Keeps (s.setMgmt m) := h.of_same rfl rfl rfl rfl
@[simp] theorem setOut {i : OutIx} {o : Output} (h : s₀.Keeps s) : s₀.Keeps (s.setOut i o) := h.of_same rfl rfl rfl rfl
@[simp] theorem setAdmission {i : AdmIx} {x : AdmissionSlot} (h : s₀.Keeps s) : s₀.Keeps (s.setAdmission i x) :=
  h.of_same rfl rfl rfl rfl
@[simp] theorem setLeaseSlot {l : LeaseIx} {x : LeaseSlot} (h : s₀.Keeps s) : s₀.Keeps (s.setLeaseSlot l x) :=
  h.of_same rfl rfl rfl rfl
@[simp] theorem updOut {i : OutIx} {f : Output → Output} (h : s₀.Keeps s) : s₀.Keeps (s.updOut i f) := h.setOut
@[simp] theorem updLease {l : LeaseIx} {f : Lease → Lease} (h : s₀.Keeps s) : s₀.Keeps (s.updLease l f) := h.setLeaseSlot
@[simp] theorem moveLease {l : LeaseIx} {f : Lease → Lease} (h : s₀.Keeps s) : s₀.Keeps (s.moveLease l f) := h.setLeaseSlot
@[simp] theorem raise {r : Raise} (h : s₀.Keeps s) : s₀.Keeps (s.raise r) := h.setAlarm
@[simp] theorem clearAlarm {k : AlarmKind} {n : Nat} (h : s₀.Keeps s) : s₀.Keeps (s.clearAlarm k n) := h.setAlarm
@[simp] theorem settle (h : s₀.Keeps s) : s₀.Keeps s.settle := h.setAlarm

/-- A change of the timebase record that keeps the record's laws. -/
theorem setTb {b : Timebase} (ha : s.tb.Agrees → b.Agrees) (hr : s.tb.InRange → b.InRange) (h : s₀.Keeps s) :
    s₀.Keeps (s.setTb b) := h.trans ⟨⟨fun _ k => k, fun _ k => k, fun _ k => k⟩, ha, hr⟩

theorem updTb {f : Timebase → Timebase} (ha : s.tb.Agrees → (f s.tb).Agrees) (hr : s.tb.InRange → (f s.tb).InRange)
    (h : s₀.Keeps s) : s₀.Keeps (s.updTb f) := h.setTb ha hr

/-- A change of an entry that keeps the agreement of its score and state. -/
theorem setRef {i : RefIx} {e : RefEntry} (he : (s.ref i).LockoutFits → e.LockoutFits) (h : s₀.Keeps s) :
    s₀.Keeps (s.setRef i e) := by
  refine h.trans ⟨⟨fun _ k => k, fun j hj => ?_, fun _ k => k⟩, fun k => k, fun k => k⟩
  rw [setRef_ref_if]
  split
  next same => exact he (same ▸ hj)
  next => exact hj

theorem updRef {i : RefIx} {f : RefEntry → RefEntry} (he : (s.ref i).LockoutFits → (f (s.ref i)).LockoutFits)
    (h : s₀.Keeps s) : s₀.Keeps (s.updRef i f) := h.setRef he

/-- A change of an entry that leaves its state and score alone. -/
@[simp] theorem updRef_values {i : RefIx} {f : RefEntry → RefEntry} (hs : (f (s.ref i)).state = (s.ref i).state)
    (hc : (f (s.ref i)).faultScore = (s.ref i).faultScore) (h : s₀.Keeps s) : s₀.Keeps (s.updRef i f) :=
  h.updRef (by simp only [RefEntry.LockoutFits, hs, hc]; exact id)

/-- A change of a port that keeps its queue's bound and its agreement with its lane. -/
theorem setPort {p : PortIx} {r : Port} (hq : (s.port p).queue.length ≤ 16 → r.queue.length ≤ 16)
    (hl : (s.port p).LockFits (s.lane p) → r.LockFits (s.lane p)) (h : s₀.Keeps s) : s₀.Keeps (s.setPort p r) := by
  refine h.trans ⟨⟨fun q k => ?_, fun _ k => k, fun q k => ?_⟩, fun k => k, fun k => k⟩ <;> rw [setPort_port_if] <;> split
  next same => exact hq (same ▸ k)
  next => exact k
  next same => exact same ▸ hl (same.symm ▸ k)
  next => exact k

/-- A change of a port that leaves its state and lock alone and its queue within bounds. -/
@[simp] theorem setPort_values {p : PortIx} {r : Port} (hs : r.state = (s.port p).state) (hu : r.linkUp = (s.port p).linkUp)
    (hq : (s.port p).queue.length ≤ 16 → r.queue.length ≤ 16) (h : s₀.Keeps s) : s₀.Keeps (s.setPort p r) :=
  h.setPort hq (by simp only [Port.LockFits, hs, hu]; exact id)

@[simp] theorem updPort_values {p : PortIx} {f : Port → Port} (hs : (f (s.port p)).state = (s.port p).state)
    (hu : (f (s.port p)).linkUp = (s.port p).linkUp)
    (hq : (s.port p).queue.length ≤ 16 → (f (s.port p)).queue.length ≤ 16) (h : s₀.Keeps s) : s₀.Keeps (s.updPort p f) :=
  h.setPort_values hs hu hq

@[simp] theorem updScanner {p : PortIx} {f : Scanner → Scanner} (h : s₀.Keeps s) : s₀.Keeps (s.updScanner p f) :=
  h.updPort_values rfl rfl id

/-- A change of a lane receiver that keeps its agreement with its port. -/
theorem setLane {p : PortIx} {x : LaneReceiver} (hx : (s.port p).LockFits (s.lane p) → (s.port p).LockFits x)
    (h : s₀.Keeps s) : s₀.Keeps (s.setLane p x) := by
  refine h.trans ⟨⟨fun _ k => k, fun _ k => k, fun q k => ?_⟩, fun k => k, fun k => k⟩
  rw [setLane_lane_if]
  split
  next same => exact same ▸ hx (same.symm ▸ k)
  next => exact k

end State.Keeps

/-! ### Queues, schedules and scanners keep the laws (04:R73, R74; 06) -/

theorem Port.offer_queue_le {r : Port} {f : Frame} (h : r.queue.length ≤ 16) : (r.offer f).queue.length ≤ 16 := by
  unfold Port.offer Port.offering
  split
  next offered =>
    split at offered
    next => split at offered <;> simp_all [Config.queueMax]
    next => cases offered
  all_goals exact h

@[simp] theorem Port.offer_state (r : Port) (f : Frame) : (r.offer f).state = r.state := by unfold Port.offer; split <;> rfl
@[simp] theorem Port.offer_linkUp (r : Port) (f : Frame) : (r.offer f).linkUp = r.linkUp := by unfold Port.offer; split <;> rfl

namespace State.Keeps

@[simp] theorem offer {p : PortIx} {f : Frame} (h : s₀.Keeps s) : s₀.Keeps (s.offer p f) :=
  h.updPort_values (Port.offer_state _ _) (Port.offer_linkUp _ _) Port.offer_queue_le

@[simp] theorem putNotice {l : LeaseIx} {k : NoticeKind} {v : Int} (h : s₀.Keeps s) : s₀.Keeps (s.putNotice l k v) := by
  unfold State.putNotice; repeat' split
  all_goals simp [h]

@[simp] theorem offerWaiting {p : PortIx} {l : LeaseIx} (h : s₀.Keeps s) : s₀.Keeps (s.offerWaiting p l) := by
  unfold State.offerWaiting; repeat' split
  all_goals simp [h]

@[simp] theorem roomInQueue {p : PortIx} (h : s₀.Keeps s) : s₀.Keeps (s.roomInQueue p) :=
  h.forAll fun _ _ => by simp

@[simp] theorem removeFrames {p : PortIx} {d : Frame → Bool} (h : s₀.Keeps s) : s₀.Keeps (s.removeFrames p d) := by
  have kept (hq : (s.port p).queue.length ≤ 16) : ((s.port p).queue.filter fun f => !d f).length ≤ 16 :=
    (List.length_filter_le _ _).trans hq
  have cut := h.setPort_values (r := { s.port p with queue := (s.port p).queue.filter fun f => !d f }) rfl rfl kept
  unfold State.removeFrames; dsimp only; split
  · exact cut.roomInQueue
  · exact cut

@[simp] theorem dropSchedule {p : PortIx} {l : LeaseIx} (h : s₀.Keeps s) : s₀.Keeps (s.dropSchedule p l) := by
  simp [State.dropSchedule, h]

@[simp] theorem dropAllSchedules (h : s₀.Keeps s) : s₀.Keeps s.dropAllSchedules := h.forAll fun _ _ => by simp

@[simp] theorem stopMarks {l : LeaseIx} (h : s₀.Keeps s) : s₀.Keeps (s.stopMarks l) := by
  unfold State.stopMarks; split
  · exact h
  · exact h.removeFrames.dropSchedule.updLease

@[simp] theorem stopAllFrames {l : LeaseIx} (h : s₀.Keeps s) : s₀.Keeps (s.stopAllFrames l) := by
  unfold State.stopAllFrames; split
  · exact h
  · exact h.updLease.removeFrames.dropSchedule.updLease

@[simp] theorem sendEcho {p : PortIx} {n : BitVec 2} (h : s₀.Keeps s) : s₀.Keeps (s.sendEcho p n) := by
  unfold State.sendEcho; split <;> simp [h]

@[simp] theorem startBatch {p : PortIx} {l : LeaseIx} {o : Origin} (h : s₀.Keeps s) : s₀.Keeps (s.startBatch p l o) := by
  simp [State.startBatch, h]

@[simp] theorem startRoutine {p : PortIx} (h : s₀.Keeps s) : s₀.Keeps (s.startRoutine p) := by
  unfold State.startRoutine; repeat' split
  all_goals simp [h]

@[simp] theorem choose {p : PortIx} (h : s₀.Keeps s) : s₀.Keeps (s.choose p) := by
  unfold State.choose; dsimp only; repeat' split
  all_goals simp [h]

@[simp] theorem abandonBatch {l : LeaseIx} (h : s₀.Keeps s) : s₀.Keeps (s.abandonBatch l) := by
  unfold State.abandonBatch; repeat' split
  all_goals simp [h]

@[simp] theorem dropInjection {l : LeaseIx} (h : s₀.Keeps s) : s₀.Keeps (s.dropInjection l) := by
  unfold State.dropInjection; split <;> simp [h]

@[simp] theorem stopScanner {p : PortIx} (h : s₀.Keeps s) : s₀.Keeps (s.stopScanner p) := h.updScanner

/-! #### Alarms and outputs -/

@[simp] theorem raiseLease {l : LeaseIx} {k : AlarmKind} {d : Option Detail} (h : s₀.Keeps s) :
    s₀.Keeps (s.raiseLease l k d) := by
  unfold State.raiseLease; split <;> simp [h]

@[simp] theorem moveOutput {i : OutIx} {f : Output → SiteNs → SiteNs} (h : s₀.Keeps s) : s₀.Keeps (s.moveOutput i f) := by
  unfold State.moveOutput; dsimp only; repeat' split
  all_goals simp [h]

@[simp] theorem replanOutputs (h : s₀.Keeps s) : s₀.Keeps s.replanOutputs := h.forAll fun _ _ => by simp

end State.Keeps
end Sys2Proof.Machine

/-! ### The laws of the timebase record through its changes (01) -/
namespace Sys2Proof.Machine
open Sys2Proof

namespace Timebase

variable {t : Timebase}

theorem moveSite_lt (n : SiteNs) (d : Int) : moveSite n d < Config.siteMod := by
  unfold moveSite; split
  · decide
  · exact Nat.mod_lt _ (by decide)

theorem clampInt_bounds {m : Int} (hm : 0 ≤ m) (v : Int) : -m ≤ clampInt m v ∧ clampInt m v ≤ m := by
  unfold clampInt; omega

/-- Entry to ACQUIRING with a reference selected keeps the state table. -/
theorem acquire_agrees {sel : Option RefIx} (hs : sel.isSome) (h : t.Agrees) : (t.acquire sel).Agrees :=
  ⟨h.1, h.2.1, hs, rfl, rfl⟩

theorem acquire_inRange {sel : Option RefIx} (h : t.InRange) : (t.acquire sel).InRange := by
  obtain ⟨site, frac, run, last, next, low, high, -, -, -, -⟩ := h
  exact ⟨site, frac, run, last, next, low, high, Nat.zero_le _, Nat.zero_le _, Nat.zero_le _, nofun⟩

/-- Entry to holdover with E known takes the state that E and the assist reference give (01:R15). -/
theorem holdover_agrees {assist : Option LineInput} {restore : Option RefIx} {rev : Rev} (he : t.e.isSome) (h : t.Agrees) :
    ({ t with state := t.holdoverState assist, selected := none, assist := assist, lockRun := 0, unlockRun := 0, h := some 0,
              restore := restore, rev := rev } : Timebase).Agrees := by
  refine ⟨h.1, h.2.1, ?_⟩
  unfold holdoverState
  split_ifs with spent assisted
  · exact ⟨rfl, rfl, spent⟩
  · exact ⟨rfl, he, rfl, assisted, Bool.eq_false_iff.mpr spent⟩
  · exact ⟨rfl, he, rfl, by simpa using assisted, Bool.eq_false_iff.mpr spent⟩

theorem holdover_inRange {st : TbState} {assist : Option LineInput} {restore : Option RefIx} {rev : Rev} (h : t.InRange) :
    ({ t with state := st, selected := none, assist := assist, lockRun := 0, unlockRun := 0, h := some 0,
              restore := restore, rev := rev } : Timebase).InRange := by
  obtain ⟨site, frac, run, last, next, low, high, -, -, locked, -⟩ := h
  refine ⟨site, frac, run, last, next, low, high, Nat.zero_le _, Nat.zero_le _, locked, fun v hv => ?_⟩
  cases hv; exact Nat.zero_le _

theorem unforce_agrees {i : RefIx} (h : t.Agrees) : (t.unforce i).Agrees := by
  unfold unforce; split <;> exact h

theorem unforce_inRange {i : RefIx} (h : t.InRange) : (t.unforce i).InRange := by
  unfold unforce; split <;> exact h

/-- A LINE entry that becomes USABLE moves HOLDOVER to ASSISTED (01:R18). -/
theorem lineUsable_agrees {l : LineInput} (h : t.Agrees) : (t.lineUsable l).Agrees := by
  obtain ⟨cls, bound, table⟩ := h
  unfold lineUsable
  split
  next st =>
    rw [st] at table
    obtain ⟨sel, he, hh, -, unspent⟩ := table
    exact ⟨cls, bound, sel, he, hh, rfl, unspent⟩
  next st ha =>
    rw [st] at table
    obtain ⟨sel, hh, spent⟩ := table
    refine ⟨cls, bound, ?_⟩
    simp only [st]
    exact ⟨sel, hh, spent⟩
  next => exact ⟨cls, bound, table⟩

theorem lineUsable_inRange {l : LineInput} (h : t.InRange) : (t.lineUsable l).InRange := by
  unfold lineUsable; split <;> exact h

/-- The loss of the assist reference moves ASSISTED to HOLDOVER, unless another LINE entry takes its place (01:R18). -/
theorem assistLost_agrees {other : Option LineInput} (assisting : t.assist.isSome) (h : t.Agrees) :
    (t.assistLost other).Agrees := by
  obtain ⟨cls, bound, table⟩ := h
  refine ⟨cls, bound, ?_⟩
  unfold assistLost
  cases st : t.state <;> simp only [st] at table
  case freeRun | acquiring | locked | holdover => simp_all
  case spent =>
    simp only [reduceCtorEq, decide_false, Bool.and_false]
    exact table
  case assisted =>
    obtain ⟨sel, he, hh, -, unspent⟩ := table
    cases other
    · exact ⟨sel, he, hh, rfl, unspent⟩
    · exact ⟨sel, he, hh, rfl, unspent⟩

theorem assistLost_inRange {other : Option LineInput} (h : t.InRange) : (t.assistLost other).InRange := h

theorem elapse_agrees {dt : Nat} (h : t.Agrees) : (t.elapse dt).Agrees := h

theorem elapse_inRange {dt : Nat} (h : t.InRange) : (t.elapse dt).InRange := by
  obtain ⟨-, -, rest⟩ := h
  exact ⟨Nat.mod_lt _ (by decide), Nat.mod_lt _ (by decide), rest⟩

/-- A frequency correction held within its bounds (01:R5). -/
theorem freqCorr_inRange {v : Int} (h : t.InRange) : ({ t with freqCorr := clampInt Config.freqMax v } : Timebase).InRange := by
  obtain ⟨site, frac, run, last, next, -, -, rest⟩ := h
  obtain ⟨low, high⟩ := clampInt_bounds (m := Config.freqMax) (by decide) v
  exact ⟨site, frac, run, last, next, low, high, rest⟩

theorem boundarySecond_lt (h : t.InRange) : t.boundarySecond < Config.secMod := by
  unfold boundarySecond; split
  · exact Nat.mod_lt _ (by decide)
  · exact h.2.2.2.2.1

theorem boundary_agrees {n : Nat} (h : t.Agrees) :
    ({ t with nextSecond := (n + 1) % Config.secMod, lastBoundary := n } : Timebase).Agrees := h

theorem boundary_inRange {n : Nat} (hn : n < Config.secMod) (h : t.InRange) :
    ({ t with nextSecond := (n + 1) % Config.secMod, lastBoundary := n } : Timebase).InRange := by
  obtain ⟨site, frac, run, -, -, rest⟩ := h
  exact ⟨site, frac, run, hn, Nat.mod_lt _ (by decide), rest⟩

/-! #### Samples (01:R9 to R14) -/

theorem siteSecond_lt {n : SiteNs} (h : n < Config.siteMod) : n / Config.secNs < Config.secMod :=
  Nat.div_lt_of_lt_mul h

theorem step_inRange {o : Int} (h : t.InRange) : (t.step o).InRange := by
  obtain ⟨-, frac, run, -, -, rest⟩ := acquire_inRange (sel := t.selected) h
  exact ⟨moveSite_lt _ _, frac, run, siteSecond_lt (moveSite_lt _ _), Nat.mod_lt _ (by decide), rest⟩

theorem slew_inRange {o : Int} (h : t.InRange) : (t.slew o).InRange := by
  obtain ⟨-, frac, run, last, next, rest⟩ := h
  unfold slew; dsimp only; split
  · exact ⟨moveSite_lt _ _, frac, run, last, next, rest⟩
  · exact ⟨moveSite_lt _ _, frac, run, last, Nat.mod_lt _ (by decide), rest⟩

theorem steer_inRange {o : Int} (h : t.InRange) : (t.steer o).InRange := freqCorr_inRange h

theorem runs_inRange {o : Int} (h : t.InRange) : (t.runs o).InRange := by
  have kept := h
  obtain ⟨site, frac, run, last, next, low, high, lock, unlock, rest⟩ := h
  unfold runs
  split_ifs with locked far few acquiring near more
  · exact ⟨site, frac, run, last, next, low, high, lock, Nat.le_of_lt few, rest⟩
  · exact acquire_inRange kept
  · exact ⟨site, frac, run, last, next, low, high, lock, Nat.zero_le _, rest⟩
  · exact ⟨site, frac, run, last, next, low, high, Nat.le_of_lt more, unlock, rest⟩
  · exact ⟨site, frac, run, last, next, low, high, Nat.le_refl _, unlock, rest⟩
  · exact ⟨site, frac, run, last, next, low, high, Nat.zero_le _, unlock, rest⟩
  · exact kept

/-- ACQUIRING and LOCKED: the states with a reference selected (01 section 1.4). -/
def Tracks (t : Timebase) : Prop :=
  (t.state = .acquiring ∨ t.state = .locked) ∧ t.selected.isSome ∧ t.h = none ∧ t.assist = none

/-- With a reference selected the state is ACQUIRING or LOCKED. -/
theorem Agrees.tracks (h : t.Agrees) (hs : t.selected.isSome) : t.Tracks := by
  obtain ⟨-, -, table⟩ := h
  unfold Tracks
  cases st : t.state <;> simp only [st] at table <;> simp_all

/-- In ACQUIRING and LOCKED the table asks nothing of E beyond its bound, and of the class that it is E's. -/
theorem Tracks.agrees (h : t.Tracks) (cls : t.siteClass = t.classOf) (bound : ∀ e, t.e = some e → e ≤ Config.eMax) :
    t.Agrees := by
  obtain ⟨st, table⟩ := h
  refine ⟨cls, bound, ?_⟩
  rcases st with st | st <;> rw [st] <;> exact table

theorem acquire_tracks {sel : Option RefIx} (hs : sel.isSome) : (t.acquire sel).Tracks := ⟨.inl rfl, hs, rfl, rfl⟩

theorem step_tracks {o : Int} (hs : t.selected.isSome) : (t.step o).Tracks := by
  obtain ⟨st, sel, hh, ha⟩ := acquire_tracks (t := t) hs
  exact ⟨st, sel, hh, ha⟩

theorem steer_tracks {o : Int} (h : t.Tracks) : (t.steer o).Tracks := h

theorem slew_tracks {o : Int} (h : t.Tracks) : (t.slew o).Tracks := by
  unfold slew; dsimp only; split <;> exact h

theorem runs_tracks {o : Int} (h : t.Tracks) : (t.runs o).Tracks := by
  obtain ⟨-, hsel, rest⟩ := id h
  unfold runs
  split_ifs with locked far few acquiring near more
  · exact h
  · exact acquire_tracks hsel
  · exact h
  · exact h
  · exact ⟨.inr rfl, hsel, rest⟩
  · exact h
  · exact h

end Timebase
end Sys2Proof.Machine

/-! ### What the timebase's operations do to its record, and that they keep the laws (01, 03) -/
namespace Sys2Proof.Machine
open Sys2Proof

variable {s₀ s : State}

/-! #### The record after each operation -/

theorem selectEntry_tb (i : RefIx) : (s.selectEntry i).tb = s.tb.acquire (some i) := by simp [State.selectEntry]

@[simp] theorem storeRestore_tb : s.storeRestore.tb = { s.tb with restore := s.restoreNow } := rfl

theorem enterHoldover_tb :
    s.enterHoldover.tb =
      { s.tb with
        state := s.tb.holdoverState s.bestLine
        selected := none
        assist := s.bestLine
        lockRun := 0
        unlockRun := 0
        h := some 0
        restore := none
        rev := s.tb.rev + changed s.tb.state (s.tb.holdoverState s.bestLine) + changed s.tb.selected none +
          changed s.tb.assist s.bestLine } := by simp [State.enterHoldover]

theorem enterFreeRun_tb :
    s.enterFreeRun.tb =
      { s.tb with
        state := .freeRun
        siteClass := .none
        selected := none
        assist := none
        lockRun := 0
        unlockRun := 0
        h := none
        e := none
        restore := none
        rev := s.enterFreeRun.tb.rev } := by
  unfold State.enterFreeRun
  dsimp only
  rw [raiseFreeRun_tb, deriveClass_tb]
  rfl

theorem spentTest_tb :
    s.spentTest.tb =
      if (s.tb.state = .holdover ∨ s.tb.state = .assisted) ∧ s.tb.spentE then
        { s.tb with state := .spent, rev := s.tb.rev + 1 }
      else s.tb := by
  unfold State.spentTest
  simp only [Bool.and_eq_true, Bool.or_eq_true, decide_eq_true_eq]
  split <;> rfl

/-- The class of E, then the SPENT test on it (01:R7, R17). -/
theorem deriveClass_spentTest_tb :
    s.deriveClass.spentTest.tb =
      { s.tb with
        siteClass := s.tb.classOf
        state := if (s.tb.state = .holdover ∨ s.tb.state = .assisted) ∧ s.tb.spentE then .spent else s.tb.state
        rev := s.deriveClass.spentTest.tb.rev } := by
  have derived := deriveClass_tb (s := s)
  have state : s.deriveClass.tb.state = s.tb.state := by rw [derived]
  have spent : s.deriveClass.tb.spentE = s.tb.spentE := by rw [derived]; rfl
  rw [spentTest_tb, state, spent]
  split <;> rw [derived]

/-- A run second: the counters first, then the class of the new E, then the SPENT test on it (01:R2, R16, R17). -/
theorem runSecond_tb :
    s.runSecond.tb =
      { s.tb.runSecond s.clock.osc with
        siteClass := (s.tb.runSecond s.clock.osc).classOf
        state := if (s.tb.state = .holdover ∨ s.tb.state = .assisted) ∧ (s.tb.runSecond s.clock.osc).spentE then .spent
          else s.tb.state
        rev := s.runSecond.tb.rev } := by
  have refs (u : State) : (forAll (fun i t => t.updRef i RefEntry.runSecond) u).tb = u.tb :=
    forAll_keeps (P := fun t => t.tb = u.tb) (fun _ _ h => h) rfl
  unfold State.runSecond
  dsimp only
  rw [refs, deriveClass_spentTest_tb]
  rfl

@[simp] theorem stepNotices_tb (o : Int) : (s.stepNotices o).tb = s.tb :=
  (stepNotices_touches (ps := [.ports, .leases]) (by simp) (by simp) State.OnlyTouches.rfl').tb (by simp)

@[simp] theorem dropAllSchedules_tb : s.dropAllSchedules.tb = s.tb :=
  (dropAllSchedules_touches (ps := [.ports]) (by simp) State.OnlyTouches.rfl').tb (by simp)

@[simp] theorem replanOutputs_tb : s.replanOutputs.tb = s.tb :=
  (replanOutputs_touches (ps := [.outs]) (by simp) State.OnlyTouches.rfl').tb (by simp)

/-- Site time, frequency correction and runs after a sample: a step, or a slew with its corrections (01:R10 to R14). -/
theorem correct_tb (o : Int) :
    (s.correct o).tb = if s.steps o then s.tb.step o else ((s.tb.slew o).steer o).runs o := by
  unfold State.correct
  split
  · simp [State.applyStep]
  · rfl

/-- The record after a sample: corrected, with the E of the sample and the class of that E (01:R13). -/
theorem applySample_tb (i : RefIx) (o : Int) :
    (s.applySample i o).tb =
      { (s.correct o).tb with
        e := some (sampleE (s.ref i).declaredError o)
        siteClass := ({ (s.correct o).tb with e := some (sampleE (s.ref i).declaredError o) } : Timebase).classOf
        rev := (s.applySample i o).tb.rev } := by
  unfold State.applySample
  rw [deriveClass_tb]
  rfl

/-! #### Beside the record the laws are kept through a class change -/

namespace State.Beside

theorem setTb {b : Timebase} (h : s₀.Beside s) : s₀.Beside (s.setTb b) :=
  h.trans ⟨fun _ k => k, fun _ k => k, fun _ k => k⟩

theorem updTb {f : Timebase → Timebase} (h : s₀.Beside s) : s₀.Beside (s.updTb f) := h.setTb

end State.Beside

namespace State.Keeps

theorem leaseAtClass {before after : SiteClass} {l : LeaseIx} (h : s₀.Keeps s) :
    s₀.Keeps (State.leaseAtClass before after l s) := by
  unfold State.leaseAtClass
  repeat' split
  · exact h
  · exact h.putNotice.raiseLease
  · exact h.putNotice.clearAlarm
  all_goals exact h

theorem stepNotices {o : Int} (h : s₀.Keeps s) : s₀.Keeps (s.stepNotices o) :=
  h.forAll fun l t => by
    split
    · exact (refl t).putNotice
    · exact refl t

end State.Keeps

namespace State.Beside

theorem crossClass {x : SiteClass} (h : s₀.Beside s) : s₀.Beside (s.crossClass x) :=
  h.updTb.trans (((State.Keeps.refl _).forAll fun _ t => (State.Keeps.refl t).leaseAtClass).forAll fun _ t =>
    (State.Keeps.refl t).moveOutput).toBeside

theorem crossings {n : Nat} (h : s₀.Beside s) : s₀.Beside (s.crossings n) := by
  induction n generalizing s with
  | zero => exact h
  | succ n ih =>
    unfold State.crossings
    split
    · exact h
    · exact ih h.crossClass

theorem deriveClass (h : s₀.Beside s) : s₀.Beside s.deriveClass := h.crossings

theorem spentTest (h : s₀.Beside s) : s₀.Beside s.spentTest := by
  unfold State.spentTest
  split
  · exact h.updTb.trans (State.Keeps.refl _).clearAlarm.raise.toBeside
  · exact h

theorem correct {o : Int} (h : s₀.Beside s) : s₀.Beside (s.correct o) := by
  unfold State.correct
  split
  · exact h.updTb.trans (State.Keeps.refl _).stepNotices.dropAllSchedules.replanOutputs.raise.toBeside
  · exact h.updTb

end State.Beside

/-! #### The laws through the timebase's operations -/

namespace Timebase

variable {t : Timebase}

/-- The record at entry to FREE-RUN fits its row of the state table, whatever it held before (01:R21). -/
theorem freeRun_agrees {restore : Option RefIx} {rev : Rev} :
    ({ t with state := .freeRun, siteClass := .none, selected := none, assist := none, lockRun := 0, unlockRun := 0,
              h := none, e := none, restore := restore, rev := rev } : Timebase).Agrees :=
  ⟨rfl, nofun, rfl, rfl, rfl, rfl⟩

theorem freeRun_inRange {restore : Option RefIx} {rev : Rev} (h : t.InRange) :
    ({ t with state := .freeRun, siteClass := .none, selected := none, assist := none, lockRun := 0, unlockRun := 0,
              h := none, e := none, restore := restore, rev := rev } : Timebase).InRange := by
  obtain ⟨site, frac, run, last, next, low, high, -, -, locked, -⟩ := h
  exact ⟨site, frac, run, last, next, low, high, Nat.zero_le _, Nat.zero_le _, locked, nofun⟩

theorem sampleE_le (declared : Nat) (o : Int) : sampleE declared o ≤ Config.eMax := Nat.min_le_left _ _

theorem nextRunCounter_lt (r osc : Nat) : nextRunCounter r osc < Config.secMod := by
  unfold nextRunCounter
  split
  next h => exact h
  next => exact (Config.runCounterPastTop osc).isLt

theorem runSecond_inRange {osc : Nat} (h : t.InRange) : (t.runSecond osc).InRange := by
  obtain ⟨site, frac, -, last, next, low, high, lock, unlock, locked, hol⟩ := h
  refine ⟨site, frac, nextRunCounter_lt _ _, last, next, low, high, lock, unlock, ?_, ?_⟩
  · unfold runSecond; dsimp only; split
    · exact Nat.min_le_left _ _
    · exact locked
  · intro v hv
    unfold runSecond at hv; dsimp only at hv
    split at hv
    · obtain ⟨w, -, rfl⟩ := Option.map_eq_some_iff.mp hv
      exact Nat.min_le_left _ _
    · exact hol v hv

/-- E above threshold D stays above it as it grows: it is held at a top that it had not passed (01:R16, R17). -/
theorem spentE_runSecond {osc : Nat} (hold : t.state.inHoldover = true) (bound : ∀ e, t.e = some e → e ≤ Config.eMax)
    (h : t.spentE = true) : (t.runSecond osc).spentE = true := by
  unfold spentE at h ⊢
  cases he : t.e with
  | none => simp [he] at h
  | some v =>
    have le := bound v he
    simp only [he, decide_eq_true_eq] at h
    simp only [runSecond, hold, if_true, he, Option.map_some, decide_eq_true_eq]
    exact Nat.lt_of_lt_of_le h (Nat.le_min.mpr ⟨le, Nat.le_add_right _ _⟩)

theorem runSecond_e_le {osc : Nat} (bound : ∀ e, t.e = some e → e ≤ Config.eMax) {v : Nat} (h : (t.runSecond osc).e = some v) :
    v ≤ Config.eMax := by
  unfold runSecond at h; dsimp only at h
  split at h
  · obtain ⟨w, -, rfl⟩ := Option.map_eq_some_iff.mp h
    exact Nat.min_le_left _ _
  · exact bound v h

/-- The state table after a run second, given the record that `runSecond_tb` describes. -/
theorem runSecond_agrees {osc : Nat} {rev : Rev} (h : t.Agrees) :
    ({ t.runSecond osc with
      siteClass := (t.runSecond osc).classOf
      state := if (t.state = .holdover ∨ t.state = .assisted) ∧ (t.runSecond osc).spentE then .spent else t.state
      rev := rev } : Timebase).Agrees := by
  obtain ⟨-, bound, table⟩ := h
  refine ⟨rfl, fun v hv => runSecond_e_le (osc := osc) bound hv, ?_⟩
  cases st : t.state <;> rw [st] at table <;> dsimp only at table
  case freeRun =>
    obtain ⟨sel, he, hh, ha⟩ := table
    exact ⟨sel, by simp [runSecond, st, TbState.inHoldover, he], by simp [runSecond, st, TbState.inHoldover, hh], ha⟩
  case acquiring | locked =>
    obtain ⟨sel, hh, ha⟩ := table
    exact ⟨sel, by simp [runSecond, st, TbState.inHoldover, hh], ha⟩
  case spent =>
    obtain ⟨sel, hh, spent⟩ := table
    exact ⟨sel, by simpa [runSecond, st, TbState.inHoldover] using hh,
      spentE_runSecond (osc := osc) (by rw [st]; rfl) bound spent⟩
  case holdover =>
    obtain ⟨sel, he, hh, ha, -⟩ := table
    have grown : (t.runSecond osc).e.isSome := by simpa [runSecond, st, TbState.inHoldover] using he
    have counted : (t.runSecond osc).h.isSome := by simpa [runSecond, st, TbState.inHoldover] using hh
    cases spent : (t.runSecond osc).spentE
    · exact ⟨sel, grown, counted, ha, spent⟩
    · exact ⟨sel, counted, spent⟩
  case assisted =>
    obtain ⟨sel, he, hh, ha, -⟩ := table
    have grown : (t.runSecond osc).e.isSome := by simpa [runSecond, st, TbState.inHoldover] using he
    have counted : (t.runSecond osc).h.isSome := by simpa [runSecond, st, TbState.inHoldover] using hh
    cases spent : (t.runSecond osc).spentE
    · exact ⟨sel, grown, counted, ha, spent⟩
    · exact ⟨sel, counted, spent⟩

/-- A new E, class and revision leave the ranges alone. -/
theorem InRange.withE {e : Option Nat} {x : SiteClass} {rev : Rev} (h : t.InRange) :
    ({ t with e := e, siteClass := x, rev := rev } : Timebase).InRange := h

/-- A new class, state and revision leave the ranges alone. -/
theorem InRange.withState {st : TbState} {x : SiteClass} {rev : Rev} (h : t.InRange) :
    ({ t with siteClass := x, state := st, rev := rev } : Timebase).InRange := h

/-- With a reference selected a new E within its bound, with the class of that E, keeps the state table. -/
theorem Tracks.withE_agrees {e : Nat} {rev : Rev} (h : t.Tracks) (he : e ≤ Config.eMax) :
    ({ t with e := some e, siteClass := ({ t with e := some e } : Timebase).classOf, rev := rev } : Timebase).Agrees :=
  Tracks.agrees h rfl fun _ hv => Option.some.inj hv ▸ he

end Timebase

namespace State.Keeps

theorem clearStateAlarm {st : TbState} (h : s₀.Keeps s) : s₀.Keeps (s.clearStateAlarm st) := by
  unfold State.clearStateAlarm; split
  all_goals first | exact h.clearAlarm | exact h

theorem raiseSelection {i : Option RefIx} (h : s₀.Keeps s) : s₀.Keeps (s.raiseSelection i) := h.raise

theorem raiseHoldover {st : TbState} (h : s₀.Keeps s) : s₀.Keeps (s.raiseHoldover st) := by
  unfold State.raiseHoldover; split
  all_goals first | exact h.raise | exact h

theorem raiseFreeRun (h : s₀.Keeps s) : s₀.Keeps s.raiseFreeRun := by
  unfold State.raiseFreeRun; split
  · exact h.raise
  · exact h

theorem selectEntry {i : RefIx} (h : s₀.Keeps s) : s₀.Keeps (s.selectEntry i) :=
  (h.updTb (Timebase.acquire_agrees rfl) Timebase.acquire_inRange).raiseSelection.clearStateAlarm

theorem storeRestore (h : s₀.Keeps s) : s₀.Keeps s.storeRestore := h.updTb id id

theorem switchIfDue (h : s₀.Keeps s) : s₀.Keeps s.switchIfDue := by
  unfold State.switchIfDue
  repeat' split
  · exact h
  · exact h.selectEntry.storeRestore
  · exact h

theorem reworkRestore (h : s₀.Keeps s) : s₀.Keeps s.reworkRestore := h.storeRestore.switchIfDue

theorem enterHoldover (he : s.tb.e.isSome) (h : s₀.Keeps s) : s₀.Keeps s.enterHoldover :=
  (h.updTb (Timebase.holdover_agrees he) Timebase.holdover_inRange).raiseSelection.raiseHoldover

theorem enterFreeRun (h : s₀.Keeps s) : s₀.Keeps s.enterFreeRun := by
  have beside : s.Beside s.enterFreeRun :=
    (State.Beside.updTb (State.Beside.refl s)).trans (State.Keeps.refl _).raiseSelection.toBeside |>.deriveClass.trans
      (State.Keeps.refl _).raiseFreeRun.toBeside
  refine h.trans (of_beside beside ?_ ?_)
  · intro _
    rw [enterFreeRun_tb]
    exact Timebase.freeRun_agrees
  · intro hr
    rw [enterFreeRun_tb]
    exact Timebase.freeRun_inRange hr

theorem loseSelected {i : RefIx} (h : s₀.Keeps s) : s₀.Keeps (s.loseSelected i) := by
  have unforced := h.updTb (f := fun b => b.unforce i) Timebase.unforce_agrees Timebase.unforce_inRange
  unfold State.loseSelected; dsimp only
  split
  · exact unforced.selectEntry.reworkRestore
  · split
    next long =>
      simp only [Bool.and_eq_true] at long
      exact unforced.enterHoldover long.2
    next => exact unforced.enterFreeRun

theorem announceUsable {i : RefIx} (h : s₀.Keeps s) : s₀.Keeps (s.announceUsable i) := by
  unfold State.announceUsable; dsimp only
  refine reworkRestore ?_
  repeat' split
  · exact h.updTb Timebase.lineUsable_agrees Timebase.lineUsable_inRange
  · exact h
  · exact h.selectEntry
  · exact h

theorem announceLeft {i : RefIx} (h : s₀.Keeps s) : s₀.Keeps (s.announceLeft i) := by
  unfold State.announceLeft; dsimp only
  split
  · exact h.loseSelected
  · refine reworkRestore ?_
    split
    next assisting =>
      simp only [Bool.and_eq_true, decide_eq_true_eq] at assisting
      exact h.updTb (Timebase.assistLost_agrees (assisting.2 ▸ assisting.1)) Timebase.assistLost_inRange
    next => exact h

theorem applySample {i : RefIx} {o : Int} (hs : s.tb.selected.isSome) (h : s₀.Keeps s) : s₀.Keeps (s.applySample i o) := by
  have beside : s.Beside (s.applySample i o) := (State.Beside.refl s).correct.updTb.deriveClass
  refine h.trans (of_beside beside (fun ha => ?_) fun hr => ?_)
  · have tracks : (s.correct o).tb.Tracks := by
      rw [correct_tb]
      split
      · exact Timebase.step_tracks hs
      · exact Timebase.runs_tracks (Timebase.steer_tracks (Timebase.slew_tracks (ha.tracks hs)))
    rw [applySample_tb]
    exact tracks.withE_agrees (Timebase.sampleE_le _ _)
  · have range : (s.correct o).tb.InRange := by
      rw [correct_tb]
      split
      · exact Timebase.step_inRange hr
      · exact Timebase.runs_inRange (Timebase.steer_inRange (Timebase.slew_inRange hr))
    rw [applySample_tb]
    exact range.withE

theorem deliverSample (h : s₀.Keeps s) : s₀.Keeps s.deliverSample := by
  unfold State.deliverSample State.takeSample
  repeat' split
  · exact h
  next taken =>
    obtain ⟨sel, -⟩ := Bool.and_eq_true_iff.mp taken
    exact h.setWires.applySample (by rw [of_decide_eq_true sel]; rfl)
  · exact h.setWires

theorem deliverMeasurement (h : s₀.Keeps s) : s₀.Keeps s.deliverMeasurement := by
  unfold State.deliverMeasurement State.takeMeasurement
  repeat' split
  · exact h
  · exact h.setWires.updTb id Timebase.freqCorr_inRange
  · exact h.setWires

theorem runSecond (h : s₀.Keeps s) : s₀.Keeps s.runSecond := by
  have entries : s.Keeps (s.setClock { s.clock with nextRunAt := s.clock.nextRunAt + Config.secNs }) := (refl s).setClock
  have beside : s.Beside s.runSecond :=
    entries.toBeside.updTb.deriveClass.spentTest.trans (forAll (fun _ t => (refl t).updRef_values rfl rfl) (refl _)).toBeside
  refine h.trans (of_beside beside (fun ha => ?_) fun hr => ?_)
  · rw [runSecond_tb]
    exact Timebase.runSecond_agrees ha
  · rw [runSecond_tb]
    exact (Timebase.runSecond_inRange hr).withState

theorem runSecondIfDue (h : s₀.Keeps s) : s₀.Keeps s.runSecondIfDue := by
  unfold State.runSecondIfDue; split
  · exact h.runSecond
  · exact h

theorem elapse {dt : Nat} (h : s₀.Keeps s) : s₀.Keeps (s.elapse dt) :=
  h.trans (of_beside ⟨fun _ k => k, fun _ k => k, fun _ k => k⟩ id Timebase.elapse_inRange)

end State.Keeps
end Sys2Proof.Machine

/-! ### The reference unit keeps the laws (02) -/
namespace Sys2Proof.Machine
open Sys2Proof

namespace RefEntry

variable {e : RefEntry}

theorem LockoutFits.of_low (low : e.faultScore < 4) (st : e.state ≠ .lockedOut) : e.LockoutFits :=
  ⟨Nat.le_of_lt low, fun k => absurd k st, fun k => absurd k (Nat.ne_of_lt low)⟩

/-- A live entry's fault score is below 4: score 4 is LOCKED-OUT's and DISABLED's (02:R39). -/
theorem LockoutFits.low_of_live (h : e.LockoutFits) (hl : e.live = true) : e.faultScore < 4 := by
  obtain ⟨bound, -, locked⟩ := h
  refine Nat.lt_of_le_of_ne bound fun full => ?_
  rcases locked full with st | st <;> simp [live, st] at hl

theorem toQualifying_fits {osc : Nat} {missing : Option Nat} (low : e.faultScore < 4) :
    (e.toQualifying osc missing).LockoutFits := .of_low low (by simp [toQualifying])

theorem lockedOut_fits {r : Rev} {since : Option Nat} (h : e.faultScore ≤ 4) (high : ¬ e.faultScore < 4) :
    ({ e with state := .lockedOut, rev := r, listenSince := since } : RefEntry).LockoutFits :=
  ⟨h, fun _ => Nat.le_antisymm h (Nat.not_lt.mp high), fun _ => .inl rfl⟩

theorem faulted_fits {cause : FaultCause} (low : e.faultScore < 4) : (e.faulted cause).LockoutFits := by
  unfold LockoutFits faulted Config.lockoutScore
  dsimp only
  split
  next below => exact ⟨Nat.le_of_lt below, nofun, fun k => absurd k (Nat.ne_of_lt below)⟩
  next top => exact ⟨low, fun _ => by omega, fun _ => .inl rfl⟩

theorem toUsable_fits {run : Nat} (h : e.LockoutFits) (live : e.live = true) : (e.toUsable run).LockoutFits :=
  .of_low (h.low_of_live live) (by simp [toUsable])

theorem disabled_fits (h : e.LockoutFits) : e.disabled.LockoutFits := ⟨h.1, nofun, fun _ => .inr rfl⟩

theorem decayed_fits {n : Nat} (h : e.LockoutFits) (live : e.live = true) : (e.decayed n).LockoutFits := by
  have low := h.low_of_live live
  exact .of_low (Nat.lt_of_le_of_lt (Nat.sub_le _ _) low) (by rintro st; simp [decayed] at st; simp [RefEntry.live, st] at live)

end RefEntry

/-- What the receiver of entry `i` brings when a character has made it `r`: the second half of `State.labelChar` (02:R28). -/
def State.labelHeard (s : State) (i : RefIx) (r : LabelReceiver) : State :=
  match r.whole with
  | none => s.setReceiver i r
  | some f => (s.setReceiver i { r with frame := none }).labelEnds i f

theorem labelChar_eq (s : State) (i : RefIx) (n : Nat) (c : LabelChar) :
    s.labelChar i n c = s.labelHeard i ((s.ref i).receiver.take c n) := rfl

namespace State.Keeps

variable {s₀ s : State}

theorem raiseRef {k : AlarmKind} {i : RefIx} (h : s₀.Keeps s) : s₀.Keeps (s.raiseRef k i) := h.raise

theorem startInputs {i : RefIx} (h : s₀.Keeps s) : s₀.Keeps (s.startInputs i) := by
  unfold State.startInputs; split
  next low => exact h.updRef fun _ => RefEntry.toQualifying_fits low
  next high => exact (h.updRef fun fits => RefEntry.lockedOut_fits fits.1 high).raiseRef

theorem leaveService {l : LeaseIx} (h : s₀.Keeps s) : s₀.Keeps (s.leaveService l) := h.clearAlarm.stopMarks

theorem suspendCore {l : LeaseIx} {cause : SuspendCause} (h : s₀.Keeps s) : s₀.Keeps (s.suspendCore l cause) := by
  unfold State.suspendCore; dsimp only; split
  · exact h.moveLease.leaveService.abandonBatch.dropInjection.putNotice.raiseLease
  · exact h.moveLease.abandonBatch.dropInjection.putNotice.raiseLease

theorem chooseFor {l : LeaseIx} (h : s₀.Keeps s) : s₀.Keeps (s.chooseFor l) := by
  unfold State.chooseFor; split
  · exact h
  · exact h.choose

/-! #### Faults (02:R38, R39) -/

theorem raiseFault {i : RefIx} (h : s₀.Keeps s) : s₀.Keeps (s.raiseFault i) := by
  unfold State.raiseFault; split
  · exact h.raiseRef.clearAlarm
  · exact h.raiseRef

theorem lockoutReport {i : RefIx} (h : s₀.Keeps s) : s₀.Keeps (s.lockoutReport i) := by
  unfold State.lockoutReport; split
  · exact h
  · exact h.suspendCore

theorem lockoutChoice {before : State} {i : RefIx} (h : s₀.Keeps s) : s₀.Keeps (s.lockoutChoice before i) := by
  unfold State.lockoutChoice; repeat' split
  · exact h
  · exact h.chooseFor
  · exact h

theorem faultRef {i : RefIx} {cause : FaultCause} (h : s₀.Keeps s) : s₀.Keeps (s.faultRef i cause) := by
  unfold State.faultRef; split
  next live =>
    have faulted := h.updRef (i := i) (f := fun e => e.faulted cause) fun fits =>
      RefEntry.faulted_fits (fits.low_of_live live)
    dsimp only; split
    · exact faulted.lockoutReport.raiseFault.announceLeft.lockoutChoice
    · exact faulted.lockoutReport.raiseFault.lockoutChoice
  next => exact h

/-! #### Good samples (02:R36, R37) -/

theorem becomeUsable {i : RefIx} (live : (s.ref i).live = true) (h : s₀.Keeps s) : s₀.Keeps (s.becomeUsable i) :=
  (h.updRef fun fits => RefEntry.toUsable_fits fits live).announceUsable

theorem qualify {i : RefIx} {w : Bool} (h : s₀.Keeps s) : s₀.Keeps (s.qualify i w) := by
  unfold State.qualify; dsimp only; split
  next st =>
    split_ifs
    · exact h.updRef_values rfl rfl
    · exact h.updRef_values rfl rfl
    · exact h.updRef_values rfl rfl
    · exact h.becomeUsable (by simp [RefEntry.live, st])
  next => exact h

theorem offerSample {i : RefIx} {o : Int} {m : BitVec 8} (h : s₀.Keeps s) : s₀.Keeps (s.offerSample i o m) := by
  unfold State.offerSample; split
  · exact h.setWires
  · exact h

theorem goodOffset {i : RefIx} {o : Int} {m : BitVec 8} (h : s₀.Keeps s) : s₀.Keeps (s.goodOffset i o m) :=
  (h.updRef_values rfl rfl).offerSample.qualify

/-! #### Pulse entries and labels (02:R28 to R31) -/

theorem edgeUnlabelled {i : RefIx} (h : s₀.Keeps s) : s₀.Keeps (s.edgeUnlabelled i) := by
  have counted := h.updRef_values (i := i) (f := fun e => { e with labelLess := e.labelLess + 1 }) rfl rfl
  unfold State.edgeUnlabelled; dsimp only; split
  · exact counted
  · exact counted.faultRef

theorem edgeLabelled {i : RefIx} {b : Label} (h : s₀.Keeps s) : s₀.Keeps (s.edgeLabelled i b) := by
  have counted := h.updRef_values (i := i) (f := fun e => { e with labelLess := 0 }) rfl rfl
  unfold State.edgeLabelled; dsimp only; split
  · exact counted.faultRef
  · exact counted.goodOffset

theorem edgeTaken {i : RefIx} (h : s₀.Keeps s) : s₀.Keeps (s.edgeTaken i) := by
  have accepted := h.updRef_values (i := i) (f := fun e => e.acceptEdge s.clock.osc) rfl rfl
  unfold State.edgeTaken
  cases (s.ref i).prevEdge <;> cases (s.ref i).pendingLabel <;> dsimp only
  case none.none => exact accepted.edgeUnlabelled
  case none.some => exact accepted
  case some.none =>
    split
    · exact h.faultRef
    · exact accepted.edgeUnlabelled
  case some.some =>
    split
    · exact h.faultRef
    · exact accepted.edgeLabelled

theorem pulseEdge {i : RefIx} {edge : Edge} (h : s₀.Keeps s) : s₀.Keeps (s.pulseEdge i edge) := by
  unfold State.pulseEdge; dsimp only; split_ifs
  · exact h.faultRef
  · exact h.edgeTaken
  · exact h

theorem takeLabel {i : RefIx} {valid : Bool} {n : BitVec 48} (h : s₀.Keeps s) : s₀.Keeps (s.takeLabel i valid n) := by
  unfold State.takeLabel; split_ifs
  · exact h.updRef_values rfl rfl
  · exact h.faultRef
  · exact h

theorem labelEnds {i : RefIx} {f : LabelRun} (h : s₀.Keeps s) : s₀.Keeps (s.labelEnds i f) := by
  unfold State.labelEnds; repeat' split
  · exact h
  · exact h.takeLabel
  · exact h

theorem setReceiver {i : RefIx} {r : LabelReceiver} (h : s₀.Keeps s) : s₀.Keeps (s.setReceiver i r) :=
  h.updRef_values rfl rfl

theorem labelHeard {i : RefIx} {r : LabelReceiver} (h : s₀.Keeps s) : s₀.Keeps (s.labelHeard i r) := by
  unfold State.labelHeard; split
  · exact h.setReceiver
  · exact h.setReceiver.labelEnds

theorem labelChar {i : RefIx} {n : Nat} {c : LabelChar} (h : s₀.Keeps s) : s₀.Keeps (s.labelChar i n c) := by
  rw [labelChar_eq]
  exact h.labelHeard

theorem labelRest {i : RefIx} {n : Nat} {cs : List LineChar} (h : s₀.Keeps s) : s₀.Keeps (s.labelRest i n cs) := by
  induction cs generalizing s n with
  | nil => exact h
  | cons c cs ih => exact ih h.labelChar

theorem labelFrame {i : RefIx} {c : LabelChar} {cs : List LineChar} (h : s₀.Keeps s) : s₀.Keeps (s.labelFrame i c cs) :=
  h.labelChar.labelRest

/-! #### LINE and PEER entries (02:R32 to R34, R45 to R47) -/

theorem offerMeasurement {l : LineInput} {f : Int} (h : s₀.Keeps s) : s₀.Keeps (s.offerMeasurement l f) := by
  unfold State.offerMeasurement; split
  · exact h.setWires
  · exact h

theorem measuredFreq {l : LineInput} {f : Int} (h : s₀.Keeps s) : s₀.Keeps (s.measuredFreq l f) := by
  have stored := h.updRef_values (i := l.entry)
    (f := fun e => { e with lastFreq := some (clampInt Config.lastFreqMax f) }) rfl rfl
  unfold State.measuredFreq; dsimp only; split
  · exact stored.faultRef
  · exact stored.offerMeasurement.qualify

theorem pulseTaken {l : LineInput} (h : s₀.Keeps s) : s₀.Keeps (s.pulseTaken l) := by
  unfold State.pulseTaken; dsimp only; repeat' split
  · exact h.updRef_values rfl rfl
  · exact h.updRef_values rfl rfl
  · exact h.updRef_values rfl rfl
  · exact (h.updRef_values rfl rfl).measuredFreq

theorem linePulse {l : LineInput} (h : s₀.Keeps s) : s₀.Keeps (s.linePulse l) := by
  unfold State.linePulse; dsimp only; split_ifs
  · exact h.faultRef
  · exact h.pulseTaken
  · exact h

theorem peerTaken {i : RefIx} {b : PeerMarkBody} {r : SymbolRecord} (h : s₀.Keeps s) : s₀.Keeps (s.peerTaken i b r) := by
  have restarted := h.updRef_values (i := i) (f := fun e => { e with missingSince := some s.clock.osc }) rfl rfl
  unfold State.peerTaken; dsimp only; split_ifs
  · exact restarted.faultRef
  · exact restarted.faultRef
  · exact restarted.goodOffset

theorem peerMarked {i : RefIx} {b : PeerMarkBody} {r : Option SymbolRecord} (h : s₀.Keeps s) :
    s₀.Keeps (s.peerMarked i b r) := by
  unfold State.peerMarked; dsimp only; repeat' split
  · exact h.faultRef
  · exact h
  · exact h.peerTaken
  · exact h

theorem sourceLost {f : Offer} (h : s₀.Keeps s) : s₀.Keeps (s.sourceLost f) := by
  unfold State.sourceLost; split
  · exact h
  · exact h.faultRef

theorem firstSymbol {f : Offer} (h : s₀.Keeps s) : s₀.Keeps (s.firstSymbol f) := by
  unfold State.firstSymbol; repeat' split
  · exact h
  · exact h.updRef_values rfl rfl
  · exact h

theorem bindPeer {p : Peer} {l : LeaseIx} (h : s₀.Keeps s) : s₀.Keeps (s.bindPeer p l) :=
  (h.updRef_values rfl rfl).startInputs

theorem disableRef {i : RefIx} (h : s₀.Keeps s) : s₀.Keeps (s.disableRef i) :=
  (h.updRef RefEntry.disabled_fits).clearAlarm.clearAlarm

theorem unbindPeer {p : Peer} (h : s₀.Keeps s) : s₀.Keeps (s.unbindPeer p) := (h.updRef_values rfl rfl).disableRef

/-! #### Timers and the consistency check (02:R40, R41, R44) -/

theorem missingExpires {i : RefIx} (h : s₀.Keeps s) : s₀.Keeps (s.missingExpires i) := by
  unfold State.missingExpires; split
  · exact h.faultRef
  · exact h

theorem holdOffExpires {i : RefIx} (h : s₀.Keeps s) : s₀.Keeps (s.holdOffExpires i) := by
  unfold State.holdOffExpires; dsimp only; split
  · exact h.startInputs.clearAlarm
  · exact h

theorem scoreDecays {i : RefIx} (h : s₀.Keeps s) : s₀.Keeps (s.scoreDecays i) := by
  unfold State.scoreDecays; split
  next usable _ =>
    split
    · exact h.updRef fun fits => RefEntry.decayed_fits fits (by simp [RefEntry.live, usable])
    · exact h
  next => exact h

theorem faultDeviants {ds : List (RefIx × Int)} (h : s₀.Keeps s) :
    s₀.Keeps (ds.foldl (fun t d => t.faultRef d.1 .wander) s) := by
  induction ds generalizing s with
  | nil => exact h
  | cons d ds ih => exact ih h.faultRef

theorem checkConsistency (h : s₀.Keeps s) : s₀.Keeps s.checkConsistency := by
  unfold State.checkConsistency; repeat' split
  · exact h.faultRef
  · exact h.faultDeviants
  all_goals exact h

end State.Keeps
end Sys2Proof.Machine

/-! ### The lease controller and the scanners keep the laws (05 to 07) -/
namespace Sys2Proof.Machine
open Sys2Proof

namespace State.Keeps

variable {s₀ s : State}

theorem suspendFully {l : LeaseIx} {cause : SuspendCause} (h : s₀.Keeps s) : s₀.Keeps (s.suspendFully l cause) := by
  unfold State.suspendFully; dsimp only; repeat' split
  · exact h
  · exact h.suspendCore.sourceLost
  · exact h.suspendCore

theorem suspendMarked {l : LeaseIx} {cause : SuspendCause} {before : Rev} (h : s₀.Keeps s) :
    s₀.Keeps (s.suspendMarked l cause before) := h.suspendFully.updLease

theorem suspend {l : LeaseIx} {cause : SuspendCause} (h : s₀.Keeps s) : s₀.Keeps (s.suspend l cause) := by
  unfold State.suspend; dsimp only; split
  · exact h.suspendFully.chooseFor
  · exact h.suspendFully

theorem resumeLease {l : LeaseIx} (h : s₀.Keeps s) : s₀.Keeps (s.resumeLease l) := h.moveLease.clearAlarm

/-! #### Retirement (07:R132, R133) -/

theorem clearLeaseAlarms {l : LeaseIx} (h : s₀.Keeps s) : s₀.Keeps (s.clearLeaseAlarms l) :=
  h.clearAlarm.clearAlarm.clearAlarm.clearAlarm.clearAlarm

theorem freeLease {l : LeaseIx} {p : PortIx} (h : s₀.Keeps s) : s₀.Keeps (s.freeLease l p) :=
  (h.setLeaseSlot.updPort_values rfl rfl id).clearAlarm

theorem offerSome {p : PortIx} {f : Option Frame} (h : s₀.Keeps s) : s₀.Keeps (s.offerSome p f) := by
  unfold State.offerSome; split
  · exact h
  · exact h.offer

theorem raiseSome {r : Option Raise} (h : s₀.Keeps s) : s₀.Keeps (s.raiseSome r) := by
  unfold State.raiseSome; split
  · exact h
  · exact h.raise

theorem unbindOffer {f : Offer} (h : s₀.Keeps s) : s₀.Keeps (s.unbindOffer f) := by
  unfold State.unbindOffer; split
  · exact h.unbindPeer
  all_goals exact h

theorem announceOffer {f : Offer} (h : s₀.Keeps s) : s₀.Keeps (s.announceOffer f) := by
  unfold State.announceOffer; split
  · exact h
  · exact h.announceLeft

theorem retireQuiet {l : LeaseIx} {f : Option Frame} (h : s₀.Keeps s) : s₀.Keeps (s.retireQuiet l f) := by
  unfold State.retireQuiet; dsimp only; split
  · exact h
  · exact h.stopAllFrames.abandonBatch.dropInjection.unbindOffer.clearLeaseAlarms.offerSome.freeLease

theorem retireLoss {before : State} {l : LeaseIx} (h : s₀.Keeps s) : s₀.Keeps (s.retireLoss before l) := by
  unfold State.retireLoss; repeat' split
  · exact h
  · exact h.announceOffer
  · exact h

theorem retire {l : LeaseIx} {f : Option Frame} {m : Option Raise} (h : s₀.Keeps s) : s₀.Keeps (s.retire l f m) := by
  unfold State.retire; dsimp only; repeat' split
  · exact h
  · exact h.retireQuiet.retireLoss.raiseSome.choose
  · exact h.retireQuiet.retireLoss.raiseSome

theorem retireNotice {l : LeaseIx} {v : Int} {m : Option Raise} (h : s₀.Keeps s) : s₀.Keeps (s.retireNotice l v m) :=
  h.retire

theorem retireRefuse {l : LeaseIx} {reason : RefuseReason} {m : Option Raise} (h : s₀.Keeps s) :
    s₀.Keeps (s.retireRefuse l reason m) := by
  unfold State.retireRefuse; split
  · exact h
  · exact h.retire

theorem portLosses {before : State} {p : PortIx} (h : s₀.Keeps s) : s₀.Keeps (s.portLosses before p) :=
  h.forAll fun _ t => by
    split
    · exact (refl t).retireLoss
    · exact refl t

theorem retirePort {p : PortIx} (h : s₀.Keeps s) : s₀.Keeps (s.retirePort p) :=
  (h.forAll fun _ t => by
    split
    · exact (refl t).retireQuiet
    · exact refl t).portLosses

/-! #### Outcomes of a batch (06:R106 to R113) -/

theorem endBatch {p : PortIx} (h : s₀.Keeps s) : s₀.Keeps (s.endBatch p) := h.updScanner

theorem takeStanding {l : LeaseIx} (h : s₀.Keeps s) : s₀.Keeps (s.takeStanding l) := by
  unfold State.takeStanding; repeat' split
  · exact h
  · exact h
  · exact h.putNotice.raiseLease

theorem enterService {l : LeaseIx} {n : Nat} (h : s₀.Keeps s) : s₀.Keeps (s.enterService l n) :=
  h.moveLease.clearAlarm.takeStanding

theorem refine {l : LeaseIx} {x : Lease} {n : Nat} (h : s₀.Keeps s) : s₀.Keeps (s.refine l x n) := h.setLeaseSlot

theorem delayJump {l : LeaseIx} {x : Lease} (h : s₀.Keeps s) : s₀.Keeps (s.delayJump l x) :=
  h.moveLease.leaveService.raiseLease.sourceLost

theorem goodBatch {l : LeaseIx} {n : Nat} (h : s₀.Keeps s) : s₀.Keeps (s.goodBatch l n) := by
  unfold State.goodBatch; repeat' split
  · exact h
  · exact h.refine
  · exact h.delayJump
  · exact h.enterService

theorem rejectBatch {p : PortIx} {b : Batch} (h : s₀.Keeps s) : s₀.Keeps (s.rejectBatch p b) := by
  unfold State.rejectBatch; dsimp only; repeat' split
  · exact h
  · exact h.moveLease.startBatch
  · exact h.moveLease.endBatch.suspendMarked.choose

theorem judge {p : PortIx} {b : Batch} (h : s₀.Keeps s) : s₀.Keeps (s.judge p b) := by
  unfold State.judge; dsimp only; split
  · exact h.endBatch.goodBatch.choose
  · exact h.rejectBatch

theorem nextEcho {p : PortIx} {b : Batch} (h : s₀.Keeps s) : s₀.Keeps (s.nextEcho p b) := h.updScanner.sendEcho

theorem takeEchoSample {p : PortIx} {b : Batch} {v : Int} (h : s₀.Keeps s) : s₀.Keeps (s.takeEchoSample p b v) := by
  unfold State.takeEchoSample; dsimp only; split
  · exact h.nextEcho
  · exact h.judge

theorem takeEchoBack {p : PortIx} {b : Batch} {t₁ : SiteNs} {mark : BitVec 8} {c : Capture} (h : s₀.Keeps s) :
    s₀.Keeps (s.takeEchoBack p b t₁ mark c) := by
  unfold State.takeEchoBack; repeat' split
  · exact h
  · exact h.takeEchoSample
  · exact h.nextEcho

theorem echoTimeout {p : PortIx} {b : Batch} (h : s₀.Keeps s) : s₀.Keeps (s.echoTimeout p b) := by
  unfold State.echoTimeout; split
  · exact h.nextEcho
  · exact h.endBatch.suspendMarked.choose

theorem echoTimerExpires {p : PortIx} (h : s₀.Keeps s) : s₀.Keeps (s.echoTimerExpires p) := by
  unfold State.echoTimerExpires; repeat' split
  · exact h
  · exact h.echoTimeout
  · exact h

theorem echoBack {p : PortIx} {l : LeaseIx} {n : Nat} {c : Capture} (h : s₀.Keeps s) : s₀.Keeps (s.echoBack p l n c) := by
  unfold State.echoBack; repeat' split
  · exact h
  · exact h.echoTimeout
  · exact h.takeEchoBack
  all_goals exact h

theorem echoDeparted {p : PortIx} {l : LeaseIx} {n : BitVec 2} {c : Capture} (h : s₀.Keeps s) :
    s₀.Keeps (s.echoDeparted p l n c) := by
  unfold State.echoDeparted; repeat' split
  · exact h
  · exact h.updScanner
  · exact h

theorem routineFallsDue {p : PortIx} (h : s₀.Keeps s) : s₀.Keeps (s.routineFallsDue p) := by
  unfold State.routineFallsDue; split
  · exact h.choose
  · exact h

/-! #### Credit and joining (05; 07:R123) -/

theorem spendCredit {l : LeaseIx} (h : s₀.Keeps s) : s₀.Keeps (s.spendCredit l) := by
  unfold State.spendCredit; dsimp only; repeat' split
  · exact h
  · exact h.updLease.retireNotice
  · exact h.updLease.putNotice
  · exact h.updLease
  · exact h

theorem refuseJoin {p : PortIx} {tag : Tag} {reason : RefuseReason} (h : s₀.Keeps s) : s₀.Keeps (s.refuseJoin p tag reason) :=
  h.offer.raise

theorem refuseDuplicate {p : PortIx} {tag : Tag} (h : s₀.Keeps s) : s₀.Keeps (s.refuseDuplicate p tag) := h.offer.raise

theorem rejoinBack {l : LeaseIx} {x : Lease} {body : JoinBody} {wanted : Grade} (h : s₀.Keeps s) :
    s₀.Keeps (s.rejoinBack l x body wanted) := by
  have moved := (h.moveLease (l := l) (f := fun _ => x.rejoined body (s.rejoinClass x wanted))).clearAlarm
    (k := .delayJump) (n := l.val)
  unfold State.rejoinBack
  cases x.state <;> simp only [reduceCtorEq, if_true, if_false]
  case pending | measuring => exact moved.abandonBatch.offer.choose
  case inService => exact moved.leaveService.abandonBatch.offer.sourceLost.choose
  case suspended => exact moved.clearAlarm.abandonBatch.offer.choose

theorem rejoin {l : LeaseIx} {x : Lease} {body : JoinBody} {wanted : Grade} (h : s₀.Keeps s) :
    s₀.Keeps (s.rejoin l x body wanted) := by
  unfold State.rejoin; split
  · exact h.offer
  · exact h.refuseJoin
  · exact h.rejoinBack

theorem bindOffer {l : LeaseIx} {f : Offer} (h : s₀.Keeps s) : s₀.Keeps (s.bindOffer l f) := by
  unfold State.bindOffer; split
  · exact h.bindPeer
  all_goals exact h

theorem answerCreated {l : LeaseIx} {x : Lease} (h : s₀.Keeps s) : s₀.Keeps (s.answerCreated l x) := by
  unfold State.answerCreated; split
  · exact h.offer.raiseLease
  all_goals exact h.offer.choose

theorem createLease {l : LeaseIx} {x : Lease} (h : s₀.Keeps s) : s₀.Keeps (s.createLease l x) :=
  (h.setAlarm.setLeaseSlot.updPort_values rfl rfl id).bindOffer.answerCreated

theorem joinAdmitted {p : PortIx} {body : JoinBody} {wanted : Grade} {i : AdmIx} {x : Admission} (h : s₀.Keeps s) :
    s₀.Keeps (s.joinAdmitted p body wanted i x) := by
  unfold State.joinAdmitted; repeat' split
  · exact h.refuseJoin.raise
  · exact h.refuseJoin
  · exact h
  · exact h.createLease

theorem joinNew {p : PortIx} {body : JoinBody} {wanted : Grade} (h : s₀.Keeps s) : s₀.Keeps (s.joinNew p body wanted) := by
  unfold State.joinNew; repeat' split
  · exact h.refuseJoin
  · exact h.refuseJoin
  · exact h.refuseJoin
  · exact h.joinAdmitted

theorem takeJoin {p : PortIx} {body : JoinBody} {wanted : Grade} (h : s₀.Keeps s) : s₀.Keeps (s.takeJoin p body wanted) := by
  unfold State.takeJoin; repeat' split
  · exact h.joinNew
  · exact h.joinNew
  · exact h.rejoin
  · exact h.refuseDuplicate

theorem joinReceived {p : PortIx} {body : JoinBody} (h : s₀.Keeps s) : s₀.Keeps (s.joinReceived p body) := by
  unfold State.joinReceived; repeat' split
  · exact h
  · exact h.takeJoin
  · exact h

theorem deadlineExpires {l : LeaseIx} (h : s₀.Keeps s) : s₀.Keeps (s.deadlineExpires l) := by
  unfold State.deadlineExpires; repeat' split
  · exact h
  · exact h.retireRefuse
  all_goals exact h

/-! #### Frames and departure reports (04:R68 to R70) -/

theorem forAddressed {p : PortIx} {id : Byte} {f : LeaseIx → State → State} (hf : ∀ l, s₀.Keeps (f l s)) (h : s₀.Keeps s) :
    s₀.Keeps (s.forAddressed p id f) := by
  unfold State.forAddressed; split
  · exact h
  · exact hf _

theorem reportAlarm {l : LeaseIx} {x : Lease} (h : s₀.Keeps s) : s₀.Keeps (s.reportAlarm l x) := by
  unfold State.reportAlarm; split
  · exact h.clearAlarm
  · exact h.raise

theorem takeReport {b : ReportBody} {l : LeaseIx} (h : s₀.Keeps s) : s₀.Keeps (s.takeReport b l) := by
  unfold State.takeReport; repeat' split
  · exact h
  · exact h
  · exact h.moveLease.reportAlarm

theorem takePeerMark {b : PeerMarkBody} {l : LeaseIx} (h : s₀.Keeps s) : s₀.Keeps (s.takePeerMark b l) := by
  unfold State.takePeerMark; repeat' split
  · exact h
  · exact h
  · exact h.peerMarked

theorem takeDeparture {p : PortIx} {d : DepartureReport} (h : s₀.Keeps s) : s₀.Keeps (s.takeDeparture p d) := by
  have taken := h.updPort_values (p := p) (f := fun r => { r with reports := r.reports.erase d }) rfl rfl id
  cases d with
  | mark => exact taken.spendCredit
  | echo => exact taken.echoDeparted

theorem deliverReport {p : PortIx} {m : Bool} (h : s₀.Keeps s) : s₀.Keeps (s.deliverReport p m) := by
  unfold State.deliverReport; split
  · exact h
  · exact h.takeDeparture

end State.Keeps
end Sys2Proof.Machine

/-! ### The ports and their lanes keep the laws (04) -/
namespace Sys2Proof.Machine
open Sys2Proof

namespace Port.LockFits

variable {r : Port} {x : LaneReceiver}

/-- A port moves to a state that its lock allows (04:R76 to R81). -/
theorem moveTo {st : PortState} (ho : st = .opened → r.linkUp = true) (hd : st = .down → r.linkUp = false)
    (h : r.LockFits x) : (r.moveTo st).LockFits x := ⟨ho, hd, h.2.2⟩

/-- Lock gained by a port that is not DOWN (04:R77). -/
theorem gained (up : r.state ≠ .down) : (r.setLink true).LockFits .idle :=
  ⟨fun _ => rfl, fun k => absurd k up, nofun, fun _ => by decide⟩

/-- Lock gained by a port that goes OPEN with it (04:R77). -/
theorem gained_opened : ((r.setLink true).moveTo .opened).LockFits .idle := ⟨fun _ => rfl, nofun, nofun, fun _ => by decide⟩

/-- Lock lost by a port that is not OPEN (04:R77). -/
theorem lost (shut : r.state ≠ .opened) : (r.setLink false).LockFits .idle :=
  ⟨fun k => absurd k shut, fun _ => rfl, fun _ => by decide, nofun⟩

/-- Lock lost by a port that goes DOWN with it (04:R78). -/
theorem lost_down : ((r.setLink false).moveTo .down).LockFits .idle := ⟨nofun, fun _ => rfl, fun _ => by decide, nofun⟩

/-- A receiver without lock that has counted below 1024 (04:R67). -/
theorem seeking {y : LaneReceiver} (down : r.linkUp = false) (count : y.run < 1024) (closed : y.frame = none)
    (h : r.LockFits x) : r.LockFits y := by
  obtain ⟨opened, shut, -, -⟩ := h
  exact ⟨opened, shut, fun _ => ⟨count, closed⟩, fun up => by simp [down] at up⟩

/-- A receiver with lock that has counted below 16 (04:R67). -/
theorem hearing {y : LaneReceiver} (up : r.linkUp = true) (count : y.run < 16) (h : r.LockFits x) : r.LockFits y := by
  obtain ⟨opened, shut, -, -⟩ := h
  exact ⟨opened, shut, fun down => by simp [up] at down, fun _ => count⟩

end Port.LockFits

/-- A port moved at once with a change of it. -/
theorem updPort_movePort (s : State) (p : PortIx) (f : Port → Port) (st : PortState) :
    (s.updPort p f).movePort p st = s.setPort p ((f (s.port p)).moveTo st) := by
  unfold State.movePort State.updPort
  simp only [setPort_port_if, if_true]
  simp only [State.setPort, Vector.set_set]

namespace State.Keeps

variable {s₀ s : State}

theorem movePort {p : PortIx} {st : PortState} (ho : st = .opened → (s.port p).linkUp = true)
    (hd : st = .down → (s.port p).linkUp = false) (h : s₀.Keeps s) : s₀.Keeps (s.movePort p st) :=
  h.setPort id fun fits => fits.moveTo ho hd

theorem moveOpened {p : PortIx} (up : (s.port p).linkUp = true) (h : s₀.Keeps s) : s₀.Keeps (s.movePort p .opened) :=
  h.movePort (fun _ => up) (fun k => nomatch k)

theorem moveDown {p : PortIx} (down : ¬ (s.port p).linkUp = true) (h : s₀.Keeps s) : s₀.Keeps (s.movePort p .down) :=
  h.movePort (fun k => nomatch k) fun _ => Bool.eq_false_iff.mpr down

theorem moveConflict {p : PortIx} (h : s₀.Keeps s) : s₀.Keeps (s.movePort p .conflict) :=
  h.movePort (fun k => nomatch k) (fun k => nomatch k)

theorem moveClosed {p : PortIx} (h : s₀.Keeps s) : s₀.Keeps (s.movePort p .closed) :=
  h.movePort (fun k => nomatch k) (fun k => nomatch k)

theorem raisePort {p : PortIx} {k : AlarmKind} (h : s₀.Keeps s) : s₀.Keeps (s.raisePort p k) := h.raise

theorem silencePort {p : PortIx} (h : s₀.Keeps s) : s₀.Keeps (s.silencePort p) :=
  (h.updPort_values rfl rfl fun _ => Nat.zero_le _).stopScanner

theorem openPort {p : PortIx} (h : s₀.Keeps s) : s₀.Keeps (s.openPort p) := by
  unfold State.openPort; split
  next up => exact h.moveOpened up
  next down => exact (h.moveDown down).raisePort

theorem openAllPorts (h : s₀.Keeps s) : s₀.Keeps s.openAllPorts := h.forAll fun _ t => (refl t).openPort.choose

/-! #### Conflict, reopening and closing (04:R79 to R81) -/

theorem conflictLease {l : LeaseIx} {x : Lease} (h : s₀.Keeps s) : s₀.Keeps (s.conflictLease l x) := by
  unfold State.conflictLease; split
  · exact h.retireRefuse
  · exact h.suspendMarked
  · exact h.suspendMarked
  · exact h.moveLease.raiseLease

theorem clearPending {p : PortIx} (h : s₀.Keeps s) : s₀.Keeps (s.clearPending p) :=
  h.forAll fun _ t => by
    repeat' split
    · exact refl t
    · exact (refl t).clearLeaseAlarms
    · exact refl t

theorem conflictLeases {p : PortIx} (h : s₀.Keeps s) : s₀.Keeps (s.conflictLeases p) :=
  h.clearPending.forAll fun _ t => by
    repeat' split
    · exact refl t
    · exact (refl t).conflictLease
    · exact refl t

theorem hubFrame {p : PortIx} (h : s₀.Keeps s) : s₀.Keeps (s.hubFrame p) := by
  unfold State.hubFrame; split
  · exact h.moveConflict.silencePort.conflictLeases.raisePort
  · exact h

theorem resumeLeases {p : PortIx} (h : s₀.Keeps s) :
    s₀.Keeps (Machine.forAll (fun l t => if t.leaseOn l p then t.resumeLease l else t) s) :=
  h.forAll fun _ t => by
    split
    · exact (refl t).resumeLease
    · exact refl t

theorem reopenConflict {p : PortIx} (h : s₀.Keeps s) : s₀.Keeps (s.reopenConflict p) := by
  unfold State.reopenConflict; split
  next up => exact (h.moveOpened up).resumeLeases.clearAlarm.choose
  next down => exact (h.moveDown down).retirePort.clearAlarm.raisePort

theorem closePort {p : PortIx} (h : s₀.Keeps s) : s₀.Keeps (s.closePort p) := by
  unfold State.closePort; dsimp only; split
  · exact h.moveClosed.silencePort.retirePort.clearAlarm.clearAlarm
  · exact h.moveClosed.retirePort.clearAlarm.clearAlarm

/-! #### Lock (04:R67, R77, R78) -/

/-- A new port and an idle lane at once. -/
theorem setPort_idle {p : PortIx} {r : Port} (hq : (s.port p).queue.length ≤ 16 → r.queue.length ≤ 16)
    (fits : r.LockFits .idle) (h : s₀.Keeps s) : s₀.Keeps ((s.setLane p .idle).setPort p r) := by
  refine h.trans ⟨⟨fun q k => ?_, fun _ k => k, fun q k => ?_⟩, fun k => k, fun k => k⟩
  · rw [setPort_port_if]
    split
    next same => exact hq (same ▸ k)
    next => exact k
  · rw [setPort_port_if, setPort_lane, setLane_lane_if]
    split
    next => exact fits
    next => exact k

theorem lockGained {p : PortIx} (h : s₀.Keeps s) : s₀.Keeps ((s.setLane p .idle).lockGained p) := by
  unfold State.lockGained; dsimp only; split
  next down =>
    rw [updPort_movePort]
    exact (h.setPort_idle (r := ((s.port p).setLink true).moveTo .opened) id Port.LockFits.gained_opened).clearAlarm.choose
  next up => exact h.setPort_idle id (Port.LockFits.gained up)

theorem lockLost {p : PortIx} (h : s₀.Keeps s) : s₀.Keeps ((s.setLane p .idle).lockLost p) := by
  unfold State.lockLost; dsimp only; split
  next opened =>
    rw [updPort_movePort]
    exact (h.setPort_idle (r := ((s.port p).setLink false).moveTo .down) id
      Port.LockFits.lost_down).silencePort.retirePort.raisePort
  next shut => exact h.setPort_idle id (Port.LockFits.lost shut)

theorem deliver {p : PortIx} {c : Capture} {f : LaneFrame} (h : s₀.Keeps s) : s₀.Keeps (s.deliver p c f) := by
  unfold State.deliver; split
  · exact h.joinReceived
  · exact h.forAddressed fun _ => h.updLease
  · exact h.forAddressed fun _ => h.retireNotice
  · split
    · exact h.forAddressed fun _ => h.takeReport
    · exact h
  · split
    · exact h.forAddressed fun _ => h.takePeerMark
    · exact h
  · split
    · exact h.forAddressed fun _ => h.echoBack
    · exact h
  · exact h.hubFrame

theorem frameClosed {p : PortIx} {f : Option RxFrame} (h : s₀.Keeps s) :
    s₀.Keeps (s.actLane p ((f.map RxFrame.closed).getD .quiet)) := by
  cases f with
  | none => exact h
  | some f =>
    simp only [Option.map_some, Option.getD_some, RxFrame.closed]
    split
    · exact h
    · exact h.deliver

/-- A symbol heard without lock. -/
theorem hearSeeking {p : PortIx} {c : Capture} {x : RxSymbol} (down : (s.port p).linkUp = false) (h : s₀.Keeps s) :
    s₀.Keeps (s.hearSymbol p c x) := by
  rw [hearSymbol_seek down]
  unfold LaneReceiver.seek
  split_ifs with invalid more
  · exact h.setLane fun fits => fits.seeking down (Nat.zero_lt_succ _) (fits.2.2.1 down).2
  · exact h.setLane fun fits => fits.seeking down more (fits.2.2.1 down).2
  · exact h.lockGained

/-- A symbol heard with lock. -/
theorem hearLocked {p : PortIx} {c : Capture} {x : RxSymbol} (up : (s.port p).linkUp = true) (h : s₀.Keeps s) :
    s₀.Keeps (s.hearSymbol p c x) := by
  have lane {y : LaneReceiver} (count : y.run < 16) : s₀.Keeps (s.setLane p y) := h.setLane fun fits => fits.hearing up count
  cases x with
  | none =>
    rw [hearSymbol_miss up]
    unfold LaneReceiver.miss
    split
    next more => exact lane more
    next => exact h.lockLost
  | some y =>
    rw [hearSymbol_accept up]
    cases y
    case frameEnd => exact (lane (Nat.zero_lt_succ _)).frameClosed
    all_goals exact lane (Nat.zero_lt_succ _)

theorem hearSymbol {p : PortIx} {c : Capture} {x : RxSymbol} (h : s₀.Keeps s) : s₀.Keeps (s.hearSymbol p c x) := by
  cases lock : (s.port p).linkUp
  · exact h.hearSeeking lock
  · exact h.hearLocked lock

theorem hear {p : PortIx} {capture : Nat → Capture} {xs : List RxSymbol} (h : s₀.Keeps s) :
    s₀.Keeps (State.hear p capture xs s) := by
  induction xs generalizing s with
  | nil => exact h
  | cons x xs ih => exact ih h.hearSymbol

/-! #### Departures, symbols and the boundary (04:R70 to R72, 01:R3) -/

theorem frameDeparts {p : PortIx} (h : s₀.Keeps s) : s₀.Keeps (s.frameDeparts p) := by
  unfold State.frameDeparts; dsimp only; split
  · exact h
  next f rest head =>
    have departed := h.setPort_values (r := (s.port p).depart f rest s.clock.osc s.capture) rfl rfl fun full => by
      rw [head] at full
      exact (Nat.le_succ _).trans full
    split_ifs
    · exact departed.roomInQueue
    · exact departed
    · exact h

theorem emitSymbol {p : PortIx} {e : SymbolEntry} (h : s₀.Keeps s) : s₀.Keeps (s.emitSymbol p e) := by
  have emitted := h.updPort_values (p := p)
    (f := fun r => { r with schedule := r.schedule.erase e, tx := some ⟨.symbol e.lease, s.clock.osc + Config.symbolNs⟩ })
    rfl rfl id
  unfold State.emitSymbol; dsimp only; repeat' split
  · exact emitted
  · exact emitted.updLease.firstSymbol
  · exact emitted.updLease

theorem symbolDue {p : PortIx} (h : s₀.Keeps s) : s₀.Keeps (s.symbolDue p) := by
  unfold State.symbolDue; repeat' split
  · exact h
  · exact h.emitSymbol
  · exact h

theorem queueMarks {n : Nat} (h : s₀.Keeps s) : s₀.Keeps (s.queueMarks n) :=
  h.forAll fun _ t => by
    repeat' split
    · exact refl t
    · exact (refl t).offer
    · exact refl t

theorem scheduleSymbols {n : Nat} (h : s₀.Keeps s) : s₀.Keeps (s.scheduleSymbols n) :=
  h.forAll fun _ t => by
    repeat' split
    · exact refl t
    · exact (refl t).updPort_values rfl rfl id
    · exact refl t

theorem reachSecond {n : Nat} (hn : s.tb.InRange → n < Config.secMod) (h : s₀.Keeps s) : s₀.Keeps (s.reachSecond n) := by
  unfold State.reachSecond
  exact (h.updTb Timebase.boundary_agrees fun range =>
    Timebase.boundary_inRange (hn range) range).queueMarks.scheduleSymbols.checkConsistency

theorem boundaryIfDue (h : s₀.Keeps s) : s₀.Keeps s.boundaryIfDue := by
  unfold State.boundaryIfDue; split
  · exact h.reachSecond Timebase.boundarySecond_lt
  · exact h

/-! #### Room announcements (09:R158) -/

theorem raiseStandings {l : LeaseIx} {x : Lease} (h : s₀.Keeps s) : s₀.Keeps (s.raiseStandings l x) := by
  unfold State.raiseStandings
  have raised {t : State} {k : AlarmKind} {d : Option Detail} {q : Prop} [Decidable q] (ht : s₀.Keeps t) :
      s₀.Keeps (if q then t.raiseLease l k d else t) := by
    split
    · exact ht.raiseLease
    · exact ht
  have standing := raised (raised (raised (raised h (q := x.state = .pending) (k := .leasePending) (d := none))
    (q := x.standing s.tb.siteClass = some false) (k := .leaseDegraded) (d := none))
    (q := x.state = .suspended) (k := .leaseSuspended) (d := x.suspendCause.map Detail.suspended))
    (q := x.delayJump = true) (k := .delayJump) (d := none)
  dsimp only
  split
  · exact standing.reportAlarm
  · exact standing

theorem roomAt {b : Block} (h : s₀.Keeps s) : s₀.Keeps (s.roomAt b) := by
  cases b with
  | timebase =>
    unfold State.roomAt State.roomTimebase; dsimp only; split
    · exact h.raiseFreeRun
    all_goals exact h.raiseHoldover
  | referenceUnit =>
    refine h.forAll fun _ t => ?_
    split
    · exact (refl t).raiseRef
    · exact (refl t).raiseRef
    all_goals exact refl t
  | leaseController =>
    have standing : s₀.Keeps (Machine.forAll (fun l u => match u.lease l with | none => u | some x => u.raiseStandings l x) s) :=
      h.forAll fun _ t => by
        split
        · exact refl t
        · exact (refl t).raiseStandings
    unfold State.roomAt State.roomLeases; dsimp only; split
    · exact standing.raise
    · exact standing
  | ports =>
    refine h.forAll fun _ t => ?_
    split
    · exact (refl t).raisePort
    · exact (refl t).raisePort
    all_goals exact refl t
  | outputs =>
    refine h.forAll fun _ t => ?_
    split
    · exact (refl t).raise
    · exact refl t

theorem takeRoom {b : Block} (h : s₀.Keeps s) : s₀.Keeps (s.takeRoom b) := by
  unfold State.takeRoom; split
  · exact h.setAlarm.roomAt
  · exact h

end State.Keeps
end Sys2Proof.Machine

/-! ### The management port's requests keep the laws (10) -/
namespace Sys2Proof.Machine
open Sys2Proof

/-! #### Reset (10:R177) -/

theorem reset_agrees : State.reset.tb.Agrees := ⟨rfl, nofun, rfl, rfl, rfl, rfl⟩

theorem reset_inRange : State.reset.tb.InRange := by
  refine ⟨?_, ?_, ?_, ?_, ?_, ?_, ?_, ?_, ?_, ?_, nofun⟩ <;> decide

theorem reset_queues (p : PortIx) : (State.reset.port p).queue.length ≤ 16 := by decide +revert

theorem reset_lockouts (i : RefIx) : (State.reset.ref i).LockoutFits := by
  unfold RefEntry.LockoutFits
  decide +revert

theorem reset_locks (p : PortIx) : (State.reset.port p).LockFits (State.reset.lane p) := by
  unfold Port.LockFits
  decide +revert

/-! #### A CHANGE of the timebase record (01:R23) -/

namespace Timebase

/-- The record with other settings. -/
def withSettings (t : Timebase) (x : TbSettings) : Timebase :=
  { t with
    revertive := x.revertive
    waitToRestore := x.waitToRestore
    stepPolicy := x.stepPolicy
    stepThreshold := x.stepThreshold
    slewLimit := x.slewLimit
    lockThreshold := x.lockThreshold
    wanderLimit := x.wanderLimit
    minLockTime := x.minLockTime
    thrA := x.thresholds.1
    thrB := x.thresholds.2.1
    thrC := x.thresholds.2.2.1
    thrD := x.thresholds.2.2.2
    g0 := x.g0
    aging := x.aging
    assistedRate := x.assistedRate }

@[simp] theorem withSettings_settings (t : Timebase) : t.withSettings t.settings = t := rfl
@[simp] theorem settings_withSettings (t : Timebase) (x : TbSettings) : (t.withSettings x).settings = x := rfl
@[simp] theorem withSettings_withSettings (t : Timebase) (x y : TbSettings) :
    (t.withSettings x).withSettings y = t.withSettings y := rfl

end Timebase

/-- A named field of the timebase record is a setting, and a class threshold only if its id is a threshold's (01:R4). -/
theorem putTimebase_settings {t u : Timebase} {f : Field} (h : putTimebase t f = some u) :
    u = t.withSettings u.settings ∧ (f.id.toNat ∉ [14, 15, 16, 17] → u.settings.thresholds = t.settings.thresholds) := by
  unfold putTimebase at h
  split at h
  case h_16 => cases h
  case h_9 threshold | h_10 threshold | h_11 threshold | h_12 threshold =>
    obtain ⟨v, -, rfl⟩ := Option.map_eq_some_iff.mp h
    exact ⟨rfl, fun apart => absurd (by simp [threshold]) apart⟩
  all_goals
    obtain ⟨v, -, rfl⟩ := Option.map_eq_some_iff.mp h
    exact ⟨rfl, fun _ => rfl⟩

/-- No id of a list is named by a field list: not by its first field, and not by the others. -/
theorem namedSome_cons {f : Field} {fs : List Field} {ids : List Nat} (h : namedSome (f :: fs) ids = false) :
    f.id.toNat ∉ ids ∧ namedSome fs ids = false := by
  simp only [namedSome, named, List.any_cons, List.any_eq_false, Bool.or_eq_true, decide_eq_true_eq, not_or] at h ⊢
  exact ⟨fun k => (h _ k).1 rfl, fun n hn => (h n hn).2⟩

theorem foldlM_putTimebase {fs : List Field} {t u : Timebase} (h : fs.foldlM putTimebase t = some u) :
    u = t.withSettings u.settings ∧
      (namedSome fs [14, 15, 16, 17] = false → u.settings.thresholds = t.settings.thresholds) := by
  induction fs generalizing t with
  | nil =>
    cases h
    exact ⟨rfl, fun _ => rfl⟩
  | cons f fs ih =>
    rw [List.foldlM_cons] at h
    obtain ⟨v, put, rest⟩ := Option.bind_eq_some_iff.mp h
    obtain ⟨set, same⟩ := putTimebase_settings put
    obtain ⟨sets, sames⟩ := ih rest
    refine ⟨?_, fun none => ?_⟩
    · rw [sets, set]; rfl
    · obtain ⟨first, others⟩ := namedSome_cons none
      rw [sames others, same first]

theorem putFields_timebase {fs : List Field} {t u : Timebase} (h : putFields putTimebase t fs = some u) :
    u = t.withSettings u.settings ∧
      (namedSome fs [14, 15, 16, 17] = false → u.settings.thresholds = t.settings.thresholds) := by
  unfold putFields at h
  split at h
  · exact foldlM_putTimebase h
  · cases h

namespace Timebase

variable {t : Timebase}

/-- The state of a timebase whose class table has changed (01:R23). -/
def retabled (t : Timebase) : TbState :=
  if t.state = .spent ∧ t.spentE = false then (if t.assist.isSome then .assisted else .holdover)
  else if (t.state = .holdover ∨ t.state = .assisted) ∧ t.spentE = true then .spent
  else t.state

/-- With the class table changed, the class of E derived again and SPENT tested again, the state table holds (01:R23). -/
theorem Agrees.withTable {x : TbSettings} {rev : Rev} (h : t.Agrees) :
    ({ t.withSettings x with
        siteClass := (t.withSettings x).classOf, state := (t.withSettings x).retabled, rev := rev } : Timebase).Agrees := by
  obtain ⟨-, bound, table⟩ := h
  refine ⟨rfl, bound, ?_⟩
  have state : (t.withSettings x).state = t.state := rfl
  have assist : (t.withSettings x).assist = t.assist := rfl
  unfold retabled
  rw [state, assist]
  cases st : t.state <;> rw [st] at table <;> dsimp only at table
  case freeRun | acquiring | locked => exact table
  case spent =>
    obtain ⟨sel, counted, spent⟩ := table
    have known : t.e.isSome := by
      cases he : t.e
      · simp [spentE, he] at spent
      · rfl
    cases above : (t.withSettings x).spentE
    · cases ha : t.assist
      · exact ⟨sel, known, counted, rfl, above⟩
      · exact ⟨sel, known, counted, rfl, above⟩
    · exact ⟨sel, counted, above⟩
  case holdover =>
    obtain ⟨sel, known, counted, ha, -⟩ := table
    cases above : (t.withSettings x).spentE
    · exact ⟨sel, known, counted, ha, above⟩
    · exact ⟨sel, counted, above⟩
  case assisted =>
    obtain ⟨sel, known, counted, ha, -⟩ := table
    cases above : (t.withSettings x).spentE
    · exact ⟨sel, known, counted, ha, above⟩
    · exact ⟨sel, counted, above⟩

theorem InRange.withTable {x : TbSettings} {st : TbState} {cls : SiteClass} {rev : Rev} (h : t.InRange) :
    ({ t.withSettings x with siteClass := cls, state := st, rev := rev } : Timebase).InRange := h

theorem withSettings_inRange {x : TbSettings} {rev : Rev} (h : t.InRange) :
    ({ t.withSettings x with rev := rev } : Timebase).InRange := h

/-- Settings with the class table as it was keep the state table. -/
theorem withSettings_agrees {x : TbSettings} {rev : Rev} (same : x.thresholds = t.settings.thresholds) (h : t.Agrees) :
    ({ t.withSettings x with rev := rev } : Timebase).Agrees := by
  have cls : (t.withSettings x).classOf = t.classOf := by simp only [classOf, withSettings, same]; rfl
  have spent : (t.withSettings x).spentE = t.spentE := by simp only [spentE, withSettings, same]; rfl
  obtain ⟨derived, bound, table⟩ := h
  rw [← spent] at table
  exact ⟨derived.trans cls.symm, bound, table⟩

end Timebase

section

variable {s₀ s : State}

theorem tableMoved_tb : s.tableMoved.tb = { s.tb with state := s.tb.retabled, rev := s.tableMoved.tb.rev } := by
  unfold State.tableMoved Timebase.retabled
  simp only [Bool.and_eq_true, decide_eq_true_eq, Bool.not_eq_true']
  split
  · rfl
  · rw [spentTest_tb]
    split <;> rfl

/-- The class of E under a changed table, then the move into or out of SPENT (01:R23). -/
theorem deriveClass_tableMoved_tb :
    s.deriveClass.tableMoved.tb =
      { s.tb with siteClass := s.tb.classOf, state := s.tb.retabled, rev := s.deriveClass.tableMoved.tb.rev } := by
  have state : s.deriveClass.tb.retabled = s.tb.retabled := by rw [deriveClass_tb]; rfl
  rw [tableMoved_tb, state, deriveClass_tb]

theorem State.Beside.tableMoved (h : s₀.Beside s) : s₀.Beside s.tableMoved := by
  unfold State.tableMoved
  split
  · exact h.updTb.trans (State.Keeps.refl _).clearAlarm.raise.toBeside
  · exact h.spentTest

end

/-- What every named field keeps, the whole list keeps. -/
theorem foldlM_keeps {α : Type} {put : α → Field → Option α} {P : α → Prop}
    (hput : ∀ r r' f, put r f = some r' → P r → P r') {fs : List Field} {r r' : α} (h : fs.foldlM put r = some r')
    (hr : P r) : P r' := by
  induction fs generalizing r with
  | nil => exact Option.some.inj h ▸ hr
  | cons f fs ih =>
    rw [List.foldlM_cons] at h
    obtain ⟨v, first, rest⟩ := Option.bind_eq_some_iff.mp h
    exact ih rest (hput r v f first hr)

theorem putFields_keeps {α : Type} {put : α → Field → Option α} {P : α → Prop}
    (hput : ∀ r r' f, put r f = some r' → P r → P r') {r r' : α} {fs : List Field} (h : putFields put r fs = some r')
    (hr : P r) : P r' := by
  unfold putFields at h
  split at h
  · exact foldlM_keeps hput h hr
  · cases h

/-- A named field of a reference entry is neither its state nor its fault score (02:R26). -/
theorem putReference_values {i : RefIx} {e e' : RefEntry} {f : Field} (h : putReference i e f = some e') :
    e'.state = e.state ∧ e'.faultScore = e.faultScore := by
  unfold putReference at h
  split at h
  case h_9 => cases h
  case h_1 | h_2 | h_6 | h_7 =>
    obtain ⟨v, -, rfl⟩ := Option.map_eq_some_iff.mp h
    exact ⟨rfl, rfl⟩
  case h_3 | h_4 | h_5 =>
    obtain ⟨v, -, rfl⟩ := Option.map_eq_some_iff.mp (Option.ite_none_right_eq_some.mp h).2
    exact ⟨rfl, rfl⟩
  case h_8 =>
    obtain ⟨v, -, rfl⟩ := Option.map_eq_some_iff.mp (Option.ite_none_left_eq_some.mp h).2
    exact ⟨rfl, rfl⟩

theorem putFields_reference {i : RefIx} {e e' : RefEntry} {fs : List Field} (h : putFields (putReference i) e fs = some e') :
    e'.state = e.state ∧ e'.faultScore = e.faultScore :=
  putFields_keeps (P := fun r => r.state = e.state ∧ r.faultScore = e.faultScore)
    (fun _ _ _ put ⟨state, score⟩ => by
      obtain ⟨state', score'⟩ := putReference_values put
      exact ⟨state'.trans state, score'.trans score⟩) h ⟨rfl, rfl⟩

/-- A named field of a port is neither its state, its link nor its queue (04:R75). -/
theorem putPort_values {r r' : Port} {f : Field} (h : putPort r f = some r') :
    r'.state = r.state ∧ r'.linkUp = r.linkUp ∧ r'.queue = r.queue := by
  unfold putPort at h
  split at h
  case h_4 => cases h
  all_goals
    obtain ⟨v, -, rfl⟩ := Option.map_eq_some_iff.mp h
    exact ⟨rfl, rfl, rfl⟩

theorem putFields_port {r r' : Port} {fs : List Field} (h : putFields putPort r fs = some r') :
    r'.state = r.state ∧ r'.linkUp = r.linkUp ∧ r'.queue = r.queue :=
  putFields_keeps (P := fun q => q.state = r.state ∧ q.linkUp = r.linkUp ∧ q.queue = r.queue)
    (fun _ _ _ put ⟨state, link, queue⟩ => by
      obtain ⟨state', link', queue'⟩ := putPort_values put
      exact ⟨state'.trans state, link'.trans link, queue'.trans queue⟩) h ⟨rfl, rfl, rfl⟩

/-- Inputs of an entry just set to a low fault score start: the two changes of the entry are one (02:R35, R42). -/
theorem setRef_startInputs (s : State) (i : RefIx) (e : RefEntry) (low : e.faultScore < Config.lockoutScore) :
    (s.setRef i e).startInputs i = s.setRef i (e.toQualifying s.clock.osc ((s.setRef i e).missingStart i)) := by
  have same : (s.setRef i e).ref i = e := by rw [setRef_ref_if, if_pos rfl]
  unfold State.startInputs State.updRef
  rw [same, if_pos low]
  simp only [State.setRef, Vector.set_set]

namespace State.Keeps

variable {s₀ s : State} {x : Executing}

/-! #### Answers and checks (10:R166 to R169) -/

theorem restarted (h : s₀.Keeps s) : s₀.Keeps s.restarted :=
  h.trans ⟨⟨fun p _ => reset_queues p, fun i _ => reset_lockouts i, fun p _ => reset_locks p⟩,
    fun _ => reset_agrees, fun _ => reset_inRange⟩

theorem reply {f : State → Answer} (h : s₀.Keeps s) : s₀.Keeps (s.reply f) := h.settle.setMgmt
theorem refuse {code : AnswerCode} (h : s₀.Keeps s) : s₀.Keeps (s.refuse x code) := h.reply
theorem doneForm {t : Table} {k : Nat} {form : Byte} (h : s₀.Keeps s) : s₀.Keeps (s.doneForm x t k form) := h.reply
theorem done {t : Table} {k : Nat} (h : s₀.Keeps s) : s₀.Keeps (s.done x t k) := h.doneForm
theorem doneSlot {t : Table} {k : Nat} (h : s₀.Keeps s) : s₀.Keeps (s.doneSlot x t k) := h.reply
theorem doneStatus (h : s₀.Keeps s) : s₀.Keeps (s.doneStatus x) := h.reply

theorem showMiso {bs : List Byte} {n : Nat} (h : s₀.Keeps s) : s₀.Keeps (s.showMiso bs n) := h.setMgmt

theorem statusPoll {first : Byte} {n : Nat} (h : s₀.Keeps s) : s₀.Keeps (s.statusPoll first n) := by
  unfold State.statusPoll; split
  · exact h
  · exact h.showMiso

theorem answerTransaction {n : Nat} (h : s₀.Keeps s) : s₀.Keeps (s.answerTransaction n) := h.showMiso.setMgmt

theorem takeRequest (h : s₀.Keeps s) : s₀.Keeps (s.takeRequest x) := by
  unfold State.takeRequest; dsimp only; split
  · exact h.showMiso.setMgmt
  · exact h.showMiso

theorem carryRequest {stage : Stage} {act : Executing → State → State} (hact : ∀ u, State.Keeps u (act x u))
    (h : s₀.Keeps s) : s₀.Keeps (s.carryRequest x stage act) := by
  cases stage
  case taken => exact h.takeRequest
  case acts =>
    unfold State.carryRequest State.actRequest; dsimp only; split
    · exact h.trans (hact s)
    · exact h
  case whole =>
    unfold State.carryRequest; dsimp only; split
    · exact h.takeRequest.trans (hact _)
    · exact h.takeRequest

theorem checked {k : State → State} (h : s₀.Keeps s) (hk : s₀.Keeps (k s)) : s₀.Keeps (s.checked x k) := by
  unfold State.checked; split_ifs
  · exact h.refuse
  · exact hk
  · exact h.refuse

theorem atRecord {t : Table} {fenced : Bool} {k : Nat → State → State} (hk : ∀ i, s₀.Keeps (k i s)) (h : s₀.Keeps s) :
    s₀.Keeps (s.atRecord x t fenced k) := by
  unfold State.atRecord; repeat' split
  · exact h.refuse
  · exact h.refuse
  · exact hk _
  · exact h.refuse

theorem atIx {n k : Nat} {f : Fin n → State → State} (hf : ∀ i, s₀.Keeps (f i s)) (h : s₀.Keeps s) :
    s₀.Keeps (s.atIx n k f) := by
  unfold State.atIx; split
  · exact h
  · exact hf _

theorem atLease {k : Nat} {f : LeaseIx → Lease → State → State} (hf : ∀ l y, s₀.Keeps (f l y s)) (h : s₀.Keeps s) :
    s₀.Keeps (s.atLease k f) := h.atIx fun l => by
  split
  · exact h
  · exact hf l _

theorem changing {t : Table} {apply : Nat → State → State} (hk : ∀ k, s₀.Keeps (apply k s)) (h : s₀.Keeps s) :
    s₀.Keeps (s.changing x t apply) :=
  h.checked <| atRecord (fun k => by
    unfold State.changeAt; split
    · exact h.done
    · exact hk k) h

/-! #### CHANGE, CREATE and RETIRE -/

/-- New settings, and the class table applied again. -/
theorem retable {y : TbSettings} {r : Rev} (h : s₀.Keeps s) :
    s₀.Keeps (s.setTb { s.tb.withSettings y with rev := r }).deriveClass.tableMoved := by
  have beside : s.Beside (s.setTb { s.tb.withSettings y with rev := r }).deriveClass.tableMoved :=
    (State.Beside.refl s).setTb.deriveClass.tableMoved
  refine h.trans (of_beside beside (fun ha => ?_) fun hr => ?_)
  · rw [deriveClass_tableMoved_tb]
    exact ha.withTable
  · rw [deriveClass_tableMoved_tb]
    exact hr.withTable

theorem applyTimebase (h : s₀.Keeps s) : s₀.Keeps (s.applyTimebase x) := by
  unfold State.applyTimebase; split
  · exact h.refuse
  next u put =>
    obtain ⟨settings, same⟩ := putFields_timebase put
    split_ifs
    · exact h.refuse
    · exact h.refuse
    · refine done ?_
      unfold State.timebaseChanged
      have changed : s₀.Keeps (if namedSome x.req.fields [14, 15, 16, 17] then
          (s.setTb { u with rev := u.rev + 1 }).deriveClass.tableMoved else s.setTb { u with rev := u.rev + 1 }) := by
        rw [settings]
        split
        next => exact h.retable
        next apart =>
          exact h.setTb (Timebase.withSettings_agrees (same (Bool.eq_false_iff.mpr apart))) Timebase.withSettings_inRange
      dsimp only
      split
      · exact changed.reworkRestore
      · exact changed

theorem enabledChanged {i : RefIx} {was : Bool} (h : s₀.Keeps s) : s₀.Keeps (s.enabledChanged i was) := by
  unfold State.enabledChanged; repeat' split
  · exact h.startInputs
  · exact h
  · exact h.disableRef.announceLeft
  · exact h.disableRef
  all_goals exact h

theorem targetChanged {i : RefIx} (h : s₀.Keeps s) : s₀.Keeps (s.targetChanged i) := by
  unfold State.targetChanged; dsimp only; split
  · exact h.updRef_values rfl rfl
  next qualifying =>
    split_ifs
    · exact h
    · exact h.updRef_values rfl rfl
    · exact h.becomeUsable (by simp [RefEntry.live, qualifying])
  all_goals exact h

theorem rankChanged {i : RefIx} (h : s₀.Keeps s) : s₀.Keeps (s.rankChanged i) := by
  unfold State.rankChanged; split_ifs
  · exact h.loseSelected
  · exact h.selectEntry.reworkRestore
  · exact h.reworkRestore
  · exact h

theorem referenceChanged {i : RefIx} {was : Bool} {fs : List Field} (h : s₀.Keeps s) :
    s₀.Keeps (s.referenceChanged i was fs) := by
  have edge : s₀.Keeps (if named fs 6 then s.updRef i fun e => e.edgeChanged s.clock.osc else s) := by
    split
    · exact h.updRef_values rfl rfl
    · exact h
  have enabled {t : State} (ht : s₀.Keeps t) : s₀.Keeps (if named fs 2 then t.enabledChanged i was else t) := by
    split
    · exact ht.enabledChanged
    · exact ht
  have target {t : State} (ht : s₀.Keeps t) : s₀.Keeps (if named fs 7 then t.targetChanged i else t) := by
    split
    · exact ht.targetChanged
    · exact ht
  unfold State.referenceChanged
  dsimp only
  split
  · exact (target (enabled edge)).rankChanged
  · exact target (enabled edge)

theorem applyReference {i : RefIx} (h : s₀.Keeps s) : s₀.Keeps (s.applyReference x i) := by
  unfold State.applyReference; split
  · exact h.refuse
  next e put =>
    obtain ⟨state, score⟩ := putFields_reference put
    split
    · exact h.refuse
    · have entry := h.setRef (e := { e with rev := e.rev + 1 }) (by simp only [RefEntry.LockoutFits, state, score]; exact id)
      exact entry.referenceChanged.done

theorem applyAdmission {i : AdmIx} (h : s₀.Keeps s) : s₀.Keeps (s.applyAdmission x i) := by
  unfold State.applyAdmission; split
  · exact h.refuse
  · exact h.setAdmission.done

theorem createAt {i : AdmIx} (h : s₀.Keeps s) : s₀.Keeps (s.createAt x i) := by
  unfold State.createAt; repeat' split
  · exact h.refuse
  · exact h.refuse
  · exact h.setAdmission.done

theorem standingChanged {l : LeaseIx} {y z : Lease} (h : s₀.Keeps s) : s₀.Keeps (s.standingChanged l y z) := by
  unfold State.standingChanged; dsimp only; split
  · exact h.putNotice.raiseLease
  · exact h.putNotice.clearAlarm
  · exact h

theorem editLease {l : LeaseIx} {y : Lease} (h : s₀.Keeps s) : s₀.Keeps (s.editLease x l y) := by
  unfold State.editLease; repeat' split
  · exact h.refuse
  · exact h.moveLease.standingChanged.done
  · exact h.refuse

theorem applyPort {p : PortIx} (h : s₀.Keeps s) : s₀.Keeps (s.applyPort x p) := by
  unfold State.applyPort; split
  · exact h.refuse
  next r put =>
    obtain ⟨state, link, queue⟩ := putFields_port put
    exact (h.setPort_values (r := { r with rev := r.rev + 1 }) state link (by rw [queue]; exact id)).done

theorem outputChanged {i : OutIx} {was : OutState} {fs : List Field} (h : s₀.Keeps s) :
    s₀.Keeps (s.outputChanged i was fs) := by
  unfold State.outputChanged; dsimp only; split
  · exact h.moveOutput.updOut
  · exact h.moveOutput

theorem applyOutput {i : OutIx} (h : s₀.Keeps s) : s₀.Keeps (s.applyOutput x i) := by
  unfold State.applyOutput; repeat' split
  · exact h.refuse
  · exact h.setOut.outputChanged.done
  · exact h.refuse

theorem applyKind {i : Fin 20} (h : s₀.Keeps s) : s₀.Keeps (s.applyKind x i) := by
  unfold State.applyKind; split
  · exact h.refuse
  · exact h.setAlarm.done

theorem applyUnit (h : s₀.Keeps s) : s₀.Keeps (s.applyUnit x) := by
  unfold State.applyUnit; split
  · exact h.refuse
  · exact h.setAlarm.done

theorem applyLine {i : LineIx} (h : s₀.Keeps s) : s₀.Keeps (s.applyLine x i) := by
  unfold State.applyLine; repeat' split
  · exact h.refuse
  · exact h.setAlarm.done
  · exact h.refuse

/-! #### The named commands -/

theorem approve {l : LeaseIx} {y : Lease} (h : s₀.Keeps s) : s₀.Keeps (s.approve l y) := h.moveLease.clearAlarm.offer.choose

theorem inject {l : LeaseIx} {p : PortIx} (h : s₀.Keeps s) : s₀.Keeps (s.inject l p) := h.updScanner.choose

theorem ackAt {i : SlotIx} {r : AlarmRecord} (h : s₀.Keeps s) : s₀.Keeps (s.ackAt x i r) := by
  unfold State.ackAt; split
  · exact h.refuse
  · exact h.setAlarm.doneForm
  · exact h.setAlarm.doneSlot

theorem clearLockout {i : RefIx} (h : s₀.Keeps s) : s₀.Keeps (s.clearLockout x i) := by
  unfold State.clearLockout; dsimp only; split_ifs with locked disabled
  · have merged := setRef_startInputs (s.clearAlarm .refLockedOut i.val) i { s.ref i with faultScore := 0 }
      (Nat.zero_lt_succ _)
    refine done ?_
    show s₀.Keeps (((s.clearAlarm .refLockedOut i.val).setRef i { s.ref i with faultScore := 0 }).startInputs i)
    rw [merged]
    exact h.clearAlarm.setRef fun _ => RefEntry.toQualifying_fits (Nat.zero_lt_succ _)
  · exact (h.updRef fun _ => .of_low (Nat.zero_lt_succ _) locked).done
  · exact h.refuse

theorem forceEntry {i : RefIx} (h : s₀.Keeps s) : s₀.Keeps (s.forceEntry i) := by
  have forced := h.updTb (f := fun b => { b with forced := some i, rev := b.rev + changed b.forced (some i) }) id id
  unfold State.forceEntry; dsimp only; split
  · exact forced.storeRestore
  · exact forced.selectEntry.storeRestore

theorem releaseForced (h : s₀.Keeps s) : s₀.Keeps s.releaseForced := (h.updTb id id).reworkRestore

theorem reopen {p : PortIx} (h : s₀.Keeps s) : s₀.Keeps (s.reopen x p) := by
  unfold State.reopen; split
  · exact h.reopenConflict.done
  · exact h.openPort.choose.done
  all_goals exact h.refuse

theorem closeAt {p : PortIx} (h : s₀.Keeps s) : s₀.Keeps (s.closeAt x p) := by
  unfold State.closeAt; split
  · exact h.done
  · exact h.closePort.done

theorem closeSetup (h : s₀.Keeps s) : s₀.Keeps s.closeSetup := by
  unfold State.closeSetup; dsimp only; split
  · exact h.setMgmt.raiseFreeRun.openAllPorts
  · exact h.setMgmt.openAllPorts

end State.Keeps
end Sys2Proof.Machine

/-! ### Every step keeps the laws -/
namespace Sys2Proof.Machine
open Sys2Proof

variable {s t : State}

/-- Whatever state an outcome leads to, the laws are kept on the way there from `s`. -/
def State.KeepsTo (s : State) (o : Host.Outcome State Fault Refusal) : Prop := ∀ t, o = .next t → s.Keeps t

theorem keepsTo_next (h : s.Keeps t) : s.KeepsTo (.next t) := fun _ k => by cases k; exact h

theorem event_keeps {dt : Nat} {f : State → State} (hf : ∀ u : State, u.Keeps (f u)) : s.KeepsTo (event dt f s) := by
  refine keepsTo_next ?_
  split
  · exact .refl s
  · exact ((State.Keeps.refl s).elapse.trans (hf _)).settle

theorem laneEvent_keeps {dt : Nat} {p : PortIx} {xs : List RxSymbol} : s.KeepsTo (laneEvent dt p xs s) :=
  event_keeps fun u => (State.Keeps.refl u).hear

theorem frameEvent_keeps {dt : Nat} {lane : Lane} {f : LaneFrame} : s.KeepsTo (frameEvent dt lane f s) := laneEvent_keeps

theorem request_keeps {dt : Nat} {x : Executing} {stage : Stage} {act : Executing → State → State}
    (hact : ∀ u : State, u.Keeps (act x u)) : s.KeepsTo (request dt x stage act s) :=
  event_keeps fun u => (State.Keeps.refl u).carryRequest hact

/-! #### What each request does -/

namespace State.Keeps

variable {x : Executing}

theorem actUnknown (u : State) : u.Keeps (actUnknown x u) := (refl u).refuse

theorem actLook {k : Table} (u : State) : u.Keeps (actLook k x u) :=
  (refl u).checked <| atRecord (fun _ => (refl u).doneForm) (refl u)

theorem actNext {k : Table} (u : State) : u.Keeps (actNext k x u) :=
  (refl u).checked <| by
    split
    · exact (refl u).refuse
    · exact (refl u).doneForm

theorem actChangeTimebase (u : State) : u.Keeps (actChangeTimebase x u) := changing (fun _ => (refl u).applyTimebase) (refl u)

theorem actChangeReference (u : State) : u.Keeps (actChangeReference x u) :=
  changing (fun _ => atIx (fun _ => (refl u).applyReference) (refl u)) (refl u)

theorem actChangeAdmission (u : State) : u.Keeps (actChangeAdmission x u) :=
  changing (fun _ => atIx (fun _ => (refl u).applyAdmission) (refl u)) (refl u)

theorem actChangeLease (u : State) : u.Keeps (actChangeLease x u) :=
  changing (fun _ => atLease (fun _ _ => (refl u).editLease) (refl u)) (refl u)

theorem actChangePort (u : State) : u.Keeps (actChangePort x u) :=
  changing (fun _ => atIx (fun _ => (refl u).applyPort) (refl u)) (refl u)

theorem actChangeOutput (u : State) : u.Keeps (actChangeOutput x u) :=
  changing (fun _ => atIx (fun _ => (refl u).applyOutput) (refl u)) (refl u)

theorem actChangeAlarmKind (u : State) : u.Keeps (actChangeAlarmKind x u) :=
  changing (fun _ => atIx (fun _ => (refl u).applyKind) (refl u)) (refl u)

theorem actChangeAlarmUnit (u : State) : u.Keeps (actChangeAlarmUnit x u) := changing (fun _ => (refl u).applyUnit) (refl u)

theorem actChangeAlarmLine (u : State) : u.Keeps (actChangeAlarmLine x u) :=
  changing (fun _ => atIx (fun _ => (refl u).applyLine) (refl u)) (refl u)

theorem actCreate (u : State) : u.Keeps (actCreate x u) :=
  (refl u).checked <| by
    split
    · exact (refl u).refuse
    · exact atIx (fun _ => (refl u).createAt) (refl u)

theorem actRetireAdmission (u : State) : u.Keeps (actRetireAdmission x u) :=
  (refl u).checked <| atRecord (fun _ => atIx (fun _ => (refl u).setAdmission.doneSlot) (refl u)) (refl u)

theorem actRetireLease (u : State) : u.Keeps (actRetireLease x u) :=
  (refl u).checked <| atRecord (fun _ => atIx (fun _ => (refl u).retireNotice.doneSlot) (refl u)) (refl u)

theorem actApprove (u : State) : u.Keeps (actApprove x u) :=
  (refl u).checked <| atRecord (fun _ => atLease (fun _ _ => by
    split
    · exact (refl u).approve.done
    · exact (refl u).refuse) (refl u)) (refl u)

theorem actDeny (u : State) : u.Keeps (actDeny x u) :=
  (refl u).checked <| atRecord (fun _ => atLease (fun _ _ => by
    split
    · exact (refl u).retireRefuse.doneSlot
    · exact (refl u).refuse) (refl u)) (refl u)

theorem actSuspend (u : State) : u.Keeps (actSuspend x u) :=
  (refl u).checked <| atRecord (fun _ => atLease (fun _ _ => by
    split
    · exact (refl u).suspend.done
    · exact (refl u).refuse) (refl u)) (refl u)

theorem actResume (u : State) : u.Keeps (actResume x u) :=
  (refl u).checked <| atRecord (fun _ => atLease (fun _ _ => by
    split
    · exact (refl u).resumeLease.choose.done
    · exact (refl u).refuse) (refl u)) (refl u)

theorem actMeasure (u : State) : u.Keeps (actMeasure x u) :=
  (refl u).checked <| atRecord (fun _ => atLease (fun _ _ => by
    split_ifs
    · exact (refl u).refuse
    · exact (refl u).refuse
    · exact (refl u).inject.done) (refl u)) (refl u)

theorem actAck (u : State) : u.Keeps (actAck x u) :=
  (refl u).checked <| atRecord (fun _ => atIx (fun _ => by
    split
    · exact refl u
    · exact (refl u).ackAt) (refl u)) (refl u)

theorem actAckAll (u : State) : u.Keeps (actAckAll x u) := (refl u).checked (refl u).setAlarm.reply

theorem actClearLockout (u : State) : u.Keeps (actClearLockout x u) :=
  (refl u).checked <| atRecord (fun _ => atIx (fun _ => (refl u).clearLockout) (refl u)) (refl u)

theorem actForce (u : State) : u.Keeps (actForce x u) :=
  (refl u).checked <| atRecord (fun _ => atIx (fun _ => by
    split
    · exact (refl u).forceEntry.done
    · exact (refl u).refuse) (refl u)) (refl u)

theorem actRelease (u : State) : u.Keeps (actRelease x u) :=
  (refl u).checked <| by
    split
    · exact (refl u).releaseForced.done
    · exact (refl u).refuse

theorem actReopen (u : State) : u.Keeps (actReopen x u) :=
  (refl u).checked <| atRecord (fun _ => atIx (fun _ => by
    split
    · exact (refl u).reopen
    · exact (refl u).refuse) (refl u)) (refl u)

theorem actClose (u : State) : u.Keeps (actClose x u) :=
  (refl u).checked <| atRecord (fun _ => atIx (fun _ => by
    split
    · exact (refl u).closeAt
    · exact (refl u).refuse) (refl u)) (refl u)

theorem actCloseSetup (u : State) : u.Keeps (actCloseSetup x u) :=
  (refl u).checked <| by
    split
    · exact (refl u).refuse
    · exact (refl u).closeSetup.doneStatus

theorem actRestart (u : State) : u.Keeps (actRestart x u) := (refl u).checked (refl u).restarted.setMgmt

theorem actStatus (u : State) : u.Keeps (actStatus x u) := (refl u).checked (refl u).doneStatus

/-- Every command keeps the laws, whatever state it comes to. -/
theorem of_exec (i : Instr) (s : State) : s.KeepsTo (exec i s) := by
  cases i
  case resetN => exact keepsTo_next ((refl s).restarted.of_same rfl rfl rfl rfl)
  case resetNRelease dt =>
    rw [exec_resetNRelease]
    refine keepsTo_next ?_
    split
    · exact (refl s).restarted
    · exact (refl s).elapse.settle
  case runSecond => rw [exec_runSecond]; exact event_keeps fun u => (refl u).runSecondIfDue
  case siteSecondBoundary => rw [exec_siteSecondBoundary]; exact event_keeps fun u => (refl u).boundaryIfDue
  case referenceEdge => rw [exec_referenceEdge]; exact event_keeps fun u => (refl u).pulseEdge
  case labelFrame => rw [exec_labelFrame]; exact event_keeps fun u => (refl u).labelFrame
  case linePulse => rw [exec_linePulse]; exact event_keeps fun u => (refl u).linePulse
  case assistMeasurement => rw [exec_assistMeasurement]; exact event_keeps fun u => (refl u).deliverMeasurement
  case timebaseSample => rw [exec_timebaseSample]; exact event_keeps fun u => (refl u).deliverSample
  case missingSampleTimerExpiry => rw [exec_missingSampleTimerExpiry]; exact event_keeps fun u => (refl u).missingExpires
  case holdOffExpiry => rw [exec_holdOffExpiry]; exact event_keeps fun u => (refl u).holdOffExpires
  case faultScoreDecay => rw [exec_faultScoreDecay]; exact event_keeps fun u => (refl u).scoreDecays
  case revertiveSwitch => rw [exec_revertiveSwitch]; exact event_keeps fun u => (refl u).switchIfDue
  case laneLockGained | laneLockLost => exact laneEvent_keeps
  case join | renew | leave | report | peerMark | echoBack | hubFrameReceived => exact frameEvent_keeps
  case frameDeparture => rw [exec_frameDeparture]; exact event_keeps fun u => (refl u).frameDeparts
  case markDeparture => rw [exec_markDeparture]; exact event_keeps fun u => (refl u).deliverReport
  case echoDeparture => rw [exec_echoDeparture]; exact event_keeps fun u => (refl u).deliverReport
  case echoTimerExpiry => rw [exec_echoTimerExpiry]; exact event_keeps fun u => (refl u).echoTimerExpires
  case boundarySymbolEmission => rw [exec_boundarySymbolEmission]; exact event_keeps fun u => (refl u).symbolDue
  case routineBatchDue => rw [exec_routineBatchDue]; exact event_keeps fun u => (refl u).routineFallsDue
  case approvalDeadlineExpiry => rw [exec_approvalDeadlineExpiry]; exact event_keeps fun u => (refl u).deadlineExpires
  case outputRisingEdge => rw [exec_outputRisingEdge]; exact event_keeps fun u => (refl u).updOut
  case outputFall => rw [exec_outputFall]; exact event_keeps fun u => (refl u).updOut
  case roomAnnouncement => rw [exec_roomAnnouncement]; exact event_keeps fun u => (refl u).takeRoom
  case statusPoll => rw [exec_statusPoll]; exact event_keeps fun u => (refl u).statusPoll
  case answerTransaction => rw [exec_answerTransaction]; exact event_keeps fun u => (refl u).answerTransaction
  case unknownRequest =>
    rw [exec_unknownRequest]
    split
    · exact event_keeps refl
    · exact request_keeps actUnknown
  case look => exact request_keeps actLook
  case next => exact request_keeps actNext
  case changeTimebase => exact request_keeps actChangeTimebase
  case changeReference => exact request_keeps actChangeReference
  case changeAdmission => exact request_keeps actChangeAdmission
  case changeLease => exact request_keeps actChangeLease
  case changePort => exact request_keeps actChangePort
  case changeOutput => exact request_keeps actChangeOutput
  case changeAlarmKind => exact request_keeps actChangeAlarmKind
  case changeAlarmUnit => exact request_keeps actChangeAlarmUnit
  case changeAlarmLine => exact request_keeps actChangeAlarmLine
  case create => exact request_keeps actCreate
  case retireAdmission => exact request_keeps actRetireAdmission
  case retireLease => exact request_keeps actRetireLease
  case approve => exact request_keeps actApprove
  case deny => exact request_keeps actDeny
  case suspend => exact request_keeps actSuspend
  case resume => exact request_keeps actResume
  case measure => exact request_keeps actMeasure
  case ack => exact request_keeps actAck
  case ackAll => exact request_keeps actAckAll
  case clearLockout => exact request_keeps actClearLockout
  case force => exact request_keeps actForce
  case release => exact request_keeps actRelease
  case reopen => exact request_keeps actReopen
  case close => exact request_keeps actClose
  case closeSetup => exact request_keeps actCloseSetup
  case restart => exact request_keeps actRestart
  case status => exact request_keeps actStatus

end State.Keeps

theorem step_keeps (h : step s = .next t) : s.Keeps t := by
  unfold step at h
  split at h
  next =>
    cases h
    exact .refl s
  next i rest _ =>
    have popped : s.Keeps (s.withPending rest) := (State.Keeps.refl s).of_same rfl rfl rfl rfl
    exact popped.trans (State.Keeps.of_exec i _ t h)

/-! #### The laws of the step -/

/-- Settles O55: every step keeps the record's law, and with it the state table. -/
theorem timebaseAgreesAfterEveryStep : Obligations.TimebaseAgreesAfterEveryStep := by
  unfold Obligations.TimebaseAgreesAfterEveryStep
  intro s t h next
  exact (timebaseAgrees_iff t).mpr ((step_keeps next).agrees ((timebaseAgrees_iff s).mp h))

/-- Settles O56: every step keeps the ranges, the law of each entry, and the law of each port with its lane. -/
theorem runningValuesStayInRange : Obligations.RunningValuesStayInRange := by
  unfold Obligations.RunningValuesStayInRange
  refine ⟨fun s t range lockouts next => ⟨?_, ?_⟩, fun s t locks next => ?_⟩
  · obtain ⟨record, queues⟩ := (inRange_iff s).mp range
    exact (inRange_iff t).mpr ⟨(step_keeps next).range record, fun p => (step_keeps next).queues p (queues p)⟩
  · exact (lockoutAgrees_iff t).mpr fun i => (step_keeps next).lockouts i ((lockoutAgrees_iff s).mp lockouts i)
  · exact (lanesAgree_iff t).mpr fun p => (step_keeps next).locks p ((lanesAgree_iff s).mp locks p)

end Sys2Proof.Machine

/-! ### The part after reset (10:R177) -/
namespace Sys2Proof.Machine
open Sys2Proof

/-! #### The records of each table -/

@[simp] theorem reset_port (p : PortIx) : State.reset.port p = .reset := by simp [State.port, State.reset]
@[simp] theorem reset_lane (p : PortIx) : State.reset.lane p = .idle := by simp [State.lane, State.reset]
@[simp] theorem reset_slot (l : LeaseIx) : State.reset.slot l = ⟨0, none⟩ := by simp [State.slot, State.reset]
@[simp] theorem reset_lease (l : LeaseIx) : State.reset.lease l = none := by simp [State.lease]
@[simp] theorem reset_admissionSlot (i : AdmIx) : State.reset.admissionSlot i = ⟨0, none⟩ := by
  simp [State.admissionSlot, State.reset]
@[simp] theorem reset_out (i : OutIx) : State.reset.out i = .reset := by simp [State.out, State.reset]
@[simp] theorem reset_alarmSlot (i : SlotIx) : State.reset.alarm.slots[i] = ⟨0, none⟩ := by
  simp [State.reset, AlarmUnit.reset]
@[simp] theorem reset_line (i : LineIx) : State.reset.alarm.lines[i] = .reset := by simp [State.reset, AlarmUnit.reset]

/-- The eight entries differ in their declared errors only (02:R26). -/
theorem reset_ref (i : RefIx) : State.reset.ref i = .reset (State.reset.ref i).declaredError := by
  fin_cases i <;> rfl

/-- Settles O3: each table holds the record that reset writes into all of its places. -/
theorem resetLeavesTheStatedValues : Obligations.ResetLeavesTheStatedValues := by
  unfold Obligations.ResetLeavesTheStatedValues
  refine ⟨?_, fun i => ?_, ?_, fun p => ?_, reset_slot, reset_admissionSlot, fun i => ?_, reset_alarmSlot, rfl, rfl, rfl,
    fun i => ?_, rfl, rfl, rfl⟩
  · decide
  · rw [reset_ref]
    decide +revert
  · decide
  · rw [reset_port, reset_lane]
    decide
  · rw [reset_out]
    decide
  · rw [reset_line]
    decide

/-- Settles O60: after reset the tables of leases and alarms are empty, and the other laws hold of the one record each table is
filled with. -/
theorem reachableInvariantsHoldAtReset : Obligations.ReachableInvariantsHoldAtReset := by
  unfold Obligations.ReachableInvariantsHoldAtReset
  refine ⟨?_, (timebaseAgrees_iff _).mpr reset_agrees, (inRange_iff _).mpr ⟨reset_inRange, reset_queues⟩,
    (lockoutAgrees_iff _).mpr reset_lockouts, (lanesAgree_iff _).mpr reset_locks, fun i => ?_, ⟨?_, fun p => ?_, ?_⟩, ?_⟩
  · refine ⟨by decide, by decide, fun i => ?_⟩
    rw [reset_line]
    decide
  · rw [reset_out]
    decide
  · intro l k x y hx
    simp at hx
  · rw [reset_port]
    revert p
    decide
  · intro l x p hx
    simp at hx
  · intro i r hr
    rw [reset_alarmSlot] at hr
    cases hr

end Sys2Proof.Machine

/-! ### What the timebase's commands do (01, 03) -/
namespace Sys2Proof.Machine
open Sys2Proof

variable {s u : State} {dt : Nat}

/-- A command of the part acts on the state at its instant, and the pins settle. -/
theorem event_at {f : State → State} (h : s.At dt u) : event dt f s = .next (f u).settle := by
  obtain ⟨high, rfl⟩ := h
  exact event_high high

/-- Of a walk only the turn of index `j` moves what `get` reads, and it moves it as `g` does. -/
theorem forAll_at {n : Nat} {α : Type} {f : Fin n → State → State} {get : State → α} {g : α → α} (j : Fin n)
    (own : ∀ t, get (f j t) = g (get t)) (others : ∀ i t, i ≠ j → get (f i t) = get t) (s : State) :
    get (forAll f s) = g (get s) := by
  have walk (xs : List (Fin n)) (distinct : xs.Nodup) (t : State) :
      get (xs.foldl (fun t i => f i t) t) = if j ∈ xs then g (get t) else get t := by
    induction xs generalizing t with
    | nil => simp
    | cons i xs ih =>
      obtain ⟨fresh, rest⟩ := List.nodup_cons.mp distinct
      rw [List.foldl_cons, ih rest]
      by_cases same : i = j
      · subst same
        simp [fresh, own]
      · simp [others i t same, Ne.symm same]
  rw [forAll, walk _ (List.nodup_finRange n), if_pos (List.mem_finRange j)]

/-! #### Site time runs (01:R1) -/

/-- The whole ns by which site time advances and the part of a ns left over make up the units gone by (01:R1). -/
theorem Timebase.advance_units (t : Timebase) (dt : Nat) :
    t.advanceNs dt * Config.secNs + t.advanceUnits dt % Config.secNs = t.advanceUnits dt :=
  Nat.div_add_mod' _ _

theorem Timebase.advanceUnits_int {t : Timebase} (h : -Config.freqMax ≤ t.freqCorr) (dt : Nat) :
    (t.advanceUnits dt : Int) = dt * (1000000000 + t.freqCorr) + t.siteFrac := by
  have positive : 0 ≤ (Config.secNs : Int) + t.freqCorr := by
    simp only [Config.freqMax, Config.secNs] at h ⊢
    omega
  unfold advanceUnits
  push_cast [Int.toNat_of_nonneg positive]
  rfl

/-- An oscillator second is a whole number of ns of site time, whatever part of a ns was left over (01:R1). -/
theorem Timebase.advanceNs_second {t : Timebase} (h : -Config.freqMax ≤ t.freqCorr) (frac : t.siteFrac < Config.secNs) :
    (t.advanceNs Config.secNs : Int) = 1000000000 + t.freqCorr := by
  have whole : t.advanceNs Config.secNs = ((Config.secNs : Int) + t.freqCorr).toNat := by
    unfold advanceNs advanceUnits
    rw [Nat.mul_add_div (by decide), Nat.div_eq_of_lt frac, Nat.add_zero]
  rw [whole]
  simp only [Config.freqMax, Config.secNs] at h ⊢
  omega

theorem elapse_frame (s : State) (dt : Nat) : s.OnlyTouches [.clock, .tb, .outs] (s.elapse dt) := by
  intro p outside
  cases p <;> first | exact absurd outside (by decide) | exact rfl | simp [State.Same]

/-- Settles O13: the advance is `Timebase.advanceNs`. -/
theorem siteTimeRuns : Obligations.SiteTimeRuns := by
  unfold Obligations.SiteTimeRuns
  rintro s u dt ⟨-, rfl⟩ range
  obtain ⟨⟨-, frac, -, -, -, low, -⟩, -⟩ := (inRange_iff s).mp range
  refine ⟨s.tb.advanceNs dt, ?_, fun second => ?_, Nat.mod_lt _ (by decide), rfl, rfl, fun i => elapse_out s dt i,
    elapse_frame s dt⟩
  · rw [← Timebase.advanceUnits_int low dt, ← s.tb.advance_units dt]
    rfl
  · subst second
    exact Timebase.advanceNs_second low frac

/-! #### Run seconds (01:R2) -/

theorem runSecond_ref (i : RefIx) : s.runSecond.ref i = (s.ref i).runSecond := by
  have entries (t : State) (same : ∀ i, t.ref i = s.ref i) :
      (forAll (fun i v => v.updRef i RefEntry.runSecond) t).ref i = (s.ref i).runSecond := by
    rw [← same i]
    exact forAll_at (get := fun v => v.ref i) i (fun v => by simp [State.updRef])
      (fun j v apart => by simp [State.updRef, setRef_ref_if, apart]) t
  have kept : s.OnlyTouches [.clock, .tb, .ports, .leases, .outs, .slots, .rooms]
      ((s.setClock { s.clock with nextRunAt := s.clock.nextRunAt + Config.secNs }).updTb fun t =>
        t.runSecond s.clock.osc).deriveClass.spentTest :=
    spentTest_touches (by simp) (by simp) (by simp) <| deriveClass_touches (by simp) (by simp) (by simp) (by simp) (by simp)
      (by simp) <| updTb_touches (by simp) (fun _ => rfl) <| setClock_touches (by simp) .rfl'
  exact entries _ fun i => kept.ref (by simp) i

theorem runSecond_clock : s.runSecond.clock = { s.clock with nextRunAt := s.clock.nextRunAt + Config.secNs } := by
  have kept : (s.setClock { s.clock with nextRunAt := s.clock.nextRunAt + Config.secNs }).OnlyTouches
      [.tb, .refs, .ports, .leases, .outs, .slots, .rooms] s.runSecond :=
    State.OnlyTouches.forAll (fun i t => updRef_touches (by simp) (fun _ => rfl) .rfl') <|
      spentTest_touches (by simp) (by simp) (by simp) <| deriveClass_touches (by simp) (by simp) (by simp) (by simp) (by simp)
        (by simp) <| updTb_touches (by simp) (fun _ => rfl) .rfl'
  exact kept.clock (by simp)

theorem TbState.inHoldover_iff (st : TbState) : st.inHoldover = true ↔ st = .holdover ∨ st = .assisted ∨ st = .spent := by
  cases st <;> decide

theorem Timebase.spentE_iff (t : Timebase) : t.spentE = true ↔ ∃ v, t.e = some v ∧ t.thrD < v := by
  unfold spentE
  cases t.e <;> simp

/-- Settles O14: `runSecond_tb`, with the record's own functions written out. -/
theorem runSecondCounts : Obligations.RunSecondCounts := by
  unfold Obligations.RunSecondCounts
  intro s u dt h
  refine ⟨fun due => ?_, fun early => ?_⟩
  · have acts : exec (.runSecond dt) s = .next u.runSecond.settle := by
      rw [exec_runSecond, event_at h, State.runSecondIfDue, if_pos due]
    refine ⟨u.runSecond.settle, acts, ?_, ?_, fun i => ?_, ?_⟩
    · rw [settle_clock]
      exact runSecond_clock
    · rw [settle_tb, runSecond_tb]
      simp only [Timebase.runSecond, TbState.inHoldover_iff, Timebase.spentE_iff, Timebase.growth, nextRunCounter]
      rfl
    · rw [settle_ref]
      exact runSecond_ref i
    · exact settle_touches (by simp) <| runSecond_touches (by simp) (by simp) (by simp) (by simp) (by simp) (by simp)
        (by simp) (by simp) .rfl'
  · refine ⟨u.settle, ?_, settle_touches (by simp) .rfl'⟩
    rw [exec_runSecond, event_at h, State.runSecondIfDue, if_neg (Nat.not_le.mpr early)]

end Sys2Proof.Machine

/-! ### Samples, measurements and the revertive switch (01, 03) -/
namespace Sys2Proof.Machine
open Sys2Proof

variable {s u : State} {dt : Nat}

/-! #### Measurements and the revertive switch (01:R19, 03:R59) -/

theorem deliverMeasurement_cons {m : Measurement} {rest : List Measurement} (h : s.wires.measurements = m :: rest) :
    s.deliverMeasurement = (s.setWires { s.wires with measurements := rest }).takeMeasurement m := by
  unfold State.deliverMeasurement
  rw [h]

theorem takeMeasurement_tb (m : Measurement) :
    (s.takeMeasurement m).tb =
      { s.tb with
        freqCorr := if s.tb.assist = some m.line then clampInt Config.freqMax (s.tb.freqCorr - m.freq) else s.tb.freqCorr } := by
  unfold State.takeMeasurement
  split <;> rfl

theorem takeMeasurement_wires (m : Measurement) : (s.takeMeasurement m).wires = s.wires :=
  (takeMeasurement_touches (ps := [.tb]) (by simp) .rfl').wires (by simp)

theorem switchIfDue_due {i : RefIx} (h : s.tb.restore = some i) (due : s.restoreDue i ≤ s.tb.runCounter) :
    s.switchIfDue = (s.selectEntry i).storeRestore := by
  unfold State.switchIfDue
  rw [h]
  exact if_pos due

theorem switchIfDue_idle (h : ∀ i, s.tb.restore = some i → ¬ s.restoreDue i ≤ s.tb.runCounter) : s.switchIfDue = s := by
  unfold State.switchIfDue
  split
  next => rfl
  next i stored => exact if_neg (h i stored)

/-- Settles O16: one case for the measurement taken or discarded, one for the switch due, one for none. -/
theorem assistAndRevertiveSwitch : Obligations.AssistAndRevertiveSwitch := by
  unfold Obligations.AssistAndRevertiveSwitch
  intro s u dt h
  refine ⟨fun m rest first => ?_, fun i stored due => ?_, fun idle => ?_⟩
  · refine ⟨u.deliverMeasurement.settle, event_at h, ?_, ?_, ?_⟩
    · rw [settle_wires, deliverMeasurement_cons first, takeMeasurement_wires, setWires_wires]
    · rw [settle_tb, deliverMeasurement_cons first, takeMeasurement_tb]
      rfl
    · exact settle_touches (by simp) <| deliverMeasurement_touches (by simp) (by simp) .rfl'
  · refine ⟨u.switchIfDue.settle, event_at h, ?_, ?_⟩
    · rw [settle_tb, switchIfDue_due stored due, storeRestore_tb, selectEntry_tb]
      rfl
    · exact settle_touches (by simp) <| switchIfDue_touches (by simp) (by simp) (by simp) .rfl'
  · have same : u.switchIfDue = u := switchIfDue_idle fun i stored due => by
      rcases idle with none | ⟨j, other, early⟩
      · rw [none] at stored
        cases stored
      · rw [other] at stored
        cases stored
        exact absurd due (Nat.not_le.mpr early)
    refine ⟨u.settle, ?_, settle_touches (by simp) .rfl'⟩
    rw [exec_revertiveSwitch, event_at h, same]

/-! #### The record after a slewed sample (01:R10, R12, R14) -/

namespace Timebase

variable {t : Timebase}

/-- Site time and frequency correction after a slewed sample (01:R10, R14). -/
theorem slew_steer_eq (t : Timebase) (o : Int) :
    ∃ n, (t.slew o).steer o =
      { t with
        siteTime := moveSite t.siteTime (clampInt t.slewLimit o)
        nextSecond := n
        freqCorr := clampInt Config.freqMax (t.freqCorr + o.tdiv 16) } := by
  unfold slew
  dsimp only
  split
  · exact ⟨_, rfl⟩
  · exact ⟨_, rfl⟩

/-- The lock run in ACQUIRING: counted to 16, at which LOCKED is entered (01:R12). -/
theorem runs_acquiring (o : Int) (st : t.state = .acquiring) :
    ∃ r, t.runs o =
      { t with
        lockRun := min 16 (if o.natAbs ≤ t.lockThreshold then t.lockRun + 1 else 0)
        state := if (if o.natAbs ≤ t.lockThreshold then t.lockRun + 1 else 0) < 16 then .acquiring else .locked
        rev := r } := by
  unfold runs
  rw [if_neg (by simp [st]), if_pos st]
  split
  next near =>
    split
    next few =>
      have few : t.lockRun + 1 < 16 := few
      rw [if_pos few, Nat.min_eq_right few.le, ← st]
      exact ⟨t.rev, rfl⟩
    next full =>
      have full : ¬ t.lockRun + 1 < 16 := full
      rw [if_neg full, Nat.min_eq_left (Nat.not_lt.mp full)]
      exact ⟨_, rfl⟩
  next far =>
    rw [if_pos (by decide), ← st]
    exact ⟨t.rev, rfl⟩

/-- The unlock run in LOCKED: counted to 4, at which ACQUIRING is entered (01:R12). -/
theorem runs_locked (o : Int) (st : t.state = .locked) :
    let run := if 4 * t.lockThreshold < o.natAbs then t.unlockRun + 1 else 0
    ∃ r, t.runs o =
      { t with
        lockRun := if run < 4 then t.lockRun else 0
        unlockRun := if run < 4 then run else 0
        lockedTime := if run < 4 then t.lockedTime else 0
        h := if run < 4 then t.h else none
        assist := if run < 4 then t.assist else none
        state := if run < 4 then .locked else .acquiring
        rev := r } := by
  unfold runs
  rw [if_pos st]
  dsimp only
  split
  next far =>
    split
    next few =>
      have few : t.unlockRun + 1 < 4 := few
      simp only [if_pos few, ← st]
      exact ⟨t.rev, rfl⟩
    next full =>
      have full : ¬ t.unlockRun + 1 < 4 := full
      simp only [if_neg full]
      exact ⟨_, rfl⟩
  next near =>
    simp only [← st]
    exact ⟨t.rev, rfl⟩

/-- The whole of a slewed sample in ACQUIRING, E and the class apart. -/
theorem slewed_acquiring (o : Int) (st : t.state = .acquiring) :
    ∃ n r, ((t.slew o).steer o).runs o =
      { t with
        siteTime := moveSite t.siteTime (clampInt t.slewLimit o)
        nextSecond := n
        freqCorr := clampInt Config.freqMax (t.freqCorr + o.tdiv 16)
        lockRun := min 16 (if o.natAbs ≤ t.lockThreshold then t.lockRun + 1 else 0)
        state := if (if o.natAbs ≤ t.lockThreshold then t.lockRun + 1 else 0) < 16 then .acquiring else .locked
        rev := r } := by
  obtain ⟨n, moved⟩ := slew_steer_eq t o
  rw [moved]
  exact ⟨n, runs_acquiring o st⟩

/-- The whole of a slewed sample in LOCKED, E and the class apart. -/
theorem slewed_locked (o : Int) (st : t.state = .locked) :
    let run := if 4 * t.lockThreshold < o.natAbs then t.unlockRun + 1 else 0
    ∃ n r, ((t.slew o).steer o).runs o =
      { t with
        siteTime := moveSite t.siteTime (clampInt t.slewLimit o)
        nextSecond := n
        freqCorr := clampInt Config.freqMax (t.freqCorr + o.tdiv 16)
        lockRun := if run < 4 then t.lockRun else 0
        unlockRun := if run < 4 then run else 0
        lockedTime := if run < 4 then t.lockedTime else 0
        h := if run < 4 then t.h else none
        assist := if run < 4 then t.assist else none
        state := if run < 4 then .locked else .acquiring
        rev := r } := by
  obtain ⟨n, moved⟩ := slew_steer_eq t o
  rw [moved]
  exact ⟨n, runs_locked o st⟩

end Timebase

/-! #### A sample taken (01:R9 to R14) -/

theorem deliverSample_cons {m : Sample} {rest : List Sample} (h : s.wires.samples = m :: rest) :
    s.deliverSample = (s.setWires { s.wires with samples := rest }).takeSample m := by
  unfold State.deliverSample
  rw [h]

theorem takeSample_taken {m : Sample} (h : s.tb.selected = some m.entry ∧ m.step = s.tb.stepNumber) :
    s.takeSample m = s.applySample m.entry m.offset := by
  unfold State.takeSample
  rw [if_pos (by simpa using h)]

theorem takeSample_discarded {m : Sample} (h : ¬ (s.tb.selected = some m.entry ∧ m.step = s.tb.stepNumber)) :
    s.takeSample m = s := by
  unfold State.takeSample
  rw [if_neg (by simpa using h)]

theorem serving_eq_false : s.serving = false ↔ ∀ l, s.leaseIn l .inService = false := by
  simp [State.serving, State.inService]

theorem steps_iff (o : Int) :
    s.steps o = true ↔ s.tb.stepThreshold < o.natAbs ∧
      (s.tb.e = none ∨ s.tb.stepPolicy = .stepAny ∨ ∀ l, s.leaseIn l .inService = false) := by
  rw [← serving_eq_false]
  simp [State.steps, State.stepAllowed, or_assoc]

/-- The record after a sample whose correction made it `b`: the E of the sample and the class of that E (01:R13). -/
theorem applySample_corrected_tb {i : RefIx} {o : Int} {b : Timebase} (corrected : (s.correct o).tb = b) :
    ∃ r, (s.applySample i o).tb =
      { b with
        e := some (sampleE (s.ref i).declaredError o)
        siteClass := ({ b with e := some (sampleE (s.ref i).declaredError o) } : Timebase).classOf
        rev := r } := by
  rw [applySample_tb, corrected]
  exact ⟨_, rfl⟩

theorem correct_slewed {o : Int} (slews : ¬ s.steps o = true) : (s.correct o).tb = ((s.tb.slew o).steer o).runs o := by
  rw [correct_tb, if_neg slews]

theorem correct_stepped {o : Int} (steps : s.steps o = true) : (s.correct o).tb = s.tb.step o := by
  rw [correct_tb, if_pos steps]

theorem applySample_wires {i : RefIx} {o : Int} : (s.applySample i o).wires = s.wires :=
  (applySample_touches (ps := [.tb, .ports, .leases, .outs, .slots, .rooms]) (by simp) (by simp) (by simp) (by simp) (by simp)
    (by simp) .rfl').wires (by simp)

/-! #### What leaves the ports and the outputs alone -/

@[simp] theorem raise_port (r : Raise) (p : PortIx) : (s.raise r).port p = s.port p := rfl
@[simp] theorem raise_out (r : Raise) (i : OutIx) : (s.raise r).out i = s.out i := rfl
@[simp] theorem updTb_port (f : Timebase → Timebase) (p : PortIx) : (s.updTb f).port p = s.port p := rfl
@[simp] theorem updTb_out (f : Timebase → Timebase) (i : OutIx) : (s.updTb f).out i = s.out i := rfl

/-! #### What a step does to the ports and the outputs (01:R11) -/

theorem Port.offer_schedule (r : Port) (f : Frame) : (r.offer f).schedule = r.schedule := by
  unfold Port.offer
  split <;> rfl

theorem putNotice_schedule {l : LeaseIx} {k : NoticeKind} {v : Int} (p : PortIx) :
    ((s.putNotice l k v).port p).schedule = (s.port p).schedule := by
  unfold State.putNotice
  split
  next => rfl
  next x _ =>
    split
    · simp only [State.offer, State.updPort, setPort_port_if]
      split
      next same => rw [Port.offer_schedule, same]
      next => rfl
    · rfl
    · rfl

theorem leaseAtClass_schedule {before after : SiteClass} {l : LeaseIx} (p : PortIx) :
    ((State.leaseAtClass before after l s).port p).schedule = (s.port p).schedule := by
  have raised {t : State} {d : Option Detail} : (t.raiseLease l .leaseDegraded d).port p = t.port p :=
    (raiseLease_touches (ps := [.slots, .rooms]) (by simp) (by simp) .rfl').port (by simp) p
  unfold State.leaseAtClass
  repeat' split
  · rfl
  · rw [raised, putNotice_schedule]
  · exact putNotice_schedule p
  all_goals rfl

/-- A change of class puts notices and moves outputs: no schedule changes. -/
theorem deriveClass_schedule (p : PortIx) : (s.deriveClass.port p).schedule = (s.port p).schedule := by
  have cross (x : SiteClass) (t : State) : ((t.crossClass x).port p).schedule = (t.port p).schedule := by
    have leases := forAll_keeps (P := fun v => (v.port p).schedule = (t.port p).schedule)
      (f := State.leaseAtClass t.tb.siteClass x) (fun l v k => (leaseAtClass_schedule p).trans k)
      (s := t.updTb fun b => { b with siteClass := x, rev := b.rev + 1 }) rfl
    refine forAll_keeps (P := fun v => (v.port p).schedule = (t.port p).schedule) (fun i v k => ?_) leases
    rw [(moveOutput_touches (ps := [.outs, .slots, .rooms]) (by simp) (by simp) (by simp) .rfl').port (by simp) p, k]
  have walk (n : Nat) (t : State) : ((t.crossings n).port p).schedule = (t.port p).schedule := by
    induction n generalizing t with
    | zero => rfl
    | succ n ih =>
      unfold State.crossings
      split
      · rfl
      · rw [ih, cross]
  exact walk 4 s

theorem dropAllSchedules_schedule (p : PortIx) : (s.dropAllSchedules.port p).schedule = [] :=
  forAll_at (get := fun t => (t.port p).schedule) (g := fun _ => []) p (fun t => by simp [State.updPort])
    (fun i t apart => by simp [State.updPort, setPort_port_if, apart]) s

theorem replanOutputs_out (i : OutIx) : s.replanOutputs.out i = (s.out i).replan s.tb.siteTime := by
  have both : (s.replanOutputs.tb.siteTime, s.replanOutputs.out i) = (s.tb.siteTime, (s.out i).replan s.tb.siteTime) :=
    forAll_at (get := fun t => (t.tb.siteTime, t.out i)) (g := fun x => (x.1, x.2.replan x.1)) i
      (fun t => by simp [State.updOut])
      (fun j t apart => by simp [State.updOut, setOut_out_if, apart]) s
  exact congrArg Prod.snd both

/-- A step empties every schedule and gives each RUNNING output its next edge after the new time (01:R11). -/
theorem applyStep_schedule (o : Int) (p : PortIx) : ((s.applyStep o).port p).schedule = [] := by
  have outputs {t : State} : t.replanOutputs.port p = t.port p :=
    (replanOutputs_touches (ps := [.outs]) (by simp) .rfl').port (by simp) p
  unfold State.applyStep
  rw [raise_port, outputs, dropAllSchedules_schedule]

theorem applyStep_out (o : Int) (i : OutIx) : (s.applyStep o).out i = (s.out i).replan (moveSite s.tb.siteTime o) := by
  have told : s.OnlyTouches [.tb, .ports, .leases] ((s.updTb fun t => t.step o).stepNotices o).dropAllSchedules :=
    dropAllSchedules_touches (by simp) <| stepNotices_touches (by simp) (by simp) <|
      updTb_touches (by simp) (fun _ => rfl) .rfl'
  unfold State.applyStep
  rw [raise_out, replanOutputs_out, told.out (by simp), dropAllSchedules_tb, stepNotices_tb]
  rfl

/-- Where the class of E is the site class already, deriving it changes nothing (01:R7). -/
theorem deriveClass_idle (h : s.tb.siteClass = s.tb.classOf) : s.deriveClass = s := by
  unfold State.deriveClass State.crossings
  exact if_pos h

theorem Output.replan_running {o : Output} {p : Plan} (now : SiteNs) (st : o.state = .running) (plan : o.plan = some p) :
    o.replan now = { o with nextEdge := some (p.after now) } := by
  unfold replan
  rw [st, plan]

theorem applySample_stepped_schedule {i : RefIx} {o : Int} (steps : s.steps o = true) (p : PortIx) :
    ((s.applySample i o).port p).schedule = [] := by
  unfold State.applySample State.correct
  rw [if_pos steps, deriveClass_schedule, updTb_port, applyStep_schedule]

/-- A step that leaves the site class where it was moves the outputs by their plans only (01:R11). -/
theorem applySample_stepped_out {i : RefIx} {o : Int} (steps : s.steps o = true)
    (same : (s.applySample i o).tb.siteClass = s.tb.siteClass) (k : OutIx) :
    (s.applySample i o).out k = (s.out k).replan (moveSite s.tb.siteTime o) := by
  have known : s.tb.siteClass =
      ({ s.tb.step o with e := some (sampleE (s.ref i).declaredError o) } : Timebase).classOf := by
    obtain ⟨r, applied⟩ := applySample_corrected_tb (i := i) (correct_stepped steps)
    rw [applied] at same
    exact same.symm
  unfold State.applySample
  rw [deriveClass_idle]
  · unfold State.correct
    rw [if_pos steps, updTb_out, applyStep_out]
  · simp only [updTb_tb, correct_stepped steps]
    exact known

/-- Settles O15: the sample discarded, slewed in ACQUIRING, slewed in LOCKED, stepped. -/
theorem sampleCorrectsSiteTime : Obligations.SampleCorrectsSiteTime := by
  unfold Obligations.SampleCorrectsSiteTime
  intro s u dt m rest h first
  have frame : u.OnlyTouches [.wires, .tb, .ports, .leases, .outs, .slots, .rooms, .pins] u.deliverSample.settle :=
    settle_touches (by simp) <| deliverSample_touches (by simp) (by simp) (by simp) (by simp) (by simp) (by simp) (by simp) .rfl'
  have delivered := deliverSample_cons first
  have takes (taken : u.tb.selected = some m.entry ∧ m.step = u.tb.stepNumber) :
      u.deliverSample = (u.setWires { u.wires with samples := rest }).applySample m.entry m.offset :=
    delivered.trans (takeSample_taken taken)
  have wires (taken : u.tb.selected = some m.entry ∧ m.step = u.tb.stepNumber) :
      u.deliverSample.settle.wires = { u.wires with samples := rest } := by
    rw [settle_wires, takes taken, applySample_wires, setWires_wires]
  have slews (small : ¬ (u.tb.stepThreshold < m.offset.natAbs ∧
      (u.tb.e = none ∨ u.tb.stepPolicy = .stepAny ∨ ∀ l, u.leaseIn l .inService = false))) :
      ¬ (u.setWires { u.wires with samples := rest }).steps m.offset = true := fun k => small ((steps_iff _).mp k)
  refine ⟨fun apart => ?_, fun taken small st => ?_, fun taken small st => ?_, fun taken large allowed => ?_⟩
  · have same : u.deliverSample = u.setWires { u.wires with samples := rest } := delivered.trans (takeSample_discarded apart)
    refine ⟨u.deliverSample.settle, event_at h, ?_, ?_⟩
    · rw [same]
      exact settle_touches (by simp) <| setWires_touches (by simp) .rfl'
    · rw [settle_wires, same, setWires_wires]
  · obtain ⟨n, r, slewed⟩ := Timebase.slewed_acquiring m.offset st
    obtain ⟨r', applied⟩ := applySample_corrected_tb (i := m.entry) ((correct_slewed (slews small)).trans slewed)
    refine ⟨u.deliverSample.settle, event_at h, wires taken, ?_, frame⟩
    rw [settle_tb, takes taken, applied]
    rfl
  · obtain ⟨n, r, slewed⟩ := Timebase.slewed_locked m.offset st
    obtain ⟨r', applied⟩ := applySample_corrected_tb (i := m.entry) ((correct_slewed (slews small)).trans slewed)
    refine ⟨u.deliverSample.settle, event_at h, wires taken, ?_, frame⟩
    rw [settle_tb, takes taken, applied]
    rfl
  · have steps : (u.setWires { u.wires with samples := rest }).steps m.offset = true := (steps_iff _).mpr ⟨large, allowed⟩
    refine ⟨u.deliverSample.settle, event_at h, wires taken, ?_, fun p => ?_, fun same i st p plan => ?_, frame⟩
    · obtain ⟨r, applied⟩ := applySample_corrected_tb (i := m.entry) (correct_stepped steps)
      rw [settle_tb, takes taken, applied]
      rfl
    · rw [settle_port, takes taken, applySample_stepped_schedule steps]
    · rw [settle_tb, takes taken] at same
      rw [settle_out, takes taken, applySample_stepped_out steps same]
      exact Output.replan_running _ st plan

end Sys2Proof.Machine

/-! ### Faults and the loss of the selected reference (02:R38, R39; 03:R54, R55) -/
namespace Sys2Proof.Machine
open Sys2Proof

variable {s t u : State} {dt : Nat}

/-! #### The best candidate (03:R51) -/

theorem ranksBetter_asymm {i j : RefIx} (h : s.ranksBetter i j = true) : s.ranksBetter j i = false := by
  simp only [State.ranksBetter, Bool.or_eq_true, Bool.and_eq_true, decide_eq_true_eq, Bool.or_eq_false_iff,
    Bool.and_eq_false_iff, decide_eq_false_iff_not, Fin.lt_def] at h ⊢
  omega

theorem ranksBetter_irrefl (i : RefIx) : s.ranksBetter i i = false := by
  cases h : s.ranksBetter i i
  · rfl
  · exact h.symm.trans (ranksBetter_asymm h)

/-- The better of the best so far and a further entry (03:R51). -/
def State.better (s : State) (best : Option RefIx) (i : RefIx) : Option RefIx :=
  if s.candidate i then
    match best with
    | none => some i
    | some b => if s.ranksBetter i b then some i else some b
  else best

theorem bestCandidate_eq (s : State) : s.bestCandidate = (List.finRange 8).foldl s.better none := rfl

/-- A candidate that ranks better than every other is the best candidate. -/
theorem bestCandidate_of_best {j : RefIx} (cand : s.candidate j = true)
    (best : ∀ k, k ≠ j → s.candidate k = true → s.ranksBetter j k = true) : s.bestCandidate = some j := by
  have stays (xs : List RefIx) : xs.foldl s.better (some j) = some j := by
    induction xs with
    | nil => rfl
    | cons k xs ih =>
      have kept : s.better (some j) k = some j := by
        unfold State.better
        split
        next other =>
          have worse : s.ranksBetter k j = false := by
            by_cases same : k = j
            · rw [same]; exact ranksBetter_irrefl j
            · exact ranksBetter_asymm (best k same other)
          simp [worse]
        next => rfl
      rw [List.foldl_cons, kept, ih]
  have taken {b : Option RefIx} (hb : ∀ k, b = some k → k = j ∨ s.ranksBetter j k = true) : s.better b j = some j := by
    unfold State.better
    rw [if_pos cand]
    cases b with
    | none => rfl
    | some k =>
      rcases hb k rfl with rfl | wins
      · simp
      · simp [wins]
  have reaches (xs : List RefIx) (b : Option RefIx) (hb : ∀ k, b = some k → k = j ∨ s.ranksBetter j k = true)
      (mem : j ∈ xs) : xs.foldl s.better b = some j := by
    induction xs generalizing b with
    | nil => cases mem
    | cons k xs ih =>
      rw [List.foldl_cons]
      by_cases same : k = j
      · rw [same, taken hb, stays]
      · refine ih _ (fun m hm => ?_) ((List.mem_cons.mp mem).resolve_left (Ne.symm same))
        unfold State.better at hm
        split at hm
        next other =>
          split at hm
          next =>
            cases hm
            exact .inr (best k same other)
          next b =>
            split at hm
            · cases hm
              exact .inr (best k same other)
            · cases hm
              exact hb m rfl
        next => exact hb m hm
  exact reaches _ _ (fun k hk => nomatch hk) (List.mem_finRange j)

theorem bestCandidate_none (h : ∀ k, s.candidate k = false) : s.bestCandidate = none := by
  rw [bestCandidate_eq]
  generalize List.finRange 8 = xs
  induction xs with
  | nil => rfl
  | cons k xs ih => simpa [State.better, h k] using ih

/-- The best entry selected has no restore candidate above it (03:R58). -/
theorem restoreNow_of_best {j : RefIx} (sel : s.tb.selected = some j) (best : s.bestCandidate = some j) :
    s.restoreNow = none := by
  unfold State.restoreNow
  rw [sel, best]
  split
  next same other =>
    cases same
    cases other
    simp [ranksBetter_irrefl]
  next => rfl

/-! #### A fault, step by step (02:R38, R39) -/

/-- The fault of entry `i` before the timebase hears of it: the entry, a bound lease that a lockout suspends, the alarms. -/
def State.faultReported (s : State) (i : RefIx) (cause : FaultCause) : State :=
  ((s.updRef i fun e => e.faulted cause).lockoutReport i).raiseFault i

theorem faultRef_usable {i : RefIx} {cause : FaultCause} (usable : (s.ref i).state = .usable) :
    s.faultRef i cause =
      ((s.faultReported i cause).announceLeft i).lockoutChoice (s.updRef i fun e => e.faulted cause) i := by
  have live : (s.ref i).live = true := by simp [RefEntry.live, usable]
  unfold State.faultRef
  rw [if_pos live]
  dsimp only
  rw [if_pos usable]
  rfl

theorem faultRef_qualifying {i : RefIx} {cause : FaultCause} (qualifying : (s.ref i).state = .qualifying) :
    s.faultRef i cause = (s.faultReported i cause).lockoutChoice (s.updRef i fun e => e.faulted cause) i := by
  have live : (s.ref i).live = true := by simp [RefEntry.live, qualifying]
  unfold State.faultRef
  rw [if_pos live]
  dsimp only
  rw [if_neg (by simp [qualifying])]
  rfl

theorem faultReported_frame (s : State) (i : RefIx) (cause : FaultCause) :
    (s.updRef i fun e => e.faulted cause).OnlyTouches [.ports, .leases, .leaseCore, .slots, .rooms] (s.faultReported i cause) :=
  raiseFault_touches (by simp) (by simp) <| lockoutReport_touches (by simp) (by simp) (by simp) (by simp) (by simp) .rfl'

theorem faultReported_tb (i : RefIx) (cause : FaultCause) : (s.faultReported i cause).tb = s.tb :=
  (faultReported_frame s i cause).tb (by simp)

theorem faultReported_ref (i j : RefIx) (cause : FaultCause) :
    (s.faultReported i cause).ref j = if i = j then (s.ref i).faulted cause else s.ref j := by
  rw [(faultReported_frame s i cause).ref (by simp), State.updRef, setRef_ref_if]

theorem lockoutChoice_tb {before : State} {i : RefIx} : (s.lockoutChoice before i).tb = s.tb :=
  (lockoutChoice_touches (ps := [.ports]) (by simp) .rfl').tb (by simp)

theorem lockoutChoice_ref {before : State} {i j : RefIx} : (s.lockoutChoice before i).ref j = s.ref j :=
  (lockoutChoice_touches (ps := [.ports]) (by simp) .rfl').ref (by simp) j

theorem announceLeft_ref {i j : RefIx} : (s.announceLeft i).ref j = s.ref j :=
  (announceLeft_touches (ps := [.tb, .ports, .leases, .outs, .slots, .rooms]) (by simp) (by simp) (by simp) (by simp) (by simp)
    (by simp) .rfl').ref (by simp) j

/-- A fault of a live entry changes that entry of the table and no other. -/
theorem faultRef_ref {i : RefIx} {cause : FaultCause} (live : (s.ref i).live = true) (j : RefIx) :
    (s.faultRef i cause).ref j = if i = j then (s.ref i).faulted cause else s.ref j := by
  have known : (s.ref i).state = .qualifying ∨ (s.ref i).state = .usable := by simpa [RefEntry.live] using live
  rcases known with qualifying | usable
  · rw [faultRef_qualifying qualifying, lockoutChoice_ref, faultReported_ref]
  · rw [faultRef_usable usable, lockoutChoice_ref, announceLeft_ref, faultReported_ref]

/-! #### What selection reads of the entries -/

theorem candidate_congr {i : RefIx} (h : s.ref i = t.ref i) : s.candidate i = t.candidate i := by
  simp only [State.candidate, h]

theorem ranksBetter_congr {i j : RefIx} (hi : s.ref i = t.ref i) (hj : s.ref j = t.ref j) :
    s.ranksBetter i j = t.ranksBetter i j := by
  simp only [State.ranksBetter, hi, hj]

theorem bestCandidate_congr (h : ∀ i, s.ref i = t.ref i) : s.bestCandidate = t.bestCandidate := by
  have same : s.better = t.better := by
    funext best i
    unfold State.better
    rw [candidate_congr (h i)]
    split
    next => cases best with
      | none => rfl
      | some b => simp only [ranksBetter_congr (h i) (h b)]
    next => rfl
  rw [bestCandidate_eq, bestCandidate_eq, same]

theorem bestLine_congr (h : ∀ l : LineInput, s.ref l.entry = t.ref l.entry) : s.bestLine = t.bestLine := by
  have four : s.ref 4 = t.ref 4 := h .four
  have five : s.ref 5 = t.ref 5 := h .five
  unfold State.bestLine State.assistable
  rw [h .four, h .five, four, five]

/-! #### The selected reference is lost (03:R54, R55) -/

theorem Timebase.unforce_eq (b : Timebase) (i : RefIx) :
    ∃ r, b.unforce i = { b with forced := if b.forced = some i then none else b.forced, rev := r } := by
  unfold unforce
  split
  · exact ⟨_, rfl⟩
  · exact ⟨b.rev, rfl⟩

theorem selectEntry_ref (i j : RefIx) : (s.selectEntry i).ref j = s.ref j :=
  (selectEntry_touches (ps := [.tb, .slots, .rooms]) (by simp) (by simp) (by simp) .rfl').ref (by simp) j

/-- The best candidate selected leaves no restore candidate (03:R53, R58). -/
theorem selectEntry_reworkRestore_tb {j : RefIx} (best : s.bestCandidate = some j) :
    (s.selectEntry j).reworkRestore.tb = { s.tb.acquire (some j) with restore := none } := by
  have none_left : (s.selectEntry j).restoreNow = none :=
    restoreNow_of_best (by rw [selectEntry_tb]; rfl) ((bestCandidate_congr (selectEntry_ref j)).trans best)
  have stored : (s.selectEntry j).storeRestore.tb.restore = none := none_left
  unfold State.reworkRestore
  rw [switchIfDue_idle (fun i some => by rw [stored] at some; cases some), storeRestore_tb, none_left, selectEntry_tb]

/-- Another candidate: the best of them is selected (03:R54). -/
theorem loseSelected_selects {i j : RefIx} (best : s.bestCandidate = some j) :
    ∃ r, (s.loseSelected i).tb =
      { s.tb with
        state := .acquiring, selected := some j, forced := if s.tb.forced = some i then none else s.tb.forced, assist := none
        lockRun := 0, unlockRun := 0, lockedTime := 0, h := none, restore := none, rev := r } := by
  have same : (s.updTb fun b => b.unforce i).bestCandidate = some j := best
  obtain ⟨r, unforced⟩ := s.tb.unforce_eq i
  unfold State.loseSelected
  dsimp only
  rw [same]
  dsimp only
  rw [selectEntry_reworkRestore_tb same, updTb_tb, unforced]
  exact ⟨_, rfl⟩

/-- No other candidate, after a lock long enough and with E known: holdover (01:R15, 03:R55). -/
theorem loseSelected_holds {i : RefIx} (best : s.bestCandidate = none)
    (long : s.tb.minLockTime ≤ s.tb.lockedTime ∧ s.tb.e.isSome) :
    ∃ r, (s.loseSelected i).tb =
      { s.tb with
        state := s.tb.holdoverState s.bestLine, selected := none
        forced := if s.tb.forced = some i then none else s.tb.forced, assist := s.bestLine, lockRun := 0, unlockRun := 0
        h := some 0, restore := none, rev := r } := by
  have same : (s.updTb fun b => b.unforce i).bestCandidate = none := best
  have lines : (s.updTb fun b => b.unforce i).bestLine = s.bestLine := rfl
  obtain ⟨r, unforced⟩ := s.tb.unforce_eq i
  unfold State.loseSelected
  dsimp only
  rw [same]
  dsimp only
  rw [updTb_tb, unforced, if_pos (by simpa using long), enterHoldover_tb, updTb_tb, lines, unforced]
  exact ⟨_, rfl⟩

/-- No other candidate and no such lock: FREE-RUN (01:R21, 03:R55). -/
theorem loseSelected_frees {i : RefIx} (best : s.bestCandidate = none)
    (short : ¬ (s.tb.minLockTime ≤ s.tb.lockedTime ∧ s.tb.e.isSome)) :
    ∃ r, (s.loseSelected i).tb =
      { s.tb with
        state := .freeRun, siteClass := .none, selected := none
        forced := if s.tb.forced = some i then none else s.tb.forced, assist := none, lockRun := 0, unlockRun := 0, h := none
        e := none, restore := none, rev := r } := by
  have same : (s.updTb fun b => b.unforce i).bestCandidate = none := best
  obtain ⟨r, unforced⟩ := s.tb.unforce_eq i
  unfold State.loseSelected
  dsimp only
  rw [same]
  dsimp only
  rw [updTb_tb, unforced, if_neg (by simpa using short), enterFreeRun_tb, updTb_tb, unforced]
  exact ⟨_, rfl⟩

/-! #### A missing sample of the selected reference (02:R30) -/

theorem missingExpires_due {i : RefIx} {since : Nat} (started : (s.ref i).missingSince = some since)
    (due : since + Config.missingNs ≤ s.clock.osc) : s.missingExpires i = s.faultRef i .missing := by
  unfold State.missingExpires State.missingDue
  rw [started]
  exact if_pos (by simpa using due)

theorem faulted_not_candidate (i : RefIx) (cause : FaultCause) : (s.faultReported i cause).candidate i = false := by
  unfold State.candidate
  rw [faultReported_ref, if_pos rfl]
  unfold RefEntry.faulted
  dsimp only
  split <;> simp

/-- The record after a fault of the selected reference: that of its loss (03:R54). -/
theorem faultRef_selected_tb {i : RefIx} {cause : FaultCause} (usable : (s.ref i).state = .usable)
    (sel : s.tb.selected = some i) : (s.faultRef i cause).tb = ((s.faultReported i cause).loseSelected i).tb := by
  rw [faultRef_usable usable, lockoutChoice_tb]
  unfold State.announceLeft
  rw [if_pos (by rw [faultReported_tb]; exact sel)]

/-- Settles O17: the three ways on from a lost reference, each from the state that its fault has left. -/
theorem lossOfTheSelectedReference : Obligations.LossOfTheSelectedReference := by
  unfold Obligations.LossOfTheSelectedReference
  intro s u dt i since h sel usable four five started due
  have frame : u.OnlyTouches Part.ofFault (u.missingExpires i).settle :=
    settle_touches (by decide) <| missingExpires_touches (by decide) (by decide) (by decide) (by decide) (by decide) (by decide)
      (by decide) (by decide) .rfl'
  have record : (u.missingExpires i).settle.tb = ((u.faultReported i .missing).loseSelected i).tb := by
    rw [settle_tb, missingExpires_due started due, faultRef_selected_tb usable sel]
  have others {j : RefIx} (apart : j ≠ i) : (u.faultReported i .missing).ref j = u.ref j := by
    rw [faultReported_ref, if_neg (Ne.symm apart)]
  have lines : (u.faultReported i .missing).bestLine = u.bestLine :=
    bestLine_congr fun l => others (by cases l; exacts [Ne.symm four, Ne.symm five])
  have none_left (alone : ∀ j, j ≠ i → u.candidate j = false) : (u.faultReported i .missing).bestCandidate = none :=
    bestCandidate_none fun j => by
      by_cases own : j = i
      · rw [own, faulted_not_candidate]
      · rw [candidate_congr (others own), alone j own]
  have before := faultReported_tb (s := u) i .missing
  refine ⟨fun j apart cand best => ?_, fun alone long => ?_, fun alone short => ?_⟩
  · have chosen : (u.faultReported i .missing).bestCandidate = some j :=
      bestCandidate_of_best ((candidate_congr (others apart)).trans cand) fun k other candk => by
        have own : k ≠ i := by
          rintro rfl
          rw [faulted_not_candidate] at candk
          cases candk
        rw [ranksBetter_congr (others apart) (others own)]
        exact best k own other ((candidate_congr (others own)).symm.trans candk)
    obtain ⟨r, lost⟩ := loseSelected_selects (i := i) chosen
    refine ⟨(u.missingExpires i).settle, (exec_missingSampleTimerExpiry dt i).trans (event_at h), frame, ?_⟩
    rw [record, lost, before]
  · obtain ⟨r, lost⟩ := loseSelected_holds (i := i) (none_left alone) (by rw [before]; exact long)
    refine ⟨(u.missingExpires i).settle, (exec_missingSampleTimerExpiry dt i).trans (event_at h), frame, ?_⟩
    rw [record, lost, before, lines]
    rfl
  · obtain ⟨r, lost⟩ := loseSelected_frees (i := i) (none_left alone) (by rw [before]; exact short)
    refine ⟨(u.missingExpires i).settle, (exec_missingSampleTimerExpiry dt i).trans (event_at h), frame, ?_⟩
    rw [record, lost, before]

end Sys2Proof.Machine

/-! ### The consistency check (02:R44) -/
namespace Sys2Proof.Machine
open Sys2Proof

variable {s u : State} {dt : Nat}

theorem phaseCapable_iff (i : RefIx) : phaseCapable i = true ↔ i ≠ 4 ∧ i ≠ 5 := by
  revert i
  decide

/-- A fresh last offset that the check judges (02:R44). -/
theorem judged_iff {i : RefIx} {o : Int} :
    s.judged i = some o ↔ (s.ref i).state = .usable ∧ i ≠ 4 ∧ i ≠ 5 ∧ s.tb.selected ≠ some i ∧
      ∃ x, (s.ref i).lastOffset = some x ∧ x.value = o ∧ s.clock.osc ≤ x.formedAt + 1250000000 ∧ x.step = s.tb.stepNumber := by
  unfold State.judged State.fresh
  dsimp only
  cases (s.ref i).lastOffset with
  | none => simp
  | some x =>
    simp only [Option.ite_none_right_eq_some, Bool.and_eq_true, decide_eq_true_eq, phaseCapable_iff, Option.some.injEq,
      exists_eq_left']
    simp only [Config.missingNs]
    tauto

/-- A member of the deviant set: judged, and off by more than the wander limit (02:R44). -/
theorem mem_deviants {d : RefIx × Int} : d ∈ s.deviants ↔ s.judged d.1 = some d.2 ∧ s.tb.wanderLimit < d.2.natAbs := by
  obtain ⟨i, o⟩ := d
  simp only [State.deviants, List.mem_filterMap, List.mem_finRange, true_and]
  constructor
  · rintro ⟨j, hj⟩
    split at hj
    next => cases hj
    next q judged =>
      obtain ⟨off, same⟩ := Option.ite_none_right_eq_some.mp hj
      cases same
      exact ⟨judged, off⟩
  · rintro ⟨judged, off⟩
    exact ⟨i, by simp only [judged]; exact if_pos off⟩

/-- An entry is in the deviant set once. -/
theorem deviants_apart : s.deviants.Pairwise fun d d' => d.1 ≠ d'.1 := by
  refine List.Pairwise.filterMap _ (fun i j apart d hd d' hd' => ?_) (List.nodup_finRange 8)
  have first {i : RefIx} {d : RefIx × Int}
      (hd : (match s.judged i with | none => none | some o => if s.tb.wanderLimit < o.natAbs then some (i, o) else none) = some d) :
      d.1 = i := by
    split at hd
    next => cases hd
    next => rw [← Option.some.inj (Option.ite_none_right_eq_some.mp hd).2]
  rw [first hd, first hd']
  exact apart

theorem agreeWithin_iff {limit : Nat} {ds : List (RefIx × Int)} :
    agreeWithin limit ds = true ↔ ∃ d ∈ ds, ∃ d' ∈ ds, d.1 ≠ d'.1 ∧ (d.2 - d'.2).natAbs ≤ limit := by
  simp only [agreeWithin, List.any_eq_true, Bool.and_eq_true, decide_eq_true_eq]
  constructor
  · rintro ⟨d, hd, d', hd', before, near⟩
    exact ⟨d, hd, d', hd', Fin.ne_of_lt before, near⟩
  · rintro ⟨d, hd, d', hd', apart, near⟩
    rcases Fin.lt_or_lt_of_ne apart with before | before
    · exact ⟨d, hd, d', hd', before, near⟩
    · exact ⟨d', hd', d, hd, before, by omega⟩

/-- Live entries, each named once, fault one after another (02:R44). -/
theorem faultDeviants_ref {ds : List (RefIx × Int)} (apart : ds.Pairwise fun d d' => d.1 ≠ d'.1)
    (live : ∀ d ∈ ds, (s.ref d.1).live = true) (i : RefIx) :
    (ds.foldl (fun t d => t.faultRef d.1 .wander) s).ref i =
      if ∃ d ∈ ds, d.1 = i then (s.ref i).faulted .wander else s.ref i := by
  induction ds generalizing s with
  | nil => simp
  | cons d ds ih =>
    obtain ⟨fresh, rest⟩ := List.pairwise_cons.mp apart
    have own := live d List.mem_cons_self
    have later : ∀ d' ∈ ds, ((s.faultRef d.1 .wander).ref d'.1) = s.ref d'.1 := fun d' mem => by
      rw [faultRef_ref own, if_neg (fresh d' mem)]
    rw [List.foldl_cons, ih rest fun d' mem => by rw [later d' mem]; exact live d' (List.mem_cons_of_mem _ mem)]
    by_cases named : ∃ d' ∈ ds, d'.1 = i
    · obtain ⟨d', mem, rfl⟩ := named
      rw [if_pos ⟨d', mem, rfl⟩, if_pos ⟨d', List.mem_cons_of_mem _ mem, rfl⟩, later d' mem]
    · rw [if_neg named, faultRef_ref own]
      by_cases first : d.1 = i
      · rw [if_pos first, if_pos ⟨d, List.mem_cons_self, first⟩, first]
      · have unnamed : ¬ ∃ d' ∈ d :: ds, d'.1 = i := by
          rintro ⟨d', mem, same⟩
          rcases List.mem_cons.mp mem with rfl | mem
          · exact first same
          · exact named ⟨d', mem, same⟩
        rw [if_neg first, if_neg unnamed]

theorem deviant_live {d : RefIx × Int} (h : d ∈ s.deviants) : (s.ref d.1).live = true := by
  obtain ⟨judged, -⟩ := mem_deviants.mp h
  obtain ⟨usable, -⟩ := judged_iff.mp judged
  simp [RefEntry.live, usable]

theorem checkConsistency_locked {sel : RefIx} (locked : s.tb.state = .locked) (selected : s.tb.selected = some sel)
    (usable : (s.ref sel).state = .usable) :
    s.checkConsistency = if agreeWithin s.tb.wanderLimit s.deviants then s.faultRef sel .outvoted
      else s.deviants.foldl (fun t d => t.faultRef d.1 .wander) s := by
  unfold State.checkConsistency
  rw [locked, selected]
  exact if_pos usable

/-- The state that the consistency check of the boundary of second `n` sees: MARKs queued and symbols scheduled (01:R3). -/
def State.beforeCheck (s : State) (n : Nat) : State :=
  ((s.updTb fun b => { b with nextSecond := (n + 1) % Config.secMod, lastBoundary := n }).queueMarks n).scheduleSymbols n

theorem boundaryIfDue_reached (reached : s.tb.secondReached = true) :
    s.boundaryIfDue = (s.beforeCheck s.tb.boundarySecond).checkConsistency := by
  unfold State.boundaryIfDue
  exact if_pos reached

theorem boundaryIfDue_early (early : ¬ s.tb.secondReached = true) : s.boundaryIfDue = s := by
  unfold State.boundaryIfDue
  exact if_neg early

theorem beforeCheck_frame (s : State) (n : Nat) :
    (s.updTb fun b => { b with nextSecond := (n + 1) % Config.secMod, lastBoundary := n }).OnlyTouches [.ports]
      (s.beforeCheck n) :=
  scheduleSymbols_touches (by simp) <| queueMarks_touches (by simp) .rfl'

theorem beforeCheck_tb (n : Nat) :
    (s.beforeCheck n).tb = { s.tb with nextSecond := (n + 1) % Config.secMod, lastBoundary := n } :=
  (beforeCheck_frame s n).tb (by simp)

theorem beforeCheck_ref (n : Nat) (i : RefIx) : (s.beforeCheck n).ref i = s.ref i := (beforeCheck_frame s n).ref (by simp) i

theorem beforeCheck_clock (n : Nat) : (s.beforeCheck n).clock = s.clock := (beforeCheck_frame s n).clock (by simp)

/-- The check sees the entries, their offsets and the selection as they were at the boundary. -/
theorem beforeCheck_judged (n : Nat) (i : RefIx) : (s.beforeCheck n).judged i = s.judged i :=
  Option.ext fun o => by rw [judged_iff, judged_iff, beforeCheck_ref, beforeCheck_clock, beforeCheck_tb]

/-- Settles O19: the selected reference outvoted, or every deviant faulted. -/
theorem consistencyCheckFaults : Obligations.ConsistencyCheckFaults := by
  unfold Obligations.ConsistencyCheckFaults
  intro s u dt sel h reached locked selected usable deviant agree
  have frame : u.OnlyTouches Part.ofFault u.boundaryIfDue.settle :=
    settle_touches (by decide) <| boundaryIfDue_touches (by decide) (by decide) (by decide) (by decide) (by decide) (by decide)
      (by decide) (by decide) .rfl'
  set v := u.beforeCheck u.tb.boundarySecond with hv
  have record : v.tb = { u.tb with nextSecond := (u.tb.boundarySecond + 1) % Config.secMod, lastBoundary := u.tb.boundarySecond } :=
    beforeCheck_tb _
  have member {i : RefIx} {o : Int} : (i, o) ∈ v.deviants ↔ deviant i o := by
    rw [mem_deviants, hv, beforeCheck_judged, judged_iff, ← hv, record, selected]
    constructor
    · rintro ⟨⟨st, four, five, other, formed⟩, off⟩
      exact ⟨st, four, five, fun same => other (by rw [same]), formed, off⟩
    · rintro ⟨st, four, five, other, formed, off⟩
      exact ⟨⟨st, four, five, fun same => other (Option.some.inj same).symm, formed⟩, off⟩
  have agrees : agreeWithin v.tb.wanderLimit v.deviants = true ↔ agree := by
    rw [agreeWithin_iff, record]
    constructor
    · rintro ⟨⟨i, o⟩, hi, ⟨j, q⟩, hj, apart, near⟩
      exact ⟨i, j, o, q, apart, member.mp hi, member.mp hj, near⟩
    · rintro ⟨i, j, o, q, apart, hi, hj, near⟩
      exact ⟨(i, o), member.mpr hi, (j, q), member.mpr hj, apart, near⟩
  have check : u.boundaryIfDue = if agreeWithin v.tb.wanderLimit v.deviants then v.faultRef sel .outvoted
      else v.deviants.foldl (fun t d => t.faultRef d.1 .wander) v := by
    rw [boundaryIfDue_reached reached, ← hv]
    exact checkConsistency_locked (by rw [record]; exact locked) (by rw [record]; exact selected)
      (by rw [hv, beforeCheck_ref]; exact usable)
  have entry (i : RefIx) : v.ref i = u.ref i := beforeCheck_ref _ i
  refine ⟨u.boundaryIfDue.settle, (exec_siteSecondBoundary dt).trans (event_at h), frame, fun yes => ?_, fun no i => ?_⟩
  · have live : (v.ref sel).live = true := by simp [RefEntry.live, entry, usable]
    rw [check, if_pos (agrees.mpr yes)]
    refine ⟨?_, fun i apart => ?_⟩
    · rw [settle_ref, faultRef_ref live, if_pos rfl, entry]
    · rw [settle_ref, faultRef_ref live, if_neg (Ne.symm apart), entry]
  · rw [check, if_neg (fun k => no (agrees.mp k)), settle_ref, faultDeviants_ref deviants_apart fun d => deviant_live, entry]
    refine ⟨fun ⟨o, off⟩ => if_pos ⟨(i, o), member.mpr off, rfl⟩, fun fine => if_neg ?_⟩
    rintro ⟨⟨j, o⟩, mem, rfl⟩
    exact fine o (member.mp mem)

end Sys2Proof.Machine

/-! ### The site second boundary (01:R3, 04:R71, 07:R121) -/
namespace Sys2Proof.Machine
open Sys2Proof

variable {s u : State} {dt : Nat}

/-! #### What a walk of the leases appends at a port -/

/-- A walk whose turn for lease `l` appends at port `p` what `item` reads of the lease, and touches the ports only, appends what all
the leases give, in index order. -/
theorem walk_appends {α : Type} {turn : LeaseIx → State → State} {item : State → LeaseIx → Option α}
    {app : Port → List α → Port} (p : PortIx) (app_nil : ∀ r, app r [] = r)
    (app_append : ∀ r xs ys, app (app r xs) ys = app r (xs ++ ys))
    (own : ∀ l t, (turn l t).port p = app (t.port p) (item t l).toList)
    (kept : ∀ l t, item (turn l t) = item t) (s : State) :
    (forAll turn s).port p = app (s.port p) ((List.finRange 32).filterMap (item s)) := by
  unfold forAll
  generalize List.finRange 32 = ls
  induction ls generalizing s with
  | nil => exact (app_nil _).symm
  | cons l ls ih =>
    rw [List.foldl_cons, ih, own, kept, app_append, List.filterMap_cons]
    cases item s l <;> rfl

/-- The MARK that lease `l` gives port `p` at the boundary of second `n` (07:R121). -/
def State.markAt (s : State) (n : Nat) (p : PortIx) (l : LeaseIx) : Option Frame :=
  (s.lease l).bind fun x => if x.state = .inService ∧ x.port = p then some (s.markFrame n l x) else none

/-- The boundary symbol that lease `l` gives port `p` at the boundary of second `n` (04:R71). -/
def State.symbolAt (s : State) (n : Nat) (p : PortIx) (l : LeaseIx) : Option SymbolEntry :=
  (s.lease l).bind fun x => if x.state = .inService ∧ x.port = p then some (symbolFor n l x s.tb.stepNumber) else none

/-- A port after the frames of a list were offered to it in turn (04:R73). -/
def Port.offerAll (r : Port) (fs : List Frame) : Port := fs.foldl Port.offer r

/-- A port after the entries of a list were scheduled. -/
def Port.scheduleAll (r : Port) (es : List SymbolEntry) : Port := { r with schedule := r.schedule ++ es }

theorem markAt_congr {t : State} {n : Nat} {p : PortIx} (h : s.OnlyTouches [.ports] t) : t.markAt n p = s.markAt n p := by
  funext l
  simp only [State.markAt, State.markFrame, h.lease (by simp), h.tb (by simp)]

theorem symbolAt_congr {t : State} {n : Nat} {p : PortIx} (h : s.OnlyTouches [.ports] t) :
    t.symbolAt n p = s.symbolAt n p := by
  funext l
  simp only [State.symbolAt, h.lease (by simp), h.tb (by simp)]

theorem queueMarks_port (n : Nat) (p : PortIx) :
    (s.queueMarks n).port p = (s.port p).offerAll ((List.finRange 32).filterMap (s.markAt n p)) := by
  unfold State.queueMarks
  refine walk_appends (item := fun t => t.markAt n p) (app := Port.offerAll) p (fun r => rfl)
    (fun r xs ys => (List.foldl_append ..).symm) (fun l t => ?_) (fun l t => ?_) s
  · unfold State.markAt
    cases hx : t.lease l with
    | none => rfl
    | some x =>
      by_cases serving : x.state = .inService
      · by_cases here : x.port = p
        · simp [serving, here, State.offer, State.updPort, Port.offerAll]
        · simp [serving, here, State.offer, State.updPort, setPort_port_if, Port.offerAll]
      · simp [serving, Port.offerAll]
  · refine markAt_congr ?_
    cases hx : t.lease l with
    | none => exact .rfl'
    | some x =>
      dsimp only
      split
      · exact offer_touches (by simp) .rfl'
      · exact .rfl'

theorem scheduleSymbols_port (n : Nat) (p : PortIx) :
    (s.scheduleSymbols n).port p = (s.port p).scheduleAll ((List.finRange 32).filterMap (s.symbolAt n p)) := by
  unfold State.scheduleSymbols
  refine walk_appends (item := fun t => t.symbolAt n p) (app := Port.scheduleAll) p (fun r => by simp [Port.scheduleAll])
    (fun r xs ys => by simp [Port.scheduleAll]) (fun l t => ?_) (fun l t => ?_) s
  · unfold State.symbolAt
    cases hx : t.lease l with
    | none => simp [Port.scheduleAll]
    | some x =>
      by_cases serving : x.state = .inService
      · by_cases here : x.port = p
        · simp [serving, here, State.updPort, Port.scheduleAll]
        · simp [serving, here, State.updPort, setPort_port_if, Port.scheduleAll]
      · simp [serving, Port.scheduleAll]
  · refine symbolAt_congr ?_
    cases hx : t.lease l with
    | none => exact .rfl'
    | some x =>
      dsimp only
      split
      · exact updPort_touches (by simp) (fun _ => rfl) (.inr fun _ => rfl) .rfl'
      · exact .rfl'

/-! #### A queue takes frames while there is room (04:R73) -/

theorem Port.offer_eq {r : Port} (f : Frame) (room : r.queue.length ≤ 16) :
    r.offer f = { r with queue := if r.state = .opened then (r.queue ++ [f]).take 16 else r.queue } := by
  unfold Port.offer Port.offering Config.queueMax
  by_cases opened : r.state = .opened
  · by_cases few : r.queue.length < 16
    · have whole : (r.queue ++ [f]).take 16 = r.queue ++ [f] := List.take_of_length_le (by simp; omega)
      rw [if_pos opened, if_pos few, if_pos opened, whole]
    · have full : (r.queue ++ [f]).take 16 = r.queue := List.take_left' (by omega)
      rw [if_pos opened, if_neg few, if_pos opened, full]
  · rw [if_neg opened, if_neg opened]

/-- Cutting a list first does not change what its continuation is cut to. -/
theorem take_take_append {α : Type} (n : Nat) (xs ys : List α) : (xs.take n ++ ys).take n = (xs ++ ys).take n := by
  have left : n - min n xs.length = n - xs.length := by omega
  rw [List.take_append, List.take_append, List.take_take, Nat.min_self, List.length_take, left]

theorem Port.offerAll_eq {r : Port} (fs : List Frame) (room : r.queue.length ≤ 16) :
    r.offerAll fs = { r with queue := if r.state = .opened then (r.queue ++ fs).take 16 else r.queue } := by
  induction fs generalizing r with
  | nil =>
    have whole : (r.queue ++ []).take 16 = r.queue := by rw [List.append_nil, List.take_of_length_le room]
    rw [whole, ite_self]
    rfl
  | cons f fs ih =>
    have step : r.offerAll (f :: fs) = (r.offer f).offerAll fs := rfl
    rw [step, ih (Port.offer_queue_le room), offer_eq f room]
    by_cases opened : r.state = .opened
    · simp only [if_pos opened, take_take_append, List.append_assoc, List.singleton_append]
    · simp only [if_neg opened]

/-! #### The boundary -/

theorem beforeCheck_port (n : Nat) (p : PortIx) (room : (s.port p).queue.length ≤ 16) :
    (s.beforeCheck n).port p = { s.port p with
      queue := if (s.port p).state = .opened then
        ((s.port p).queue ++ (List.finRange 32).filterMap (s.markAt n p)).take 16 else (s.port p).queue
      schedule := (s.port p).schedule ++ (List.finRange 32).filterMap (s.symbolAt n p) } := by
  unfold State.beforeCheck
  have queued : ∀ t : State, t.OnlyTouches [.ports] (t.queueMarks n) := fun t => queueMarks_touches (by simp) .rfl'
  rw [scheduleSymbols_port, symbolAt_congr (queued _), queueMarks_port, updTb_port, Port.offerAll_eq _ room]
  rfl

/-- Where no judged offset is off by more than the wander limit, the check does nothing. -/
theorem checkConsistency_quiet
    (near : s.tb.state = .locked → ∀ i o, s.judged i = some o → o.natAbs ≤ s.tb.wanderLimit) : s.checkConsistency = s := by
  unfold State.checkConsistency
  split
  next sel locked selected =>
    have none_off : s.deviants = [] := List.eq_nil_iff_forall_not_mem.mpr fun d off => by
      obtain ⟨judged, far⟩ := mem_deviants.mp off
      exact absurd (near locked d.1 d.2 judged) (by omega)
    rw [none_off]
    split
    · rfl
    · rfl
  next => rfl

/-- The second that the last boundary names is not reached again (log entry 26). -/
theorem secondReached_of_named {b : Timebase} (named : b.nextSecond = b.lastBoundary) (within : b.lastBoundary < Config.secMod)
    (here : b.siteTime / Config.secNs = b.lastBoundary) : b.secondReached = false := by
  have second : b.boundarySecond = (b.lastBoundary + 1) % Config.secMod := by
    unfold Timebase.boundarySecond
    rw [if_pos named, named]
  unfold Timebase.secondReached
  rw [second, here, decide_eq_false_iff_not]
  simp only [Config.secMod, Config.secHalf, Nat.not_lt] at within ⊢
  rcases Nat.lt_or_ge (b.lastBoundary + 1) 281474976710656 with below | top
  · rw [Nat.mod_eq_of_lt below]
    omega
  · have last : b.lastBoundary + 1 = 281474976710656 := by omega
    rw [last]
    omega

/-- Settles O18: the marks first, then the symbols, and then a check that finds nothing. -/
theorem boundaryQueuesMarksAndSymbols : Obligations.BoundaryQueuesMarksAndSymbols := by
  unfold Obligations.BoundaryQueuesMarksAndSymbols
  intro s u dt h range n marks symbols
  obtain ⟨record, room⟩ := (inRange_iff u).mp range
  have ran : exec (.siteSecondBoundary dt) s = .next u.boundaryIfDue.settle := (exec_siteSecondBoundary dt).trans (event_at h)
  have idle : u.tb.secondReached = false → ∃ t, exec (.siteSecondBoundary dt) s = .next t ∧ u.OnlyTouches [.pins] t :=
    fun early => ⟨_, ran, by rw [boundaryIfDue_early (by simp [early])]; exact settle_touches (by simp) .rfl'⟩
  refine ⟨fun reached near => ?_, fun named here => idle (secondReached_of_named named record.2.2.2.1 here), idle⟩
  have quiet : (u.beforeCheck n).checkConsistency = u.beforeCheck n := checkConsistency_quiet fun locked i o judged => by
    rw [beforeCheck_tb] at locked ⊢
    rw [beforeCheck_judged] at judged
    exact near locked i o judged
  have second : u.tb.boundarySecond = n := by
    unfold Timebase.boundarySecond
    split
    next named => exact (congrArg (fun k => (k + 1) % Config.secMod) named).trans (if_pos named).symm
    next other => exact (if_neg other).symm
  have due : u.boundaryIfDue = u.beforeCheck n := by rw [boundaryIfDue_reached reached, second, quiet]
  rw [due] at ran
  refine ⟨_, ran, ?_, fun p => ?_, ?_⟩
  · rw [settle_tb, beforeCheck_tb]
    rfl
  · rw [settle_port, beforeCheck_port n p (room p)]
    rfl
  · exact settle_touches (by simp) <| scheduleSymbols_touches (by simp) <| queueMarks_touches (by simp) <|
      updTb_touches (by simp) (fun _ => rfl) .rfl'

end Sys2Proof.Machine

/-! ### FORCE and RELEASE (03:R61, R63) -/
namespace Sys2Proof.Machine
open Sys2Proof

variable {s u : State} {dt : Nat} {x : Executing} {stage : Stage} {act : Executing → State → State}

/-! #### A request that is answered DONE or refused -/

/-- A request that acts and ends in a DONE with a record: the state is what the command's work leaves of the state at the instant,
the management port and the pins apart. -/
theorem request_done {work : State → State} {tab : Table} {k : Nat} {ps : List Part} (h : s.At dt u)
    (acts : s.RequestActs x stage) (other : tab ≠ .alarm) (hmgmt : Part.mgmt ∈ ps) (hpins : Part.pins ∈ ps)
    (frame : ∀ m, m.setup = u.mgmt.setup → u.OnlyTouches ps (work (u.setMgmt m)))
    (ends : ∀ m, m.setup = u.mgmt.setup → act x (u.setMgmt m) = (work (u.setMgmt m)).done x tab k) :
    ∃ m t, request dt x stage act s = .next t ∧ u.OnlyTouches ps t ∧ t.AnsweredDone x.kind tab k x.req.group ∧
      (work (u.setMgmt m)).OnlyTouches [.mgmt, .pins] t := by
  obtain ⟨-, rfl⟩ := h
  obtain ⟨m, setup, -, ran⟩ := request_acts (act := act) dt acts
  rw [ends m setup, done_settle] at ran
  exact ⟨m, _, ran, done_touches hmgmt hpins (frame m setup), done_answered _ x tab k other,
    done_touches (by simp) (by simp) .rfl'⟩

/-- A request that acts and is refused changes the management port and the pins alone. -/
theorem request_refused {code : AnswerCode} (h : s.At dt u) (acts : s.RequestActs x stage)
    (ends : ∀ m, m.setup = u.mgmt.setup → act x (u.setMgmt m) = (u.setMgmt m).refuse x code) :
    ∃ t rev, request dt x stage act s = .next t ∧ u.OnlyTouches [.mgmt, .pins] t ∧ t.AnsweredRefusal x code rev := by
  obtain ⟨-, rfl⟩ := h
  obtain ⟨m, setup, -, ran⟩ := request_acts (act := act) dt acts
  rw [ends m setup, refuse_settle] at ran
  exact ⟨_, _, ran, refuse_touches (by simp) (by simp) (setMgmt_frame setup), refuse_answered _ _ _⟩

/-! #### The restore candidate (03:R58) -/

theorem restoreNow_forced {i : RefIx} (h : s.tb.forced = some i) : s.restoreNow = none := by
  unfold State.restoreNow
  rw [h]
  split
  next free _ _ => cases free
  next => rfl

/-- The selected entry is never the restore candidate: it does not rank better than itself. -/
theorem restoreNow_ne_selected {i : RefIx} (h : s.restoreNow = some i) : s.tb.selected ≠ some i := by
  intro sel
  unfold State.restoreNow at h
  split at h
  next cur best _ _ now _ =>
    split at h
    next better =>
      cases h
      cases now.symm.trans sel
      rw [ranksBetter_irrefl] at better
      cases better
    next => cases h
  next => cases h

/-- Working the restore candidate out stores it, or switches at once to an entry that was not selected. -/
theorem reworkRestore_tb (s : State) :
    (∃ r, s.reworkRestore.tb = { s.tb with restore := r }) ∨
      ∃ i r, s.tb.selected ≠ some i ∧ s.reworkRestore.tb = { s.tb.acquire (some i) with restore := r } := by
  unfold State.reworkRestore State.switchIfDue
  split
  next => exact .inl ⟨_, rfl⟩
  next i stored =>
    split
    next =>
      refine .inr ⟨i, (s.storeRestore.selectEntry i).restoreNow, restoreNow_ne_selected stored, ?_⟩
      rw [storeRestore_tb, selectEntry_tb]
      rfl
    next => exact .inl ⟨_, rfl⟩

/-! #### The two commands -/

theorem forceEntry_selected_tb {i : RefIx} (sel : s.tb.selected = some i) :
    (s.forceEntry i).tb =
      { s.tb with forced := some i, restore := none, rev := s.tb.rev + changed s.tb.forced (some i) } := by
  unfold State.forceEntry
  dsimp only
  rw [if_pos sel, storeRestore_tb, restoreNow_forced (i := i) rfl]
  rfl

theorem forceEntry_other_tb {i : RefIx} (other : s.tb.selected ≠ some i) :
    ∃ r, (s.forceEntry i).tb =
      { s.tb with
        state := .acquiring, selected := some i, forced := some i, assist := none, lockRun := 0, unlockRun := 0
        lockedTime := 0, h := none, restore := none, rev := r } := by
  unfold State.forceEntry
  dsimp only
  rw [if_neg other, storeRestore_tb, restoreNow_forced (i := i) (by rw [selectEntry_tb]; rfl), selectEntry_tb]
  exact ⟨_, rfl⟩

theorem releaseForced_tb (s : State) :
    s.releaseForced.tb.forced = none ∧ (s.releaseForced.tb.selected = s.tb.selected →
      s.releaseForced.tb = { s.tb with forced := none, restore := s.releaseForced.tb.restore, rev := s.tb.rev + 1 }) := by
  have worked := reworkRestore_tb (s.updTb fun b => { b with forced := none, rev := b.rev + 1 })
  rw [updTb_tb] at worked
  unfold State.releaseForced
  rcases worked with ⟨r, stored⟩ | ⟨i, r, other, switched⟩
  · rw [stored]
    exact ⟨rfl, fun _ => rfl⟩
  · rw [switched]
    exact ⟨rfl, fun same => absurd same.symm other⟩

theorem actForce_named {i : RefIx} (named : x.req.NamesIndex i.val) (known : requestKnown x.kind x.table x.req = true) :
    actForce x s = if s.candidate i then (s.forceEntry i).done x .timebase 0 else s.refuse x .wrongState := by
  have key : s.keyNamed .reference x.req = some i.val := keyNamed_index named (by simp [tableKeys])
  have live : s.recordAt .reference i.val = true := by simp [State.recordAt, State.recordFields, toIx]
  obtain ⟨-, -, count, -⟩ := named
  unfold actForce
  rw [checked_pass known count, atRecord_pass key live (fenced := false) nofun, atIx_fin]

theorem actRelease_known (known : requestKnown x.kind x.table x.req = true) (count : x.req.count.toNat ≤ 12) :
    actRelease x s = if s.tb.forced.isSome then s.releaseForced.done x .timebase 0 else s.refuse x .wrongState := by
  unfold actRelease
  rw [checked_pass known count]

/-- Settles O20: a candidate forced or refused, and a release with and without a forced reference. -/
theorem forceAndRelease : Obligations.ForceAndRelease := by
  unfold Obligations.ForceAndRelease
  intro s u dt req stage h
  refine ⟨fun i named acts => ?_, fun named acts => ?_⟩
  · have known : requestKnown 0x0E 0x02 req = true := by
      obtain ⟨form, group, -, -⟩ := named
      simp [requestKnown, form, group, tableTaken, formTaken, keyless, Table.ofCode]
    have decided (m : Mgmt) := actForce_named (s := u.setMgmt m) (x := ⟨0x0E, 0x02, req⟩) named known
    have forced {ps : List Part} (hmgmt : Part.mgmt ∈ ps) (hpins : Part.pins ∈ ps)
        (frame : ∀ m : Mgmt, m.setup = u.mgmt.setup → u.OnlyTouches ps ((u.setMgmt m).forceEntry i))
        (cand : u.candidate i = true) :=
      request_done (act := actForce) (work := fun w => w.forceEntry i) h acts (tab := .timebase) (k := 0) (by decide) hmgmt hpins
        frame fun m _ => (decided m).trans (if_pos cand)
    refine ⟨fun cand sel => ?_, fun cand other => ?_, fun out => ?_⟩
    · obtain ⟨m, t, ran, frame, answered, left⟩ := forced (ps := [.mgmt, .tb, .pins]) (by simp) (by simp)
        (fun m setup => by
          have sel : (u.setMgmt m).tb.selected = some i := sel
          unfold State.forceEntry
          dsimp only
          rw [if_pos sel]
          exact storeRestore_touches (by simp) <| updTb_touches (by simp) (fun _ => rfl) <| setMgmt_touches (by simp) setup .rfl')
        cand
      exact ⟨t, ran, frame, answered, (left.tb (by simp)).trans (forceEntry_selected_tb (s := u.setMgmt m) sel)⟩
    · obtain ⟨m, t, ran, frame, answered, left⟩ := forced (ps := [.mgmt, .tb, .slots, .rooms, .pins]) (by simp) (by simp)
        (fun m setup => by
          have other : (u.setMgmt m).tb.selected ≠ some i := other
          unfold State.forceEntry
          dsimp only
          rw [if_neg other]
          exact storeRestore_touches (by simp) <| selectEntry_touches (by simp) (by simp) (by simp) <|
            updTb_touches (by simp) (fun _ => rfl) <| setMgmt_touches (by simp) setup .rfl')
        cand
      obtain ⟨r, after⟩ := forceEntry_other_tb (s := u.setMgmt m) other
      refine ⟨t, ran, frame, answered, ?_⟩
      rw [left.tb (by simp), after]
      rfl
    · exact request_refused (act := actForce) h acts fun m _ => (decided m).trans (if_neg (Bool.eq_false_iff.mp out))
  · have known : requestKnown 0x0F 0x01 req = true := by
      obtain ⟨group, -⟩ := named
      simp [requestKnown, group, tableTaken, formTaken, keyless, Table.ofCode]
    have decided (m : Mgmt) := actRelease_known (s := u.setMgmt m) (x := ⟨0x0F, 0x01, req⟩) known named.2
    refine ⟨fun held => ?_, fun free => ?_⟩
    · obtain ⟨m, t, ran, frame, answered, left⟩ :=
        request_done (act := actRelease) (work := State.releaseForced) (ps := [.mgmt, .tb, .slots, .rooms, .pins]) h acts
          (tab := .timebase) (k := 0) (by decide) (by simp) (by simp)
          (fun m setup => reworkRestore_touches (by simp) (by simp) (by simp) <| updTb_touches (by simp) (fun _ => rfl) <|
            setMgmt_touches (by simp) setup .rfl')
          fun m _ => (decided m).trans (if_pos held)
      obtain ⟨released, kept⟩ := releaseForced_tb (u.setMgmt m)
      rw [← left.tb (by simp)] at released kept
      exact ⟨t, ran, frame, answered, released, kept⟩
    · exact request_refused (act := actRelease) h acts fun m _ => (decided m).trans (if_neg (by simp [free]))

end Sys2Proof.Machine

/-! ### Samples and pulses of an entry (02:R30 to R32, R36, R37) -/
namespace Sys2Proof.Machine
open Sys2Proof

variable {s u : State} {dt : Nat}

/-! #### A change of one entry -/

theorem updRef_ref (i j : RefIx) (f : RefEntry → RefEntry) :
    (s.updRef i f).ref j = if i = j then f (s.ref i) else s.ref j := setRef_ref_if s i j _

theorem updRef_updRef (i : RefIx) (f g : RefEntry → RefEntry) :
    (s.updRef i f).updRef i g = s.updRef i fun e => g (f e) := by
  unfold State.updRef
  rw [setRef_ref]
  unfold State.setRef
  simp only [Vector.set_set]

/-- An event that changes one entry and nothing else. -/
theorem event_updRef {f : State → State} {i : RefIx} {g : RefEntry → RefEntry} (h : s.At dt u) (acts : f u = u.updRef i g)
    (bound : ∀ e, (g e).settings = e.settings) :
    ∃ t, event dt f s = .next t ∧ u.OnlyTouches [.refs, .pins] t ∧ (∀ j, j ≠ i → t.ref j = u.ref j) ∧
      t.ref i = g (u.ref i) := by
  refine ⟨(f u).settle, event_at h, settle_touches (by simp) ?_, fun j apart => ?_, ?_⟩
  · rw [acts]
    exact updRef_touches (by simp) bound .rfl'
  · rw [settle_ref, acts, updRef_ref, if_neg (Ne.symm apart)]
  · rw [settle_ref, acts, updRef_ref, if_pos rfl]

theorem RefEntry.live_iff {e : RefEntry} : e.live = true ↔ e.state = .qualifying ∨ e.state = .usable := by
  unfold live
  rw [Bool.or_eq_true, decide_eq_true_iff, decide_eq_true_iff]

/-! #### Qualification (02:R36, R37) -/

/-- An entry in QUALIFYING after a good sample, at run second `run`; one that is `held` does not reach its target (02:R36, R37). -/
def RefEntry.afterGood (e : RefEntry) (wanders held : Bool) (run : Nat) : RefEntry :=
  if wanders then { e with progress := 0 }
  else if e.progress + 1 < e.qualifyTarget then { e with progress := e.progress + 1 }
  else if held then { e with progress := e.qualifyTarget - 1 } else e.toUsable run

theorem qualify_idle {i : RefIx} {w : Bool} (other : (s.ref i).state ≠ .qualifying) : s.qualify i w = s := by
  unfold State.qualify
  exact if_neg other

theorem becomeUsable_ref (i j : RefIx) :
    (s.becomeUsable i).ref j = if i = j then (s.ref i).toUsable s.tb.runCounter else s.ref j := by
  unfold State.becomeUsable
  rw [(announceUsable_touches (ps := [.tb, .slots, .rooms]) (by simp) (by simp) (by simp) .rfl').ref (by simp), updRef_ref]

theorem qualify_ref {i : RefIx} {w : Bool} (qualifying : (s.ref i).state = .qualifying) (j : RefIx) :
    (s.qualify i w).ref j = if i = j then (s.ref i).afterGood w (s.peerHeld i) s.tb.runCounter else s.ref j := by
  unfold State.qualify RefEntry.afterGood
  dsimp only
  rw [if_pos qualifying]
  split
  next => exact updRef_ref i j _
  next =>
    split
    next => exact updRef_ref i j _
    next =>
      split
      next => exact updRef_ref i j _
      next => exact becomeUsable_ref i j

theorem peerHeld_low {i : RefIx} (low : i.val < 6) : s.peerHeld i = false := by
  unfold State.peerHeld
  simp [Nat.not_le.mpr low]

/-- Whether an entry is held depends on its lease, not on what else the entry stores. -/
theorem peerHeld_updRef {i : RefIx} {g : RefEntry → RefEntry} (bound : ∀ e, (g e).boundLease = e.boundLease) :
    (s.updRef i g).peerHeld i = s.peerHeld i := by
  unfold State.peerHeld State.boundInService
  rw [updRef_ref, if_pos rfl, bound]
  rfl

/-! #### A good sample (02:R31, R36; log entries 7, 21) -/

/-- An entry with offset `o` stored as its last. -/
def RefEntry.withOffset (e : RefEntry) (o : Offset) : RefEntry := { e with lastOffset := some o }

/-- The offset that a sample of `o` leaves stored: limited, formed now, with the mark given (02:R27). -/
def State.storedOffset (s : State) (o : Int) (mark : BitVec 8) : Offset :=
  ⟨clampInt Config.lastOffsetMax o, s.clock.osc, mark⟩

theorem goodOffset_eq (i : RefIx) (o : Int) (mark : BitVec 8) :
    s.goodOffset i o mark =
      ((s.updRef i fun e => e.withOffset (s.storedOffset o mark)).offerSample i o mark).qualify i (s.wanders o) := rfl

theorem offerSample_ref (i j : RefIx) (o : Int) (mark : BitVec 8) : (s.offerSample i o mark).ref j = s.ref j :=
  (offerSample_touches (ps := [.wires]) (by simp) .rfl').ref (by simp) j

theorem offerSample_wires {i : RefIx} {o : Int} {mark : BitVec 8} (usable : (s.ref i).state = .usable) :
    (s.offerSample i o mark).wires =
      { s.wires with samples := s.wires.samples ++ if s.tb.selected = some i then [⟨i, o, mark⟩] else [] } := by
  unfold State.offerSample
  by_cases sel : s.tb.selected = some i
  · simp [usable, sel]
  · simp [usable, sel]

theorem offerSample_idle {i : RefIx} {o : Int} {mark : BitVec 8} (other : (s.ref i).state ≠ .usable) :
    s.offerSample i o mark = s := by
  unfold State.offerSample
  simp [other]

theorem goodOffset_usable {i : RefIx} {o : Int} {mark : BitVec 8} (usable : (s.ref i).state = .usable) :
    s.goodOffset i o mark = (s.updRef i fun e => e.withOffset (s.storedOffset o mark)).offerSample i o mark := by
  have stays : (((s.updRef i fun e => e.withOffset (s.storedOffset o mark)).offerSample i o mark).ref i).state = .usable := by
    rw [offerSample_ref, updRef_ref, if_pos rfl]
    exact usable
  rw [goodOffset_eq, qualify_idle (by rw [stays]; decide)]

theorem goodOffset_qualifying {i : RefIx} {o : Int} {mark : BitVec 8} (qualifying : (s.ref i).state = .qualifying) :
    s.goodOffset i o mark = (s.updRef i fun e => e.withOffset (s.storedOffset o mark)).qualify i (s.wanders o) := by
  have stays : ((s.updRef i fun e => e.withOffset (s.storedOffset o mark)).ref i).state = .qualifying := by
    rw [updRef_ref, if_pos rfl]
    exact qualifying
  rw [goodOffset_eq, offerSample_idle (by rw [stays]; decide)]

/-- A good sample of a USABLE entry that has just become `g` of itself: stored and offered. -/
theorem goodOffset_of_usable {i : RefIx} {o : Int} {mark : BitVec 8} {g : RefEntry → RefEntry}
    (set : ∀ e, (g e).settings = e.settings) (usable : (g (s.ref i)).state = .usable) :
    s.OnlyTouches [.refs, .wires] ((s.updRef i g).goodOffset i o mark) ∧
    (∀ j, ((s.updRef i g).goodOffset i o mark).ref j =
      if i = j then (g (s.ref i)).withOffset (s.storedOffset o mark) else s.ref j) ∧
    ((s.updRef i g).goodOffset i o mark).wires =
      { s.wires with samples := s.wires.samples ++ if s.tb.selected = some i then [⟨i, o, mark⟩] else [] } := by
  rw [goodOffset_usable (by rw [updRef_ref, if_pos rfl]; exact usable), updRef_updRef]
  refine ⟨?_, fun j => ?_, ?_⟩
  · exact offerSample_touches (by simp) <| updRef_touches (by simp) set .rfl'
  · rw [offerSample_ref, updRef_ref]
    rfl
  · rw [offerSample_wires (by rw [updRef_ref, if_pos rfl]; exact usable)]
    rfl

/-- A good sample of a QUALIFYING entry that has just become `g` of itself: stored and counted. -/
theorem goodOffset_of_qualifying {i : RefIx} {o : Int} {mark : BitVec 8} {g : RefEntry → RefEntry}
    (set : ∀ e, (g e).settings = e.settings) (bound : ∀ e, (g e).boundLease = e.boundLease)
    (qualifying : (g (s.ref i)).state = .qualifying) :
    s.OnlyTouches [.refs, .tb, .slots, .rooms] ((s.updRef i g).goodOffset i o mark) ∧
    ∀ j, ((s.updRef i g).goodOffset i o mark).ref j =
      if i = j then ((g (s.ref i)).withOffset (s.storedOffset o mark)).afterGood (s.wanders o) (s.peerHeld i) s.tb.runCounter
      else s.ref j := by
  rw [goodOffset_qualifying (by rw [updRef_ref, if_pos rfl]; exact qualifying), updRef_updRef]
  refine ⟨?_, fun j => ?_⟩
  · exact qualify_touches (by simp) (by simp) (by simp) (by simp) <| updRef_touches (by simp) set .rfl'
  · have held := peerHeld_updRef (s := s) (i := i) (g := fun e => (g e).withOffset ((s.updRef i g).storedOffset o mark)) bound
    rw [qualify_ref (by rw [updRef_ref, if_pos rfl]; exact qualifying), held, updRef_ref, if_pos rfl, updRef_ref]
    split <;> rfl

/-! #### An edge with a label (02:R30, R31) -/

theorem missingOverdue_eq_false {e : RefEntry} (timely : ∀ x, e.missingSince = some x → s.clock.osc ≤ x + Config.missingNs) :
    s.missingOverdue e = false := by
  unfold State.missingOverdue
  split
  next => rfl
  next x since => simpa using timely x since

theorem pulseEdge_taken {i : RefIx} (live : (s.ref i).live = true)
    (timely : ∀ x, (s.ref i).missingSince = some x → s.clock.osc ≤ x + Config.missingNs) :
    s.pulseEdge i (s.ref i).edge = s.edgeTaken i := by
  unfold State.pulseEdge
  dsimp only
  rw [missingOverdue_eq_false timely]
  simp [live]

/-- A second edge, late enough and with a label, is a good sample, unless it is a mismatch. -/
theorem edgeTaken_good {i : RefIx} {prev : Nat} {b : Label} (before : (s.ref i).prevEdge = some prev)
    (apart : prev + Config.glitchNs ≤ s.clock.osc) (label : (s.ref i).pendingLabel = some b)
    (near : s.mismatched (s.edgeOffset i b) = false) :
    s.edgeTaken i = (s.updRef i fun e => { e.acceptEdge s.clock.osc with labelLess := 0 }).goodOffset i (s.edgeOffset i b)
      s.tb.stepNumber := by
  unfold State.edgeTaken
  dsimp only
  rw [before, label]
  dsimp only
  rw [if_neg (Nat.not_lt.mpr apart)]
  have offset : (s.updRef i fun e => e.acceptEdge s.clock.osc).edgeOffset i b = s.edgeOffset i b := by
    unfold State.edgeOffset
    rw [updRef_ref, if_pos rfl]
    rfl
  unfold State.edgeLabelled
  dsimp only
  rw [offset, updRef_updRef]
  exact if_neg (Bool.eq_false_iff.mp near)

theorem pulseEntry_low (k : Fin 4) : (pulseEntry k).val < 6 := by
  unfold pulseEntry
  rw [Fin.val_castLE]
  omega

theorem mismatched_iff {o : Int} : s.mismatched o = true ↔ s.tb.state = .locked ∧ Config.mismatchNs < o.natAbs := by
  unfold State.mismatched
  rw [Bool.and_eq_true, decide_eq_true_iff, decide_eq_true_iff]

theorem wanders_iff {o : Int} : s.wanders o = true ↔ s.tb.state = .locked ∧ s.tb.wanderLimit < o.natAbs := by
  unfold State.wanders
  rw [Bool.and_eq_true, decide_eq_true_iff, decide_eq_true_iff]

/-- Settles O22: the edge is a good sample of its entry, offered by a USABLE one, counted by a QUALIFYING one. -/
theorem edgeGivesASample : Obligations.EdgeGivesASample := by
  unfold Obligations.EdgeGivesASample
  intro s u dt k prev b h i e o stored after before apart label timely near
  have offset : u.edgeOffset i b = o := by
    simp only [State.edgeOffset, Config.secNs, o, e, Nat.cast_mul]
    rfl
  have matched : u.mismatched (u.edgeOffset i b) = false := by
    rw [offset]
    exact Bool.eq_false_iff.mpr (mt mismatched_iff.mp near)
  have good (live : e.live = true) : u.pulseEdge i e.edge =
      (u.updRef i fun e => { e.acceptEdge u.clock.osc with labelLess := 0 }).goodOffset i o u.tb.stepNumber := by
    rw [← offset]
    exact (pulseEdge_taken live timely).trans (edgeTaken_good before apart label matched)
  have ran : exec (.referenceEdge dt k e.edge) s = .next (u.pulseEdge i e.edge).settle :=
    (exec_referenceEdge dt k e.edge).trans (event_at h)
  refine ⟨fun usable => ?_, fun qualifying => ?_⟩
  · rw [good (RefEntry.live_iff.mpr (.inr usable))] at ran
    obtain ⟨frame, refs, wires⟩ := goodOffset_of_usable (s := u) (i := i) (o := o) (mark := u.tb.stepNumber)
      (g := fun e => { e.acceptEdge u.clock.osc with labelLess := 0 }) (fun _ => rfl) usable
    refine ⟨_, ran, settle_touches (by simp) (frame.mono (by simp)), ?_, fun j apart => ?_, ?_⟩
    · rw [settle_ref, refs, if_pos rfl]
      rfl
    · rw [settle_ref, refs, if_neg (Ne.symm apart)]
    · rw [settle_wires, wires]
  · rw [good (RefEntry.live_iff.mpr (.inl qualifying))] at ran
    obtain ⟨frame, refs⟩ := goodOffset_of_qualifying (s := u) (i := i) (o := o) (mark := u.tb.stepNumber)
      (g := fun e => { e.acceptEdge u.clock.osc with labelLess := 0 }) (fun _ => rfl) (fun _ => rfl) qualifying
    refine ⟨_, ran, settle_touches (by simp) (frame.mono (by simp)), fun j apart => ?_, ?_⟩
    · rw [settle_ref, refs, if_neg (Ne.symm apart)]
    · rw [settle_ref, refs, if_pos rfl, peerHeld_low (pulseEntry_low k)]
      exact if_congr wanders_iff rfl rfl

end Sys2Proof.Machine

/-! ### Pulses of a frequency train (02:R32) -/
namespace Sys2Proof.Machine
open Sys2Proof

variable {s u : State} {dt : Nat} {l : LineInput}

/-! #### A pulse -/

theorem linePulse_idle (dead : (s.ref l.entry).live = false) : s.linePulse l = s := by
  unfold State.linePulse
  exact if_neg (Bool.eq_false_iff.mp dead)

theorem linePulse_taken (live : (s.ref l.entry).live = true)
    (timely : ∀ x, (s.ref l.entry).missingSince = some x → s.clock.osc ≤ x + Config.missingNs) :
    s.linePulse l = s.pulseTaken l := by
  unfold State.linePulse
  dsimp only
  rw [missingOverdue_eq_false timely, if_pos live]
  rfl

/-- An entry after a pulse at `osc` that leaves window `w`. -/
def RefEntry.pulsed (e : RefEntry) (osc : Nat) (w : LineWindow) : RefEntry := { e with missingSince := some osc, window := some w }

/-- The window that a pulse opens now. -/
def State.freshWindow (s : State) : LineWindow := ⟨s.tb.siteTime, s.tb.stepNumber, 0⟩

theorem pulseTaken_opens (none : (s.ref l.entry).window = none) :
    s.pulseTaken l = s.updRef l.entry fun e => e.pulsed s.clock.osc s.freshWindow := by
  unfold State.pulseTaken
  rw [none]
  rfl

theorem pulseTaken_counts {w : LineWindow} (opened : (s.ref l.entry).window = some w) (few : w.pulses + 1 < Config.windowPulses) :
    s.pulseTaken l = s.updRef l.entry fun e => e.pulsed s.clock.osc { w with pulses := w.pulses + 1 } := by
  unfold State.pulseTaken
  rw [opened]
  exact if_pos few

/-- The pulse that completes a window closes it, opens the next and measures, if it can. -/
theorem pulseTaken_closes {w : LineWindow} (opened : (s.ref l.entry).window = some w)
    (complete : Config.windowPulses ≤ w.pulses + 1) :
    s.pulseTaken l =
      match s.windowFreq w with
      | none => s.updRef l.entry fun e => e.pulsed s.clock.osc s.freshWindow
      | some f => (s.updRef l.entry fun e => e.pulsed s.clock.osc s.freshWindow).measuredFreq l f := by
  unfold State.pulseTaken
  rw [opened]
  exact if_neg (Nat.not_lt.mpr complete)

/-! #### A measurement -/

/-- An entry with `f` stored as its last frequency measurement. -/
def RefEntry.withFreq (e : RefEntry) (f : Int) : RefEntry := { e with lastFreq := some (clampInt Config.lastFreqMax f) }

theorem measuredFreq_far {f : Int} (far : (s.ref l.entry).freqLimit < f.natAbs) :
    s.measuredFreq l f = (s.updRef l.entry fun e => e.withFreq f).faultRef l.entry .frequency := by
  unfold State.measuredFreq
  exact if_pos far

theorem offerMeasurement_usable {f : Int} (usable : (s.ref l.entry).state = .usable) :
    s.offerMeasurement l f = s.setWires { s.wires with measurements := s.wires.measurements ++ [⟨l, f⟩] } := by
  unfold State.offerMeasurement
  exact if_pos usable

theorem offerMeasurement_idle {f : Int} (other : (s.ref l.entry).state ≠ .usable) : s.offerMeasurement l f = s := by
  unfold State.offerMeasurement
  exact if_neg other

theorem measuredFreq_near {f : Int} (near : f.natAbs ≤ (s.ref l.entry).freqLimit) :
    s.measuredFreq l f = ((s.updRef l.entry fun e => e.withFreq f).offerMeasurement l f).qualify l.entry false := by
  unfold State.measuredFreq
  exact if_neg (Nat.not_lt.mpr near)

/-- A measurement within the limit of a USABLE entry is stored and offered. -/
theorem measuredFreq_usable {f : Int} (near : f.natAbs ≤ (s.ref l.entry).freqLimit) (usable : (s.ref l.entry).state = .usable) :
    s.measuredFreq l f = (s.updRef l.entry fun e => e.withFreq f).setWires
      { s.wires with measurements := s.wires.measurements ++ [⟨l, f⟩] } := by
  have stays : ((s.updRef l.entry fun e => e.withFreq f).ref l.entry).state = .usable := by
    rw [updRef_ref, if_pos rfl]
    exact usable
  have offered := offerMeasurement_usable (f := f) stays
  rw [measuredFreq_near near, qualify_idle, offered]
  · rfl
  · rw [offered]
    exact fun qualifying => nomatch stays.symm.trans qualifying

/-- A measurement within the limit of a QUALIFYING entry is stored and counted. -/
theorem measuredFreq_qualifying {f : Int} (near : f.natAbs ≤ (s.ref l.entry).freqLimit)
    (qualifying : (s.ref l.entry).state = .qualifying) :
    s.measuredFreq l f = (s.updRef l.entry fun e => e.withFreq f).qualify l.entry false := by
  have stays : ((s.updRef l.entry fun e => e.withFreq f).ref l.entry).state = .qualifying := by
    rw [updRef_ref, if_pos rfl]
    exact qualifying
  rw [measuredFreq_near near, offerMeasurement_idle]
  rw [stays]
  decide

theorem LineInput.entry_low : l.entry.val < 6 := by cases l <;> decide

/-- Settles O24: the pulse that opens a window, one that counts, one that completes a window across a step, and one that measures. -/
theorem linePulseMeasures : Obligations.LinePulseMeasures := by
  unfold Obligations.LinePulseMeasures
  intro s u dt l h i e others fresh live
  have serves (running : live) : u.linePulse l = u.pulseTaken l :=
    linePulse_taken (RefEntry.live_iff.mpr running.1) running.2
  have changed {g : RefEntry → RefEntry} (acts : u.linePulse l = u.updRef l.entry g)
      (bound : ∀ e, (g e).settings = e.settings) := event_updRef (f := fun t => t.linePulse l) (i := l.entry) h acts bound
  refine ⟨fun dead => ?_, fun running none => ?_, fun running w opened few => ?_, fun running w opened complete stepped => ?_,
    fun running w opened complete same => ?_⟩
  · have dead' : (u.ref l.entry).live = false := Bool.eq_false_iff.mpr (mt RefEntry.live_iff.mp dead)
    refine ⟨(u.linePulse l).settle, (exec_linePulse dt l).trans (event_at h), settle_touches (by simp) ?_⟩
    rw [linePulse_idle dead']
    exact .rfl'
  · exact changed ((serves running).trans (pulseTaken_opens none)) fun _ => rfl
  · exact changed ((serves running).trans (pulseTaken_counts opened few)) fun _ => rfl
  · have unmeasured : u.windowFreq w = none := if_neg stepped
    refine changed (g := fun e => e.pulsed u.clock.osc u.freshWindow) ?_ fun _ => rfl
    rw [serves running, pulseTaken_closes opened complete, unmeasured]
  · intro f after
    have measured : u.windowFreq w = some f := if_pos same
    generalize opening : (u.updRef i fun e => e.pulsed u.clock.osc u.freshWindow) = v
    have ran : exec (.linePulse dt l) s = .next (v.measuredFreq l f).settle := by
      rw [exec_linePulse, event_at h, serves running, pulseTaken_closes opened complete, measured, ← opening]
    have opened (j : RefIx) : v.ref j = if i = j then e.pulsed u.clock.osc u.freshWindow else u.ref j := by
      rw [← opening, updRef_ref]
    have opened_self : v.ref l.entry = e.pulsed u.clock.osc u.freshWindow := (opened i).trans (if_pos rfl)
    have stored (j : RefIx) : (v.updRef i fun e => e.withFreq f).ref j = if i = j then after else u.ref j := by
      rw [updRef_ref, opened_self]
      split
      next => rfl
      next apart => rw [opened, if_neg apart]
    have frame {ps : List Part} (hrefs : Part.refs ∈ ps) : u.OnlyTouches ps (v.updRef i fun e => e.withFreq f) := by
      rw [← opening]
      exact updRef_touches hrefs (fun _ => rfl) <| updRef_touches hrefs (fun _ => rfl) .rfl'
    refine ⟨fun far => ?_, fun near usable => ?_, fun near qualifying => ?_⟩
    · rw [measuredFreq_far (by rw [opened_self]; exact far)] at ran
      have faulted := faultRef_ref (s := v.updRef i fun e => e.withFreq f) (i := i) (cause := .frequency)
        (by rw [stored, if_pos rfl]; exact RefEntry.live_iff.mpr running.1)
      refine ⟨_, ran, ?_, fun j apart => ?_, ?_⟩
      · exact settle_touches (by decide) <| faultRef_touches (by decide) (by decide) (by decide) (by decide) (by decide)
          (by decide) (by decide) (by decide) <| frame (by decide)
      · rw [settle_ref, faulted, if_neg (Ne.symm apart), stored, if_neg (Ne.symm apart)]
      · rw [settle_ref, faulted, if_pos rfl, stored, if_pos rfl]
    · rw [measuredFreq_usable (by rw [opened_self]; exact near) (by rw [opened_self]; exact usable)] at ran
      refine ⟨_, ran, ?_, fun j apart => ?_, ?_, ?_⟩
      · exact settle_touches (by simp) <| setWires_touches (by simp) <| frame (by simp)
      · rw [settle_ref]
        exact (stored j).trans (if_neg (Ne.symm apart))
      · rw [settle_ref]
        exact (stored i).trans (if_pos rfl)
      · rw [settle_wires, ← opening]
        rfl
    · rw [measuredFreq_qualifying (by rw [opened_self]; exact near) (by rw [opened_self]; exact qualifying)] at ran
      have counted (j : RefIx) := qualify_ref (s := v.updRef i fun e => e.withFreq f) (w := false) (i := i)
        (by rw [stored, if_pos rfl]; exact qualifying) j
      rw [peerHeld_low LineInput.entry_low] at counted
      refine ⟨_, ran, ?_, fun j apart => ?_, ?_⟩
      · exact settle_touches (by simp) <| qualify_touches (by simp) (by simp) (by simp) (by simp) <| frame (by simp)
      · rw [settle_ref, counted, if_neg (Ne.symm apart), stored, if_neg (Ne.symm apart)]
      · rw [settle_ref, counted, if_pos rfl, stored, if_pos rfl, ← opening]
        rfl

end Sys2Proof.Machine

/-! ### REPORT and PEER_MARK (07:R130, R131; 02:R33; 04:R69) -/
namespace Sys2Proof.Machine
open Sys2Proof

variable {s u : State} {dt : Nat} {p : PortIx} {heard : List RxSymbol} {l : LeaseIx} {x : Lease} {id : Byte}

/-! #### Frames that name a lease (04:R68, R69) -/

theorem addressed_live (named : id.toNat = l.val) (live : s.lease l = some x) (opened : (s.port x.port).state = .opened) :
    s.addressed x.port id = some l := by
  unfold State.addressed State.leaseOn toIx
  simp [named, live, opened]

theorem addressed_none (discards : (s.port p).state ≠ .opened ∨
    ∀ (l : LeaseIx) x, id.toNat = l.val → s.lease l = some x → x.port ≠ p) : s.addressed p id = none := by
  unfold State.addressed
  split
  next => rfl
  next l named =>
    have own : id.toNat = l.val := by
      unfold toIx at named
      split at named
      next => cases named; rfl
      next => cases named
    rw [if_neg]
    rw [Bool.and_eq_true, decide_eq_true_iff]
    rintro ⟨opened, on⟩
    rcases discards with shut | strange
    · exact shut opened
    · unfold State.leaseOn at on
      split at on
      next => cases on
      next x live => exact strange l x own live (by simpa using on)

theorem forAddressed_live {f : LeaseIx → State → State} (named : id.toNat = l.val) (live : s.lease l = some x)
    (opened : (s.port x.port).state = .opened) : s.forAddressed x.port id f = f l s := by
  unfold State.forAddressed
  rw [addressed_live named live opened]

theorem forAddressed_none {f : LeaseIx → State → State} (discards : (s.port p).state ≠ .opened ∨
    ∀ (l : LeaseIx) x, id.toNat = l.val → s.lease l = some x → x.port ≠ p) : s.forAddressed p id f = s := by
  unfold State.forAddressed
  rw [addressed_none discards]

/-- A frame that its block discards changes the pins at most. -/
theorem frameEvent_idle {f : LaneFrame} (h : s.FrameAt dt p heard f u) (fits : f.fits = true)
    (idle : ∀ c, u.deliver p c f = u) : ∃ t, frameEvent dt ⟨p, heard⟩ f s = .next t ∧ u.OnlyTouches [.pins] t := by
  refine ⟨_, frameEvent_at h fits, ?_⟩
  rw [idle]
  exact settle_touches (by simp) .rfl'

/-! #### REPORT (07:R131) -/

theorem deliver_report {c : Capture} {body : ReportBody} (named : body.lease.toNat = l.val) (live : s.lease l = some x)
    (opened : (s.port x.port).state = .opened) (severity : body.severity.toNat ≤ 4) (words : body.words.length ≤ 6) :
    s.deliver x.port c (.report body) = s.takeReport body l := by
  have fits : reportInRange body = true := by simp [reportInRange, severity, words]
  unfold State.deliver
  dsimp only
  rw [if_pos fits, forAddressed_live named live opened]

theorem takeReport_pending {body : ReportBody} (live : s.lease l = some x) (pending : x.state = .pending) :
    s.takeReport body l = s := by
  unfold State.takeReport
  rw [live]
  exact if_pos pending

theorem takeReport_live {body : ReportBody} (live : s.lease l = some x) (other : x.state ≠ .pending) :
    s.takeReport body l = (s.moveLease l fun _ => x.reported body).reportAlarm l (x.reported body) := by
  unfold State.takeReport
  rw [live]
  exact if_neg other

theorem reportAlarm_slots (s : State) (l : LeaseIx) (x : Lease) :
    (s.reportAlarm l x).alarm.slots = (match x.report.severity with
      | none => s.alarm.clear s.siteSec .unitReported l.val
      | some _ => s.alarm.raise s.siteSec
          ⟨.unitReported, l.val, some x.tag, some (.sequence x.report.sequence.toNat), x.report.severity⟩).slots := by
  unfold State.reportAlarm
  cases x.report.severity <;> rfl

theorem moveLease_slot (s : State) (l k : LeaseIx) (f : Lease → Lease) :
    (s.moveLease l f).slot k = if l = k then ⟨(s.slot l).rev + 1, (s.slot l).lease.map f⟩ else s.slot k :=
  setLeaseSlot_slot_if s l k _

/-- The state after a REPORT of a lease that is not PENDING. -/
theorem report_stored {body : ReportBody} (live : s.lease l = some x) (other : x.state ≠ .pending) :
    (∀ k, (s.takeReport body l).slot k = if l = k then ⟨(s.slot l).rev + 1, some (x.reported body)⟩ else s.slot k) ∧
    (s.takeReport body l).alarm.slots = (match (x.reported body).report.severity with
      | none => s.alarm.clear s.siteSec .unitReported l.val
      | some _ => s.alarm.raise s.siteSec
          ⟨.unitReported, l.val, some x.tag, some (.sequence (x.report.sequence + 1).toNat),
            (x.reported body).report.severity⟩).slots := by
  rw [takeReport_live live other]
  refine ⟨fun k => ?_, reportAlarm_slots ..⟩
  have held : (s.slot l).lease = some x := live
  rw [(reportAlarm_touches (ps := [.slots, .rooms]) (by simp) (by simp) .rfl').slot (by simp), moveLease_slot, held]
  rfl

/-! #### PEER_MARK (07:R130, 02:R33) -/

theorem deliver_peerMark {c : Capture} {body : PeerMarkBody} (named : body.lease.toNat = l.val) (live : s.lease l = some x)
    (opened : (s.port x.port).state = .opened) (valid : body.valid.toNat ≤ 1) :
    s.deliver x.port c (.peerMark body) = s.takePeerMark body l := by
  unfold State.deliver
  dsimp only
  rw [if_pos valid, forAddressed_live named live opened]

theorem takePeerMark_bound {body : PeerMarkBody} {e : Peer} (live : s.lease l = some x) (bound : x.offer = .bound e) :
    s.takePeerMark body l = s.peerMarked e.entry body x.symbol := by
  unfold State.takePeerMark
  rw [live]
  dsimp only
  rw [bound]
  rfl

theorem takePeerMark_unbound {body : PeerMarkBody} (live : s.lease l = some x) (unbound : x.offer = .none ∨ x.offer = .refused) :
    s.takePeerMark body l = s := by
  unfold State.takePeerMark
  rw [live]
  dsimp only
  rcases unbound with none | refused
  · rw [none]
    rfl
  · rw [refused]
    rfl

section
variable {i : RefIx} {b : PeerMarkBody} {r : SymbolRecord}

theorem peerMarked_taken (live : (s.ref i).live = true)
    (timely : ∀ y, (s.ref i).missingSince = some y → s.clock.osc ≤ y + Config.missingNs) :
    s.peerMarked i b (some r) = s.peerTaken i b r := by
  unfold State.peerMarked
  dsimp only
  rw [if_pos live, missingOverdue_eq_false timely]
  rfl

/-- Before the lease's first boundary symbol there is nothing to measure against. -/
theorem peerMarked_symbolless (timely : ∀ y, (s.ref i).missingSince = some y → s.clock.osc ≤ y + Config.missingNs) :
    s.peerMarked i b none = s := by
  unfold State.peerMarked
  dsimp only
  rw [missingOverdue_eq_false timely]
  exact ite_self _

/-- An entry whose missing-sample timer restarts at `osc`. -/
def RefEntry.restarted (e : RefEntry) (osc : Nat) : RefEntry := { e with missingSince := some osc }

theorem peerTaken_bad (bad : b.valid = 0#8 ∨ s.mismatched (peerOffset b r) = true) :
    s.peerTaken i b r = (s.updRef i fun e => e.restarted s.clock.osc).faultRef i
      (if b.valid = 0#8 then .reported else .labelMismatch) := by
  unfold State.peerTaken
  dsimp only
  split
  next => rfl
  next valid => exact if_pos (bad.resolve_left valid)

theorem peerTaken_good (valid : b.valid ≠ 0#8) (near : s.mismatched (peerOffset b r) = false) :
    s.peerTaken i b r = (s.updRef i fun e => e.restarted s.clock.osc).goodOffset i (peerOffset b r) r.step := by
  unfold State.peerTaken
  dsimp only
  rw [if_neg valid]
  exact if_neg (Bool.eq_false_iff.mp near)

/-- A PEER entry is held while its lease is not IN-SERVICE. -/
theorem peerHeld_peer (s : State) (e : Peer) : s.peerHeld e.entry = !s.boundInService e.entry := by
  have peer : 6 ≤ e.entry.val := by cases e <;> decide
  unfold State.peerHeld
  rw [decide_eq_true peer, Bool.true_and]

end

/-- A PEER-MARK of a lease whose offer is BOUND, delivered with a symbol record. -/
theorem peerMark_delivered {c : Capture} {body : PeerMarkBody} {e : Peer} {r : SymbolRecord} (named : body.lease.toNat = l.val)
    (live : s.lease l = some x) (opened : (s.port x.port).state = .opened) (valid : body.valid.toNat ≤ 1)
    (bound : x.offer = .bound e) (symbol : x.symbol = some r) (serves : (s.ref e.entry).live = true)
    (timely : ∀ y, (s.ref e.entry).missingSince = some y → s.clock.osc ≤ y + Config.missingNs) :
    s.deliver x.port c (.peerMark body) = s.peerTaken e.entry body r := by
  rw [deliver_peerMark named live opened valid, takePeerMark_bound live bound, symbol, peerMarked_taken serves timely]

/-- Settles O40: a report stored, a peer mark taken as a sample or as a fault, and what is discarded. -/
theorem reportAndPeerMark : Obligations.ReportAndPeerMark := by
  unfold Obligations.ReportAndPeerMark
  refine ⟨?_, ?_, ?_⟩
  · intro s u dt heard body l x h named live opened inRange words severity raise
    have fits : (LaneFrame.report body).fits = true := by simpa [LaneFrame.fits] using words
    refine ⟨fun other => ?_, fun pending => frameEvent_idle h fits fun c => ?_⟩
    · have ran := frameEvent_at h fits
      rw [deliver_report named live opened inRange words] at ran
      obtain ⟨slots, alarms⟩ := report_stored (body := body) live other
      refine ⟨_, (exec_report dt ⟨x.port, heard⟩ body).trans ran, ?_, fun k apart => ?_, ?_, ?_⟩
      · exact settle_touches (by simp) <| takeReport_touches (by simp) (by simp) (by simp) (by simp) .rfl'
      · rw [settle_slot, slots, if_neg (Ne.symm apart)]
      · rw [settle_slot, slots, if_pos rfl]
        rfl
      · rw [settle_alarm_slots, alarms]
        rfl
    · rw [deliver_report named live opened inRange words, takeReport_pending live pending]
  · intro s u dt heard body l x h named live opened valid
    refine ⟨fun e r bound symbol => ?_, fun e bound none timely => frameEvent_idle h rfl fun c => ?_,
      fun unbound => frameEvent_idle h rfl fun c => ?_⟩
    · intro i o serving after
      have offset : peerOffset body r = o := rfl
      have taken (running : serving) : exec (.peerMark dt ⟨x.port, heard⟩ body) s = .next (u.peerTaken i body r).settle := by
        obtain ⟨serves, timely⟩ := running
        rw [exec_peerMark, frameEvent_at h rfl]
        rw [peerMark_delivered named live opened valid bound symbol (RefEntry.live_iff.mpr serves) timely]
      have good (one : body.valid = 1#8) (quiet : ¬ (u.tb.state = .locked ∧ 500000000 < o.natAbs)) :
          u.peerTaken i body r = (u.updRef i fun e => e.restarted u.clock.osc).goodOffset i o r.step :=
        peerTaken_good (by rw [one]; decide) (Bool.eq_false_iff.mpr (mt mismatched_iff.mp quiet))
      refine ⟨fun running one quiet usable => ?_, fun running one quiet qualifying => ?_, fun running bad => ?_⟩
      · have ran := taken running
        rw [good one quiet] at ran
        obtain ⟨frame, refs, wires⟩ := goodOffset_of_usable (s := u) (i := i) (o := o) (mark := r.step)
          (g := fun e => e.restarted u.clock.osc) (fun _ => rfl) usable
        refine ⟨_, ran, settle_touches (by simp) (frame.mono (by simp)), ?_, fun j apart => ?_, ?_⟩
        · rw [settle_ref, refs, if_pos rfl]
          rfl
        · rw [settle_ref, refs, if_neg (Ne.symm apart)]
        · rw [settle_wires, wires]
      · have ran := taken running
        rw [good one quiet] at ran
        obtain ⟨frame, refs⟩ := goodOffset_of_qualifying (s := u) (i := i) (o := o) (mark := r.step)
          (g := fun e => e.restarted u.clock.osc) (fun _ => rfl) (fun _ => rfl) qualifying
        refine ⟨_, ran, settle_touches (by simp) (frame.mono (by simp)), fun j apart => ?_, ?_⟩
        · rw [settle_ref, refs, if_neg (Ne.symm apart)]
        · rw [settle_ref, refs, if_pos rfl, peerHeld_peer]
          exact if_congr wanders_iff rfl <| if_congr Iff.rfl rfl <| if_congr (by simp [i]) rfl rfl
      · have ran := taken running
        have faults : body.valid = 0#8 ∨ u.mismatched (peerOffset body r) = true := bad.imp_right mismatched_iff.mpr
        rw [peerTaken_bad faults] at ran
        have restarted (j : RefIx) := updRef_ref (s := u) i j fun e => e.restarted u.clock.osc
        have faulted := faultRef_ref (s := u.updRef i fun e => e.restarted u.clock.osc) (i := i)
          (cause := if body.valid = 0#8 then .reported else .labelMismatch)
          (by rw [restarted, if_pos rfl]; exact RefEntry.live_iff.mpr running.1)
        refine ⟨_, ran, ?_, fun j apart => ?_, ?_, ?_⟩
        · exact settle_touches (by decide) <| faultRef_touches (by decide) (by decide) (by decide) (by decide) (by decide)
            (by decide) (by decide) (by decide) <| updRef_touches (by decide) (fun _ => rfl) .rfl'
        · rw [settle_ref, faulted, if_neg (Ne.symm apart), restarted, if_neg (Ne.symm apart)]
        · rw [settle_ref, faulted, if_pos rfl, restarted, if_pos rfl]
          rfl
        · rw [settle_ref, faulted, if_pos rfl, restarted, if_pos rfl]
          rfl
    · rw [deliver_peerMark named live opened valid, takePeerMark_bound live bound, none, peerMarked_symbolless timely]
    · rw [deliver_peerMark named live opened valid, takePeerMark_unbound live unbound]
  · intro s u dt p heard discards
    refine ⟨fun body h words bad => frameEvent_idle h ?_ fun c => ?_, fun body h bad => frameEvent_idle h rfl fun c => ?_⟩
    · simpa [LaneFrame.fits] using words
    · unfold State.deliver
      dsimp only
      split
      next inRange =>
        refine forAddressed_none (bad.resolve_left ?_)
        have low : body.severity.toNat ≤ 4 ∧ body.words.length ≤ 6 := by simpa [reportInRange] using inRange
        exact Nat.not_lt.mpr low.1
      next => rfl
    · unfold State.deliver
      dsimp only
      split
      next inRange => exact forAddressed_none (bad.resolve_left (Nat.not_lt.mpr inRange))
      next => rfl

end Sys2Proof.Machine

/-! ### Room announcements (09:R158) -/
namespace Sys2Proof.Machine
open Sys2Proof

variable {s u : State} {dt : Nat}

/-! #### Raises in turn -/

/-- The state after raises in turn. -/
def State.raiseAll (s : State) (rs : List Raise) : State := rs.foldl State.raise s

theorem raiseAll_append (xs ys : List Raise) : (s.raiseAll xs).raiseAll ys = s.raiseAll (xs ++ ys) :=
  List.foldl_append.symm

theorem raiseAll_touches (rs : List Raise) : s.OnlyTouches [.slots, .rooms] (s.raiseAll rs) := by
  unfold State.raiseAll
  induction rs generalizing s with
  | nil => exact .rfl'
  | cons r rs ih => exact (raise_touches (by simp) (by simp) .rfl').trans ih

/-- The alarm unit takes each raise at the present site second, which no raise changes. -/
theorem raiseAll_alarm (rs : List Raise) :
    (s.raiseAll rs).alarm = rs.foldl (fun a r => a.raise s.siteSec r) s.alarm := by
  unfold State.raiseAll
  induction rs generalizing s with
  | nil => rfl
  | cons r rs ih => exact ih

theorem raise_if (c : Prop) [Decidable c] (r : Raise) : (if c then s.raise r else s) = s.raiseAll (if c then [r] else []) := by
  split <;> rfl

/-- A walk whose turn raises what `item` reads, which no raise changes, raises what all of them give, in index order. -/
theorem forAll_raises {n : Nat} {turn : Fin n → State → State} {item : State → Fin n → List Raise}
    (own : ∀ i t, turn i t = t.raiseAll (item t i)) (kept : ∀ t rs, item (t.raiseAll rs) = item t) (s : State) :
    forAll turn s = s.raiseAll ((List.finRange n).flatMap (item s)) := by
  unfold forAll
  generalize List.finRange n = xs
  induction xs generalizing s with
  | nil => rfl
  | cons i xs ih => rw [List.foldl_cons, own, ih, kept, raiseAll_append, List.flatMap_cons]

/-! #### A raise and the announcements waiting -/

theorem AlarmUnit.raise_withRooms (a : AlarmUnit) (q : List Block) (sec : Nat) (r : Raise) :
    ({ a with rooms := q } : AlarmUnit).raise sec r = { a.raise sec r with rooms := q } := by
  generalize moved : ({ a with rooms := q } : AlarmUnit) = b
  have found : b.find r.kind r.subject = a.find r.kind r.subject := by rw [← moved]; rfl
  have free : b.freeGeneral = a.freeGeneral := by rw [← moved]; rfl
  have given : b.displaced (b.severityOf r) = a.displaced (a.severityOf r) := by rw [← moved]; rfl
  unfold AlarmUnit.raise
  rw [found, free, given, ← moved]
  cases a.find r.kind r.subject with
  | some i => dsimp only; cases a.slots[i].record <;> rfl
  | none =>
    cases a.freeGeneral with
    | some i => rfl
    | none =>
      cases a.displaced (a.severityOf r) with
      | some i => rfl
      | none =>
        dsimp only
        unfold AlarmUnit.raiseOverflow
        cases a.slots[(0 : SlotIx)].record <;> rfl

/-- Raises leave the announcements waiting, and the slots do not depend on them. -/
theorem AlarmUnit.raises_withRooms (a : AlarmUnit) (q : List Block) (sec : Nat) (rs : List Raise) :
    rs.foldl (fun b r => b.raise sec r) { a with rooms := q } = { rs.foldl (fun b r => b.raise sec r) a with rooms := q } := by
  induction rs generalizing a with
  | nil => rfl
  | cons r rs ih => rw [List.foldl_cons, AlarmUnit.raise_withRooms, ih, List.foldl_cons]

/-! #### What each block raises again -/

/-- The standing conditions of the timebase (01:R22). -/
def State.timebaseStandings (s : State) : List Raise :=
  match s.tb.state with
  | .freeRun => if s.mgmt.setup = .closed then [⟨.freeRun, 0, none, none, none⟩] else []
  | .holdover | .assisted => [⟨.holdover, 0, none, none, none⟩]
  | .spent => [⟨.holdoverSpent, 0, none, none, none⟩]
  | .acquiring | .locked => []

/-- The standing condition of a reference entry (02:R49). -/
def State.refStanding (s : State) (i : RefIx) : Option Raise :=
  match (s.ref i).state with
  | .faulted => some ⟨.refFaulted, i.val, none, (s.ref i).faultCause.map .cause, none⟩
  | .lockedOut => some ⟨.refLockedOut, i.val, none, (s.ref i).faultCause.map .cause, none⟩
  | .disabled | .qualifying | .usable => none

/-- The standing condition of a port (04:R83). -/
def State.portStanding (s : State) (p : PortIx) : Option Raise :=
  match (s.port p).state with
  | .down => some ⟨.portDown, p.val, none, none, none⟩
  | .conflict => some ⟨.portConflict, p.val, none, none, none⟩
  | .closed | .opened => none

/-- The standing condition of an output (08:R147). -/
def State.outStanding (s : State) (i : OutIx) : Option Raise :=
  if (s.out i).state = .squelched then some ⟨.outputSquelched, i.val, none, none, none⟩ else none

/-- The standing conditions of a live lease at site class `cls` (07:R138). -/
def Lease.standings (x : Lease) (l : LeaseIx) (cls : SiteClass) : List Raise :=
  (if x.state = .pending then [⟨.leasePending, l.val, some x.tag, none, none⟩] else []) ++
  (if x.state = .inService ∧ ¬ cls.rank ≤ x.required.rank then [⟨.leaseDegraded, l.val, some x.tag, none, none⟩] else []) ++
  (if x.state = .suspended then [⟨.leaseSuspended, l.val, some x.tag, x.suspendCause.map .suspended, none⟩] else []) ++
  (if x.delayJump then [⟨.delayJump, l.val, some x.tag, none, none⟩] else []) ++
  (x.report.severity.toList.map fun v =>
    ⟨.unitReported, l.val, some x.tag, some (.sequence x.report.sequence.toNat), some v⟩)

/-- The standing conditions that a block raises again when room is announced to it (09:R158). -/
def State.standings (s : State) : Block → List Raise
  | .timebase => s.timebaseStandings
  | .referenceUnit => (List.finRange 8).filterMap s.refStanding
  | .ports => (List.finRange 8).filterMap s.portStanding
  | .outputs => (List.finRange 4).filterMap s.outStanding
  | .leaseController =>
    ((List.finRange 32).flatMap fun l => (s.lease l).toList.flatMap fun x => x.standings l s.tb.siteClass) ++
      if 32 ≤ s.liveCount then [⟨.leaseTableFull, 0, none, none, none⟩] else []

theorem roomTimebase_raises (s : State) : s.roomTimebase = s.raiseAll s.timebaseStandings := by
  unfold State.roomTimebase State.timebaseStandings
  cases s.tb.state with
  | freeRun =>
    unfold State.raiseFreeRun State.setupClosed
    exact (if_congr (by simp) rfl rfl).trans (raise_if (s.mgmt.setup = .closed) _)
  | acquiring => rfl
  | locked => rfl
  | holdover => rfl
  | assisted => rfl
  | spent => rfl

/-- A walk that raises at most once a turn. -/
theorem forAll_raisesOne {n : Nat} {turn : Fin n → State → State} {item : State → Fin n → Option Raise}
    (own : ∀ i t, turn i t = t.raiseAll (item t i).toList) (kept : ∀ t rs, item (t.raiseAll rs) = item t) (s : State) :
    forAll turn s = s.raiseAll ((List.finRange n).filterMap (item s)) := by
  rw [List.filterMap_eq_flatMap_toList]
  exact forAll_raises (item := fun t i => (item t i).toList) own (fun t rs => by rw [kept]) s

theorem roomReferences_raises (s : State) : s.roomReferences = s.raiseAll ((List.finRange 8).filterMap s.refStanding) := by
  refine forAll_raisesOne (item := State.refStanding) (fun i t => ?_) (fun t rs => funext fun i => ?_) s
  · unfold State.refStanding State.raiseRef
    cases (t.ref i).state <;> rfl
  · unfold State.refStanding
    rw [(raiseAll_touches rs).ref (by simp)]

theorem roomPorts_raises (s : State) : s.roomPorts = s.raiseAll ((List.finRange 8).filterMap s.portStanding) := by
  refine forAll_raisesOne (item := State.portStanding) (fun p t => ?_) (fun t rs => funext fun p => ?_) s
  · unfold State.portStanding
    cases (t.port p).state <;> rfl
  · unfold State.portStanding
    rw [(raiseAll_touches rs).port (by simp)]

theorem roomOutputs_raises (s : State) : s.roomOutputs = s.raiseAll ((List.finRange 4).filterMap s.outStanding) := by
  refine forAll_raisesOne (item := State.outStanding) (fun i t => ?_) (fun t rs => funext fun i => ?_) s
  · unfold State.outStanding
    by_cases squelched : (t.out i).state = .squelched
    · rw [if_pos squelched, if_pos squelched]
      rfl
    · rw [if_neg squelched, if_neg squelched]
      rfl
  · unfold State.outStanding
    rw [(raiseAll_touches rs).out (by simp)]

theorem raiseLease_live {l : LeaseIx} {x : Lease} {k : AlarmKind} {d : Option Detail} (live : s.lease l = some x) :
    s.raiseLease l k d = s.raise ⟨k, l.val, some x.tag, d, none⟩ := by
  unfold State.raiseLease
  rw [live]

/-- One standing condition of a live lease: raised if it holds. -/
theorem raiseLease_if {l : LeaseIx} {x : Lease} {k : AlarmKind} {d : Option Detail} (live : s.lease l = some x) (c : Prop)
    [Decidable c] : (if c then s.raiseLease l k d else s) = s.raiseAll (if c then [⟨k, l.val, some x.tag, d, none⟩] else []) := by
  rw [raiseLease_live live, raise_if]

/-- The report of a lease, raised if it has a severity. -/
theorem reportAlarm_raises (s : State) (l : LeaseIx) (x : Lease) :
    (if x.report.severity.isSome then s.reportAlarm l x else s) = s.raiseAll (x.report.severity.toList.map fun v =>
      ⟨.unitReported, l.val, some x.tag, some (.sequence x.report.sequence.toNat), some v⟩) := by
  unfold State.reportAlarm
  cases x.report.severity <;> rfl

theorem raiseStandings_raises {l : LeaseIx} {x : Lease} (live : s.lease l = some x) :
    s.raiseStandings l x = s.raiseAll (x.standings l s.tb.siteClass) := by
  have stays (rs : List Raise) : (s.raiseAll rs).lease l = some x := by rw [(raiseAll_touches rs).lease (by simp), live]
  have degraded : x.standing s.tb.siteClass = some false ↔ x.state = .inService ∧ ¬ s.tb.siteClass.rank ≤ x.required.rank := by
    unfold Lease.standing SiteClass.meets
    split <;> simp_all
  unfold State.raiseStandings Lease.standings
  dsimp only
  rw [raiseLease_if live, raiseLease_if (stays _), raiseAll_append, raiseLease_if (stays _), raiseAll_append,
    raiseLease_if (stays _), raiseAll_append, reportAlarm_raises, raiseAll_append, if_congr degraded rfl rfl]

/-- The turn of lease slot `l` in the lease controller's walk. -/
def State.leaseTurn (l : LeaseIx) (s : State) : State :=
  match s.lease l with
  | none => s
  | some x => s.raiseStandings l x

theorem leaseTurn_raises (s : State) (l : LeaseIx) :
    s.leaseTurn l = s.raiseAll ((s.lease l).toList.flatMap fun x => x.standings l s.tb.siteClass) := by
  unfold State.leaseTurn
  cases live : s.lease l with
  | none => rfl
  | some x => simpa using raiseStandings_raises live

theorem roomLeases_eq (s : State) : s.roomLeases =
    if 32 ≤ s.liveCount then (forAll State.leaseTurn s).raise ⟨.leaseTableFull, 0, none, none, none⟩
    else forAll State.leaseTurn s := rfl

theorem roomLeases_raises (s : State) : s.roomLeases = s.raiseAll (s.standings .leaseController) := by
  have walked : forAll State.leaseTurn s = s.raiseAll _ :=
    forAll_raises (item := fun t l => (t.lease l).toList.flatMap fun x => x.standings l t.tb.siteClass)
      (fun l t => leaseTurn_raises t l)
      (fun t rs => funext fun l => by rw [(raiseAll_touches rs).lease (by simp), (raiseAll_touches rs).tb (by simp)]) s
  unfold State.standings
  dsimp only
  rw [roomLeases_eq, walked, ← raiseAll_append]
  exact raise_if _ _

theorem roomAt_raises (s : State) (b : Block) : s.roomAt b = s.raiseAll (s.standings b) := by
  cases b with
  | timebase => exact roomTimebase_raises s
  | referenceUnit => exact roomReferences_raises s
  | leaseController => exact roomLeases_raises s
  | ports => exact roomPorts_raises s
  | outputs => exact roomOutputs_raises s

/-- An announcement taken: it waits no more, and the block's standing conditions are raised. -/
theorem takeRoom_waiting {b : Block} (waits : b ∈ s.alarm.rooms) :
    (s.takeRoom b).alarm =
      { (s.standings b).foldl (fun a r => a.raise s.siteSec r) s.alarm with rooms := s.alarm.rooms.erase b } := by
  have same : (s.setAlarm { s.alarm with rooms := s.alarm.rooms.erase b }).standings b = s.standings b := by cases b <;> rfl
  unfold State.takeRoom
  rw [if_pos (List.contains_iff_mem.mpr waits), roomAt_raises, raiseAll_alarm, same, ← AlarmUnit.raises_withRooms]
  rfl

theorem takeRoom_idle {b : Block} (idle : b ∉ s.alarm.rooms) : s.takeRoom b = s := by
  unfold State.takeRoom
  rw [if_neg (mt List.contains_iff_mem.mp idle)]

/-- Settles O52: each block's walk as a list of raises, and nothing without an announcement. -/
theorem roomRaisesStandingConditions : Obligations.RoomRaisesStandingConditions := by
  unfold Obligations.RoomRaisesStandingConditions
  intro s u dt b h raises
  have listed : raises = u.standings b := by cases b <;> rfl
  refine ⟨fun waits => ?_, fun idle => ?_⟩
  · have taken := takeRoom_waiting waits
    refine ⟨(u.takeRoom b).settle, (exec_roomAnnouncement dt b).trans (event_at h), ?_, ?_, ?_⟩
    · exact settle_touches (by simp) <| takeRoom_touches (by simp) (by simp) .rfl'
    · rw [settle_alarm_rooms, taken]
    · rw [settle_alarm_slots, taken, listed]
  · refine ⟨(u.takeRoom b).settle, (exec_roomAnnouncement dt b).trans (event_at h), ?_⟩
    rw [takeRoom_idle idle]
    exact settle_touches (by simp) .rfl'

end Sys2Proof.Machine

/-! ### CHANGE of the timebase record and of a port (01:R23, 04:R82; 10:R171, R173) -/
namespace Sys2Proof.Machine
open Sys2Proof

variable {s u : State} {dt : Nat} {x : Executing} {stage : Stage}

/-! #### The checks of a CHANGE (10:R169, R173) -/

theorem changing_pass {tab : Table} {k : Nat} {apply : Nat → State → State} (named : x.req.NamesIndex k)
    (known : requestKnown x.kind x.table x.req = true) (key : k ∈ tableKeys tab) (live : s.recordAt tab k = true)
    (fresh : x.req.revision = s.slotRevision tab k) (asked : x.req.fields ≠ []) : s.changing x tab apply = apply k s := by
  have index : s.keyNamed tab x.req = some k := keyNamed_index named key
  obtain ⟨-, -, count, -⟩ := named
  unfold State.changing
  rw [checked_pass known count, atRecord_pass index live fun _ => fresh]
  unfold State.changeAt
  rw [if_neg]
  simpa using asked

/-! #### Field values (10:R171) -/

theorem within_ofNat {id : Byte} {lo hi v : Nat} (low : lo ≤ v) (high : v ≤ hi) (word : hi < 2 ^ 32) :
    within lo hi ⟨id, BitVec.ofNat 32 v⟩ = some v := by
  have value : (BitVec.ofNat 32 v).toNat = v := by
    rw [BitVec.toNat_ofNat]
    exact Nat.mod_eq_of_lt (by omega)
  unfold within
  simp [value, low, high]

theorem withinSigned_ofInt {id : Byte} {m v : Int} (low : -m ≤ v) (high : v ≤ m) (word : m < 2 ^ 31) :
    withinSigned m ⟨id, BitVec.ofInt 32 v⟩ = some v := by
  have value : (BitVec.ofInt 32 v).toInt = v := by
    rw [BitVec.toInt_ofInt]
    exact Int.bmod_eq_of_le (by norm_num; omega) (by norm_num; omega)
  unfold withinSigned
  simp [value, low, high]

theorem yesNo_bool {id : Byte} (b : Bool) : yesNo ⟨id, if b then 1 else 0⟩ = some b := by
  cases b <;> rfl

theorem putFields_once {α : Type} {put : α → Field → Option α} {r : α} {fs : List Field} (once : (fs.map fun f => f.id).Nodup) :
    putFields put r fs = fs.foldlM put r := by
  unfold putFields namedOnce
  exact if_pos (decide_eq_true once)

/-! #### A port (04:R82) -/

theorem putPort_settings {r : Port} {asymmetry : Int} {limit interval : Nat} (asym : -10000 ≤ asymmetry ∧ asymmetry ≤ 10000)
    (lim : 1 ≤ limit ∧ limit ≤ 1000) (scan : 1 ≤ interval ∧ interval ≤ 600) :
    putFields putPort r
      [⟨3, BitVec.ofInt 32 asymmetry⟩, ⟨4, BitVec.ofNat 32 limit⟩, ⟨5, BitVec.ofNat 32 interval⟩] =
      some { r with asymmetry := asymmetry, spreadLimit := limit, scanInterval := interval } := by
  have first (t : Port) : putPort t ⟨3, BitVec.ofInt 32 asymmetry⟩ = some { t with asymmetry := asymmetry } :=
    congrArg (Option.map _) (withinSigned_ofInt asym.1 asym.2 (by decide))
  have second (t : Port) : putPort t ⟨4, BitVec.ofNat 32 limit⟩ = some { t with spreadLimit := limit } :=
    congrArg (Option.map _) (within_ofNat lim.1 lim.2 (by decide))
  have third (t : Port) : putPort t ⟨5, BitVec.ofNat 32 interval⟩ = some { t with scanInterval := interval } :=
    congrArg (Option.map _) (within_ofNat scan.1 scan.2 (by decide))
  rw [putFields_once (by simp)]
  simp only [List.foldlM_cons, List.foldlM_nil, first, second, third, Option.bind_eq_bind, Option.bind_some, Option.pure_def]

theorem actChangePort_settings {p : PortIx} {r : Port} (named : x.req.NamesIndex p.val)
    (known : requestKnown x.kind x.table x.req = true) (fresh : x.req.revision = (s.port p).rev) (asked : x.req.fields ≠ [])
    (put : putFields putPort (s.port p) x.req.fields = some r) :
    actChangePort x s = (s.setPort p { r with rev := r.rev + 1 }).done x .port p.val := by
  unfold actChangePort
  rw [changing_pass named known (by simp [tableKeys]) (by simp [State.recordAt, State.recordFields, toIx])
    (by simpa [State.slotRevision, toIx] using fresh) asked, atIx_fin]
  unfold State.applyPort
  rw [put]

/-! #### The fields of the timebase record (01:R4) -/

/-- The selection and sampling settings. -/
theorem putTimebase_sampling {t : Timebase} (revertive : Bool) {wait threshold slew lock wander minLock : Nat}
    (policy : StepPolicy) (waits : 1 ≤ wait ∧ wait ≤ 3600) (steps : 100 ≤ threshold ∧ threshold ≤ 1000000)
    (slews : 1 ≤ slew ∧ slew ≤ 1000) (locks : 10 ≤ lock ∧ lock ≤ 1000) (wanders : 50 ≤ wander ∧ wander ≤ 100000)
    (holds : minLock ≤ 86400) :
    putFields putTimebase t [⟨6, if revertive then 1 else 0⟩, ⟨7, BitVec.ofNat 32 wait⟩, ⟨8, BitVec.ofNat 32 policy.code⟩,
        ⟨9, BitVec.ofNat 32 threshold⟩, ⟨10, BitVec.ofNat 32 slew⟩, ⟨11, BitVec.ofNat 32 lock⟩,
        ⟨12, BitVec.ofNat 32 wander⟩, ⟨13, BitVec.ofNat 32 minLock⟩] =
      some { t with
        revertive := revertive, waitToRestore := wait, stepPolicy := policy, stepThreshold := threshold, slewLimit := slew
        lockThreshold := lock, wanderLimit := wander, minLockTime := minLock } := by
  have six (t : Timebase) : putTimebase t ⟨6, if revertive then 1 else 0⟩ = some { t with revertive := revertive } :=
    congrArg (Option.map _) (yesNo_bool revertive)
  have seven (t : Timebase) : putTimebase t ⟨7, BitVec.ofNat 32 wait⟩ = some { t with waitToRestore := wait } :=
    congrArg (Option.map _) (within_ofNat waits.1 waits.2 (by decide))
  have eight (t : Timebase) : putTimebase t ⟨8, BitVec.ofNat 32 policy.code⟩ = some { t with stepPolicy := policy } := by
    cases policy <;> rfl
  have nine (t : Timebase) : putTimebase t ⟨9, BitVec.ofNat 32 threshold⟩ = some { t with stepThreshold := threshold } :=
    congrArg (Option.map _) (within_ofNat steps.1 steps.2 (by decide))
  have ten (t : Timebase) : putTimebase t ⟨10, BitVec.ofNat 32 slew⟩ = some { t with slewLimit := slew } :=
    congrArg (Option.map _) (within_ofNat slews.1 slews.2 (by decide))
  have eleven (t : Timebase) : putTimebase t ⟨11, BitVec.ofNat 32 lock⟩ = some { t with lockThreshold := lock } :=
    congrArg (Option.map _) (within_ofNat locks.1 locks.2 (by decide))
  have twelve (t : Timebase) : putTimebase t ⟨12, BitVec.ofNat 32 wander⟩ = some { t with wanderLimit := wander } :=
    congrArg (Option.map _) (within_ofNat wanders.1 wanders.2 (by decide))
  have thirteen (t : Timebase) : putTimebase t ⟨13, BitVec.ofNat 32 minLock⟩ = some { t with minLockTime := minLock } :=
    congrArg (Option.map _) (within_ofNat (Nat.zero_le _) holds (by decide))
  rw [putFields_once (by simp)]
  simp only [List.foldlM_cons, List.foldlM_nil, six, seven, eight, nine, ten, eleven, twelve, thirteen, Option.bind_eq_bind,
    Option.bind_some, Option.pure_def]

/-- The class table and the holdover profile. -/
theorem putTimebase_table {t : Timebase} {thrA thrB thrC thrD g0 aging rate : Nat} (inA : 1 ≤ thrA ∧ thrA ≤ 1000000)
    (inB : 1 ≤ thrB ∧ thrB ≤ 1000000) (inC : 1 ≤ thrC ∧ thrC ≤ 1000000) (inD : 1 ≤ thrD ∧ thrD ≤ 1000000)
    (inG : g0 ≤ 1000) (ages : 1 ≤ aging ∧ aging ≤ 65535) (rates : rate ≤ 1000) :
    putFields putTimebase t [⟨14, BitVec.ofNat 32 thrA⟩, ⟨15, BitVec.ofNat 32 thrB⟩, ⟨16, BitVec.ofNat 32 thrC⟩,
        ⟨17, BitVec.ofNat 32 thrD⟩, ⟨18, BitVec.ofNat 32 g0⟩, ⟨19, BitVec.ofNat 32 aging⟩, ⟨20, BitVec.ofNat 32 rate⟩] =
      some { t with thrA := thrA, thrB := thrB, thrC := thrC, thrD := thrD, g0 := g0, aging := aging, assistedRate := rate } := by
  have fourteen (t : Timebase) : putTimebase t ⟨14, BitVec.ofNat 32 thrA⟩ = some { t with thrA := thrA } :=
    congrArg (Option.map _) (within_ofNat inA.1 inA.2 (by decide))
  have fifteen (t : Timebase) : putTimebase t ⟨15, BitVec.ofNat 32 thrB⟩ = some { t with thrB := thrB } :=
    congrArg (Option.map _) (within_ofNat inB.1 inB.2 (by decide))
  have sixteen (t : Timebase) : putTimebase t ⟨16, BitVec.ofNat 32 thrC⟩ = some { t with thrC := thrC } :=
    congrArg (Option.map _) (within_ofNat inC.1 inC.2 (by decide))
  have seventeen (t : Timebase) : putTimebase t ⟨17, BitVec.ofNat 32 thrD⟩ = some { t with thrD := thrD } :=
    congrArg (Option.map _) (within_ofNat inD.1 inD.2 (by decide))
  have eighteen (t : Timebase) : putTimebase t ⟨18, BitVec.ofNat 32 g0⟩ = some { t with g0 := g0 } :=
    congrArg (Option.map _) (within_ofNat (Nat.zero_le _) inG (by decide))
  have nineteen (t : Timebase) : putTimebase t ⟨19, BitVec.ofNat 32 aging⟩ = some { t with aging := aging } :=
    congrArg (Option.map _) (within_ofNat ages.1 ages.2 (by decide))
  have twenty (t : Timebase) : putTimebase t ⟨20, BitVec.ofNat 32 rate⟩ = some { t with assistedRate := rate } :=
    congrArg (Option.map _) (within_ofNat (Nat.zero_le _) rates (by decide))
  rw [putFields_once (by simp)]
  simp only [List.foldlM_cons, List.foldlM_nil, fourteen, fifteen, sixteen, seventeen, eighteen, nineteen, twenty,
    Option.bind_eq_bind, Option.bind_some, Option.pure_def]

/-! #### The owning checks (01:R23) -/

theorem actChangeTimebase_named (named : x.req.NamesIndex 0) (known : requestKnown x.kind x.table x.req = true)
    (fresh : x.req.revision = s.tb.rev) (asked : x.req.fields ≠ []) : actChangeTimebase x s = s.applyTimebase x := by
  unfold actChangeTimebase
  rw [changing_pass (tab := .timebase) named known (by simp [tableKeys]) (by simp [State.recordAt, State.recordFields]) fresh asked]

theorem increasing_iff {t : Timebase} : t.increasing = true ↔ t.thrA < t.thrB ∧ t.thrB < t.thrC ∧ t.thrC < t.thrD := by
  unfold Timebase.increasing
  rw [Bool.and_eq_true, Bool.and_eq_true, decide_eq_true_iff, decide_eq_true_iff, decide_eq_true_iff, and_assoc]

theorem applyTimebase_unordered {t : Timebase} (put : putFields putTimebase s.tb x.req.fields = some t)
    (unordered : t.increasing = false) : s.applyTimebase x = s.refuse x .badField := by
  unfold State.applyTimebase
  rw [put]
  dsimp only
  rw [unordered]
  rfl

theorem applyTimebase_closed {t : Timebase} (put : putFields putTimebase s.tb x.req.fields = some t)
    (ordered : t.increasing = true) (closed : s.mgmt.setup = .closed)
    (profile : namedSome x.req.fields [14, 15, 16, 17, 18, 19, 20] = true) : s.applyTimebase x = s.refuse x .setupClosed := by
  unfold State.applyTimebase State.setupClosed
  rw [put]
  dsimp only
  rw [ordered, closed, profile]
  rfl

theorem applyTimebase_taken {t : Timebase} (put : putFields putTimebase s.tb x.req.fields = some t)
    (ordered : t.increasing = true)
    (allowed : s.mgmt.setup = .opened ∨ namedSome x.req.fields [14, 15, 16, 17, 18, 19, 20] = false) :
    s.applyTimebase x = ((s.setTb { t with rev := t.rev + 1 }).timebaseChanged x.req.fields).done x .timebase 0 := by
  unfold State.applyTimebase State.setupClosed
  rw [put]
  dsimp only
  rw [ordered]
  rcases allowed with opened | none
  · rw [opened]
    rfl
  · rw [none, Bool.and_false]
    rfl

/-! #### The effects (01:R23, 03:R64) -/

theorem timebaseChanged_sampling {fs : List Field} (table : namedSome fs [14, 15, 16, 17] = false)
    (revert : namedSome fs [6, 7] = true) : s.timebaseChanged fs = s.reworkRestore := by
  unfold State.timebaseChanged
  rw [table, revert]
  rfl

theorem timebaseChanged_table {fs : List Field} (table : namedSome fs [14, 15, 16, 17] = true)
    (revert : namedSome fs [6, 7] = false) : s.timebaseChanged fs = s.deriveClass.tableMoved := by
  unfold State.timebaseChanged
  rw [table, revert]
  rfl

theorem reworkRestore_settings (s : State) : s.reworkRestore.tb.settings = s.tb.settings := by
  rcases reworkRestore_tb s with ⟨r, stored⟩ | ⟨i, r, -, switched⟩
  · rw [stored]
    rfl
  · rw [switched]
    rfl

/-- With revertive no there is no restore candidate (03:R58). -/
theorem reworkRestore_nonrevertive (no : s.tb.revertive = false) : s.reworkRestore.tb = { s.tb with restore := none } := by
  have none_now : s.restoreNow = none := by
    unfold State.restoreNow
    rw [no]
  have stored : s.storeRestore.tb.restore = none := none_now
  unfold State.reworkRestore
  rw [switchIfDue_idle (fun i some => by rw [stored] at some; cases some), storeRestore_tb, none_now]

theorem setTb_retouches {s₀ : State} {ps : List Part} {t : Timebase} (htb : Part.tb ∈ ps) (hset : Part.tbSettings ∈ ps)
    (h : s₀.OnlyTouches ps s) : s₀.OnlyTouches ps (s.setTb t) :=
  h.trans fun p hq => by
    cases p <;> first
      | exact absurd htb hq
      | exact absurd hset hq
      | simp [State.Same]

theorem tableMoved_touches {s₀ : State} {ps : List Part} (htb : Part.tb ∈ ps) (hslots : Part.slots ∈ ps)
    (hrooms : Part.rooms ∈ ps) (h : s₀.OnlyTouches ps s) : s₀.OnlyTouches ps s.tableMoved := by
  unfold State.tableMoved
  split
  · exact raise_touches hslots hrooms <| clearAlarm_touches hslots hrooms <| updTb_touches htb (fun _ => rfl) h
  · exact spentTest_touches htb hslots hrooms h

theorem setPort_retouches {s₀ : State} {ps : List Part} {p : PortIx} {r : Port} (hports : Part.ports ∈ ps)
    (hset : Part.portSettings ∈ ps) (hstate : Part.portStates ∈ ps) (h : s₀.OnlyTouches ps s) :
    s₀.OnlyTouches ps (s.setPort p r) :=
  h.trans fun q hq => by
    cases q <;> first
      | exact absurd hports hq
      | exact absurd hset hq
      | exact absurd hstate hq
      | simp [State.Same]

theorem requestKnown_change {table : Byte} {req : Request} {k : Nat} (named : req.NamesIndex k)
    (taken : tableTaken 0x03 (Table.ofCode table.toNat) = true) : requestKnown 0x03 table req = true := by
  obtain ⟨form, group, -, -⟩ := named
  unfold requestKnown
  rw [form, decide_eq_true group, Bool.and_true]
  exact (Bool.and_eq_true _ _).mpr ⟨taken, rfl⟩

/-- Settles O53: each list of fields put into its record, then the owning checks and effects. -/
theorem changeTimebaseAndPort : Obligations.ChangeTimebaseAndPort := by
  unfold Obligations.ChangeTimebaseAndPort
  intro s u dt req stage h
  refine ⟨?_, ?_, ?_⟩
  · intro revertive wait threshold slew lock wander minLock policy named fresh acts fields waits steps slews locks wanders holds
      ab bc cd
    have put := putTimebase_sampling (t := u.tb) revertive policy waits steps slews locks wanders holds
    rw [← fields] at put
    generalize changed : ({ u.tb with
      revertive := revertive, waitToRestore := wait, stepPolicy := policy, stepThreshold := threshold, slewLimit := slew
      lockThreshold := lock, wanderLimit := wander, minLockTime := minLock } : Timebase) = b at put
    have ordered : b.increasing = true := by
      rw [← changed]
      exact increasing_iff.mpr ⟨ab, bc, cd⟩
    obtain ⟨m, t, ran, frame, answered, left⟩ := request_done (act := actChangeTimebase)
      (work := fun w => (w.setTb { b with rev := b.rev + 1 }).reworkRestore)
      (ps := [.mgmt, .tb, .tbSettings, .slots, .rooms, .pins]) h acts (tab := .timebase) (k := 0) (by decide) (by simp) (by simp)
      (fun m setup => reworkRestore_touches (by simp) (by simp) (by simp) <| setTb_retouches (by simp) (by simp) <|
        setMgmt_touches (by simp) setup .rfl')
      (fun m setup => by
        rw [actChangeTimebase_named named (requestKnown_change named rfl) fresh (by simp [fields]),
          applyTimebase_taken put ordered (.inr (by rw [fields]; rfl)),
          timebaseChanged_sampling (by rw [fields]; rfl) (by rw [fields]; rfl)])
    have record := left.tb (by simp)
    refine ⟨t, ran, frame, answered, ?_, fun no => ?_⟩
    · rw [record, reworkRestore_settings, ← changed]
      rfl
    · rw [record, reworkRestore_nonrevertive (by rw [← changed]; exact no), ← changed]
      exact ⟨rfl, rfl, rfl, rfl⟩
  · intro thrA thrB thrC thrD g0 aging rate named fresh acts fields inA inB inC inD inG ages rates increasing above refused
    have put := putTimebase_table (t := u.tb) inA inB inC inD inG ages rates
    rw [← fields] at put
    generalize changed : ({ u.tb with
      thrA := thrA, thrB := thrB, thrC := thrC, thrD := thrD, g0 := g0, aging := aging, assistedRate := rate } : Timebase) = b
      at put
    have ordered : b.increasing = true ↔ increasing := by
      rw [← changed]
      exact increasing_iff
    have asked (m : Mgmt) : actChangeTimebase ⟨0x03, 0x01, req⟩ (u.setMgmt m) = (u.setMgmt m).applyTimebase ⟨0x03, 0x01, req⟩ :=
      actChangeTimebase_named named (requestKnown_change named rfl) fresh (by simp [fields])
    refine ⟨fun unordered => ?_, fun rises closed => ?_, fun rises opened => ?_⟩
    · exact request_refused (act := actChangeTimebase) h acts fun m _ =>
        (asked m).trans (applyTimebase_unordered put (Bool.eq_false_iff.mpr (mt ordered.mp unordered)))
    · exact request_refused (act := actChangeTimebase) h acts fun m setup =>
        (asked m).trans (applyTimebase_closed put (ordered.mpr rises) (setup.trans closed) (by rw [fields]; rfl))
    · obtain ⟨m, t, ran, frame, answered, left⟩ := request_done (act := actChangeTimebase)
        (work := fun w => (w.setTb { b with rev := b.rev + 1 }).deriveClass.tableMoved)
        (ps := [.mgmt, .tb, .tbSettings, .ports, .leases, .outs, .slots, .rooms, .pins]) h acts (tab := .timebase) (k := 0)
        (by decide) (by simp) (by simp)
        (fun m setup => tableMoved_touches (by simp) (by simp) (by simp) <|
          deriveClass_touches (by simp) (by simp) (by simp) (by simp) (by simp) (by simp) <|
          setTb_retouches (by simp) (by simp) <| setMgmt_touches (by simp) setup .rfl')
        (fun m setup => by
          rw [asked, applyTimebase_taken put (ordered.mpr rises) (.inl (setup.trans opened)),
            timebaseChanged_table (by rw [fields]; rfl) (by rw [fields]; rfl)])
      have spent : b.spentE = true ↔ above := by
        rw [← changed]
        exact Timebase.spentE_iff _
      have record := left.tb (by simp)
      rw [deriveClass_tableMoved_tb, setTb_tb] at record
      have idle : b.spentE = false ↔ ¬ above := Bool.eq_false_iff.trans (not_congr spent)
      have state : b.state = u.tb.state ∧ b.assist = u.tb.assist := by
        rw [← changed]
        exact ⟨rfl, rfl⟩
      have moved : b.retabled = if u.tb.state = .spent ∧ ¬ above then (if u.tb.assist.isSome then .assisted else .holdover)
          else if (u.tb.state = .holdover ∨ u.tb.state = .assisted) ∧ above then .spent else u.tb.state := by
        unfold Timebase.retabled
        rw [state.1, state.2]
        exact if_congr (and_congr_right' idle) rfl (if_congr (and_congr_right' spent) rfl rfl)
      have same : ({ b with rev := b.rev + 1 } : Timebase).retabled = b.retabled := rfl
      rw [same, moved] at record
      refine ⟨t, ran, frame, answered, ?_⟩
      rw [record, ← changed]
      rfl
  · intro p asymmetry limit interval named fresh acts fields asym lim scan
    have put := putPort_settings (r := u.port p) asym lim scan
    rw [← fields] at put
    generalize changed :
      ({ u.port p with asymmetry := asymmetry, spreadLimit := limit, scanInterval := interval } : Port) = r at put
    obtain ⟨m, t, ran, frame, answered, left⟩ := request_done (act := actChangePort)
      (work := fun w => w.setPort p { r with rev := r.rev + 1 })
      (ps := [.mgmt, .ports, .portSettings, .portStates, .pins]) h acts (tab := .port) (k := p.val) (by decide) (by simp) (by simp)
      (fun m setup => setPort_retouches (by simp) (by simp) (by simp) <| setMgmt_touches (by simp) setup .rfl')
      (fun m setup => actChangePort_settings named (requestKnown_change named rfl) fresh (by simp [fields]) put)
    have port (q : PortIx) := left.port (by simp) q
    refine ⟨t, ran, frame, answered, fun q apart => ?_, ?_⟩
    · rw [port, setPort_port_if, if_neg (Ne.symm apart)]
      rfl
    · rw [port, setPort_port_if, if_pos rfl, ← changed]

end Sys2Proof.Machine

/-! ### Ports, queues and leases through the shared operations (04, 06, 07) -/
namespace Sys2Proof.Machine
open Sys2Proof

variable {s t u : State}

/-! #### Writers of one record -/

@[simp] theorem setPort_setPort (p : PortIx) (r r' : Port) : (s.setPort p r).setPort p r' = s.setPort p r' := by
  simp [State.setPort]

theorem setPort_self {p : PortIx} : s.setPort p (s.port p) = s := by simp [State.setPort, State.port]

theorem updPort_port (p q : PortIx) (f : Port → Port) :
    (s.updPort p f).port q = if p = q then f (s.port p) else s.port q := setPort_port_if s p q _

theorem updScanner_port (p q : PortIx) (f : Scanner → Scanner) :
    (s.updScanner p f).port q = if p = q then { s.port p with scanner := f (s.port p).scanner } else s.port q :=
  setPort_port_if s p q _

theorem updLease_slot (l k : LeaseIx) (f : Lease → Lease) :
    (s.updLease l f).slot k = if l = k then { s.slot l with lease := (s.slot l).lease.map f } else s.slot k :=
  setLeaseSlot_slot_if s l k _

theorem updLease_lease (l : LeaseIx) (f : Lease → Lease) : (s.updLease l f).lease l = (s.lease l).map f :=
  setLeaseSlot_lease s l _

theorem moveLease_lease (l : LeaseIx) (f : Lease → Lease) : (s.moveLease l f).lease l = (s.lease l).map f :=
  setLeaseSlot_lease s l _

/-! #### What becomes of a lease slot -/

/-- A lease less the notice that waits in its notice slot (07:R122). -/
def Lease.unnoticed (x : Lease) : Lease := { x with notice := none }

/-- Lease slot `l` holds from `s` to `t` what it held, a waiting notice apart. -/
def State.LeaseHeld (s t : State) (l : LeaseIx) : Prop :=
  (t.slot l).rev = (s.slot l).rev ∧ (t.lease l).map Lease.unnoticed = (s.lease l).map Lease.unnoticed

namespace State.LeaseHeld

variable {l : LeaseIx} {x : Lease}

theorem of_slot (same : t.slot l = s.slot l) : s.LeaseHeld t l := by
  simp only [State.LeaseHeld, State.lease, same, and_self]

theorem refl (s : State) (l : LeaseIx) : s.LeaseHeld s l := of_slot rfl

theorem trans (h : s.LeaseHeld t l) (k : t.LeaseHeld u l) : s.LeaseHeld u l := ⟨k.1.trans h.1, k.2.trans h.2⟩

theorem kept (h : s.LeaseHeld t l) : s.LeaseKept t l := by
  refine ⟨h.1, ?_⟩
  have core (y : Option Lease) : y.map Lease.core = (y.map Lease.unnoticed).map Lease.core := by cases y <;> rfl
  rw [core, h.2, ← core]

/-- A live lease that is held is the lease it was, with a notice waiting or not. -/
theorem lease (h : s.LeaseHeld t l) (live : s.lease l = some x) : ∃ n, t.lease l = some { x with notice := n } := by
  obtain ⟨-, same⟩ := h
  rw [live] at same
  obtain ⟨y, now, same⟩ := Option.map_eq_some_iff.mp same
  refine ⟨y.notice, now.trans (congrArg some ?_)⟩
  cases x
  cases y
  simp_all [Lease.unnoticed]

theorem marks (h : s.LeaseHeld t l) : (t.lease l).bind Lease.mark = (s.lease l).bind Lease.mark := by
  have mark (y : Option Lease) : y.bind Lease.mark = (y.map Lease.unnoticed).bind Lease.mark := by cases y <;> rfl
  rw [mark, h.2, ← mark]

theorem leaseOn (h : s.LeaseHeld t l) (p : PortIx) : t.leaseOn l p = s.leaseOn l p := by
  have on (v : State) : v.leaseOn l p = ((v.lease l).map Lease.unnoticed).any fun x => x.port = p := by
    unfold State.leaseOn
    cases v.lease l <;> rfl
  rw [on, on, h.2]

/-- A change of the waiting notice leaves a lease held. -/
theorem updLease {k : LeaseIx} {f : Lease → Lease} (hf : ∀ x, (f x).unnoticed = x.unnoticed) :
    s.LeaseHeld (s.updLease k f) l := by
  unfold State.LeaseHeld State.lease
  rw [updLease_slot]
  split
  next same => exact ⟨congrArg (fun i => (s.slot i).rev) same, by subst same; simp [Function.comp_def, hf]⟩
  next => exact ⟨rfl, rfl⟩

/-- A change of another lease leaves a lease held. -/
theorem updLease_ne {k : LeaseIx} {f : Lease → Lease} (apart : k ≠ l) : s.LeaseHeld (s.updLease k f) l :=
  of_slot (setLeaseSlot_slot_ne s apart _)

theorem moveLease_ne {k : LeaseIx} {f : Lease → Lease} (apart : k ≠ l) : s.LeaseHeld (s.moveLease k f) l :=
  of_slot (setLeaseSlot_slot_ne s apart _)

end State.LeaseHeld

theorem State.OnlyTouches.held {ps : List Part} (h : s.OnlyTouches ps t) (hp : Part.leases ∉ ps) (l : LeaseIx) :
    s.LeaseHeld t l := .of_slot (h.slot hp l)

namespace State

variable {l : LeaseIx} {y : Lease}

theorem LeaseHeld.retired (h : s.LeaseHeld t l) (k : t.LeaseRetired u l) : s.LeaseRetired u l :=
  k.trans (by rw [h.1])

theorem LeaseRetired.held (h : s.LeaseRetired t l) (k : t.LeaseHeld u l) : s.LeaseRetired u l := by
  obtain ⟨rev, same⟩ := k
  unfold State.LeaseRetired at h
  unfold State.lease at same
  rw [h] at rev same
  have free : (u.slot l).lease = none := Option.map_eq_none_iff.mp same
  have both : u.slot l = ⟨(u.slot l).rev, (u.slot l).lease⟩ := rfl
  exact both.trans (by rw [rev, free])

theorem LeaseHeld.moved (h : s.LeaseHeld t l) (k : t.LeaseMoved u l y) : s.LeaseMoved u l y :=
  ⟨k.1.trans (by rw [h.1]), k.2⟩

theorem LeaseMoved.held (h : s.LeaseMoved t l y) (k : t.LeaseHeld u l) : s.LeaseMoved u l y :=
  ⟨k.1.trans h.1, k.kept.2.trans h.2⟩

end State

/-! #### Operations that send frames and put notices -/

theorem Port.offering_shut {r : Port} (shut : r.state ≠ .opened) : r.offering = .notOpen := if_neg shut

theorem Port.mem_queue_offer (r : Port) {f g : Frame} (h : g ∈ r.queue) : g ∈ (r.offer f).queue := by
  unfold Port.offer
  split
  · exact List.mem_append_left _ h
  · exact h
  · exact h

/-- A port that is not OPEN takes no frame. -/
theorem offer_shut {p : PortIx} {f : Frame} (shut : (s.port p).state ≠ .opened) : s.offer p f = s := by
  have same : (s.port p).offer f = s.port p := by
    unfold Port.offer
    rw [Port.offering_shut shut]
  exact (congrArg (s.setPort p) same).trans setPort_self

/-- From `s` to `t` frames may have been sent on OPEN ports and notices put or taken; the leases are what they were, a port that is
not OPEN is as it was, and no queue has lost a frame. -/
structure State.Quiet (s t : State) : Prop where
  held : ∀ l, s.LeaseHeld t l
  shut : ∀ p, (s.port p).state ≠ .opened → t.port p = s.port p
  sent : ∀ p f, f ∈ (s.port p).queue → f ∈ (t.port p).queue

namespace State.Quiet

variable {p : PortIx} {l : LeaseIx}

theorem refl (s : State) : s.Quiet s := ⟨.refl s, fun _ _ => rfl, fun _ _ h => h⟩

theorem trans (h : s.Quiet t) (k : t.Quiet u) : s.Quiet u where
  held l := (h.held l).trans (k.held l)
  shut p hp := (k.shut p (by rw [h.shut p hp]; exact hp)).trans (h.shut p hp)
  sent p f hf := k.sent p f (h.sent p f hf)

theorem of_same (ports : ∀ p, t.port p = s.port p) (slots : ∀ l, t.slot l = s.slot l) : s.Quiet t where
  held l := .of_slot (slots l)
  shut p _ := ports p
  sent p f hf := by rw [ports]; exact hf

/-- What touches neither ports nor leases is quiet. -/
theorem of_touches {ps : List Part} (h : s.OnlyTouches ps t) (hports : Part.ports ∉ ps) (hleases : Part.leases ∉ ps) :
    s.Quiet t := of_same (h.port hports) (h.slot hleases)

/-- What every turn of a walk is, the walk is. -/
theorem forAll {n : Nat} {f : Fin n → State → State} (hf : ∀ i t, State.Quiet t (f i t)) : s.Quiet (forAll f s) :=
  forAll_keeps (fun i t ht => ht.trans (hf i t)) (refl s)

/-- A change of an OPEN port that keeps the frames queued. -/
theorem setPort {r : Port} (opened : (s.port p).state = .opened) (sent : ∀ f, f ∈ (s.port p).queue → f ∈ r.queue) :
    s.Quiet (s.setPort p r) where
  held l := .of_slot rfl
  shut q hq := setPort_port_ne s (by rintro rfl; exact hq opened) r
  sent q f hf := by
    rw [setPort_port_if]
    split
    next same => exact sent f (same ▸ hf)
    next => exact hf

theorem offer (p : PortIx) (f : Frame) : s.Quiet (s.offer p f) := by
  by_cases opened : (s.port p).state = .opened
  · exact setPort opened fun g => (s.port p).mem_queue_offer
  · rw [offer_shut opened]
    exact refl s

/-- A change of the waiting notice of a lease. -/
theorem updLease {f : Lease → Lease} (hf : ∀ x, (f x).unnoticed = x.unnoticed) : s.Quiet (s.updLease l f) where
  held _ := .updLease hf
  shut _ _ := rfl
  sent _ _ h := h

theorem putNotice (l : LeaseIx) (k : NoticeKind) (v : Int) : s.Quiet (s.putNotice l k v) := by
  unfold State.putNotice
  repeat' split
  · exact refl s
  · exact offer _ _
  · exact updLease fun _ => rfl
  · exact refl s

theorem offerWaiting (p : PortIx) (l : LeaseIx) : s.Quiet (s.offerWaiting p l) := by
  unfold State.offerWaiting
  repeat' split
  · exact refl s
  · exact refl s
  · exact (offer _ _).trans (updLease fun _ => rfl)
  · exact refl s

theorem roomInQueue (p : PortIx) : s.Quiet (s.roomInQueue p) := forAll fun l _ => offerWaiting p l

theorem raiseLease (l : LeaseIx) (k : AlarmKind) (d : Option Detail) : s.Quiet (s.raiseLease l k d) :=
  of_touches (ps := [.slots, .rooms]) (raiseLease_touches (by simp) (by simp) .rfl') (by simp) (by simp)

/-! #### Class changes and the loss of the selected reference (01:R7, 03:R54) -/

theorem leaseAtClass (before after : SiteClass) (l : LeaseIx) : s.Quiet (State.leaseAtClass before after l s) := by
  unfold State.leaseAtClass
  repeat' split
  · exact refl s
  · exact (putNotice _ _ _).trans (raiseLease _ _ _)
  · exact (putNotice _ _ _).trans (of_same (fun _ => rfl) fun _ => rfl)
  all_goals exact refl s

theorem crossClass (x : SiteClass) : s.Quiet (s.crossClass x) := by
  have told : s.Quiet (s.updTb fun b => { b with siteClass := x, rev := b.rev + 1 }) := of_same (fun _ => rfl) fun _ => rfl
  exact (told.trans (forAll fun l _ => leaseAtClass _ _ l)).trans <| forAll fun i _ =>
    of_touches (ps := [.outs, .slots, .rooms]) (moveOutput_touches (by simp) (by simp) (by simp) .rfl') (by simp) (by simp)

theorem deriveClass : s.Quiet s.deriveClass := by
  have walk (n : Nat) (v : State) : v.Quiet (v.crossings n) := by
    induction n generalizing v with
    | zero => exact refl v
    | succ n ih =>
      unfold State.crossings
      split
      · exact refl v
      · exact (crossClass _).trans (ih _)
  exact walk 4 s

theorem raiseFreeRun : s.Quiet s.raiseFreeRun :=
  of_touches (ps := [.slots, .rooms]) (raiseFreeRun_touches (by simp) (by simp) .rfl') (by simp) (by simp)

theorem enterFreeRun : s.Quiet s.enterFreeRun := by
  unfold State.enterFreeRun
  refine Quiet.trans ?_ raiseFreeRun
  refine Quiet.trans ?_ deriveClass
  exact of_same (fun _ => rfl) fun _ => rfl

theorem loseSelected (i : RefIx) : s.Quiet (s.loseSelected i) := by
  have unforced : s.Quiet (s.updTb fun b => b.unforce i) := of_same (fun _ => rfl) fun _ => rfl
  unfold State.loseSelected
  refine unforced.trans ?_
  dsimp only
  split
  · exact of_touches (ps := [.tb, .slots, .rooms]) (reworkRestore_touches (by simp) (by simp) (by simp) <|
      selectEntry_touches (by simp) (by simp) (by simp) .rfl') (by simp) (by simp)
  · split
    · exact of_touches (ps := [.tb, .slots, .rooms]) (enterHoldover_touches (by simp) (by simp) (by simp) .rfl') (by simp) (by simp)
    · exact enterFreeRun

theorem announceLeft (i : RefIx) : s.Quiet (s.announceLeft i) := by
  unfold State.announceLeft
  split
  · exact loseSelected i
  · refine of_touches (ps := [.tb, .slots, .rooms]) (reworkRestore_touches (by simp) (by simp) (by simp) ?_) (by simp) (by simp)
    split
    · exact updTb_touches (by simp) (by simp) .rfl'
    · exact .rfl'

theorem retireLoss (before : State) (l : LeaseIx) : s.Quiet (s.retireLoss before l) := by
  unfold State.retireLoss State.announceOffer
  repeat' split
  · exact refl s
  · exact refl s
  · exact announceLeft _
  · exact refl s

theorem portLosses (before : State) (p : PortIx) : s.Quiet (s.portLosses before p) :=
  forAll fun l t => by
    split
    · exact retireLoss _ _
    · exact refl t

end State.Quiet

end Sys2Proof.Machine

/-! ### Echoes and the choices of the scanner (06:R103 to R107) -/
namespace Sys2Proof.Machine
open Sys2Proof

variable {s t u : State} {p : PortIx}

/-! #### A frame offered (04:R73) -/

theorem Port.offering_queued_iff {r : Port} : r.offering = .queued ↔ r.state = .opened ∧ r.queue.length < 16 := by
  unfold Port.offering Config.queueMax
  by_cases opened : r.state = .opened <;> by_cases few : r.queue.length < 16 <;> simp [opened, few]

theorem Port.offer_append (r : Port) (f : Frame) :
    r.offer f = { r with queue := r.queue ++ if r.state = .opened ∧ r.queue.length < 16 then [f] else [] } := by
  unfold Port.offer
  by_cases room : r.state = .opened ∧ r.queue.length < 16
  · rw [offering_queued_iff.mpr room, if_pos room]
  · have noRoom : r.offering ≠ .queued := mt offering_queued_iff.mp room
    rw [if_neg room, List.append_nil]
    split
    next queued => exact absurd queued noRoom
    all_goals rfl

/-! #### An echo sent (06:R106) -/

/-- A port whose batch is `b` from now on and sends its echo `n`: the ECHO is queued, or it is refused at `osc`. -/
def Port.echoing (r : Port) (osc : Nat) (b : Batch) (n : BitVec 2) : Port :=
  { r with
    queue := r.queue ++ if r.state = .opened ∧ r.queue.length < 16 then [Frame.echo b.lease n] else []
    scanner := { r.scanner with
      batch := some { b with
        number := n
        standing := if r.state = .opened ∧ r.queue.length < 16 then .waiting else .refused osc } } }

theorem sendEcho_eq {b : Batch} {n : BitVec 2} (flight : (s.port p).scanner.batch = some b) :
    s.sendEcho p n = s.setPort p ((s.port p).echoing s.clock.osc b n) := by
  unfold State.sendEcho
  rw [flight]
  simp only [State.offer, State.updScanner, State.updPort, setPort_port, setPort_setPort, Port.offer_append,
    Port.offering_queued_iff]
  rfl

theorem nextEcho_eq (b : Batch) : s.nextEcho p b = s.setPort p ((s.port p).echoing s.clock.osc b (b.number + 1)) := by
  unfold State.nextEcho
  rw [sendEcho_eq (b := b) (by simp [updScanner_port]), updScanner_port, if_pos rfl]
  exact setPort_setPort ..

theorem startBatch_eq (l : LeaseIx) (o : Origin) :
    s.startBatch p l o = s.setPort p ((s.port p).echoing s.clock.osc ⟨l, o, [], 0, 0, .waiting⟩ 0) := by
  unfold State.startBatch
  rw [sendEcho_eq (b := ⟨l, o, [], 0, 0, .waiting⟩) (by simp [updScanner_port]), updScanner_port, if_pos rfl]
  exact setPort_setPort ..

/-- A batch started once the scanner has noted something of its own. -/
theorem updScanner_startBatch (l : LeaseIx) (o : Origin) (f : Scanner → Scanner) :
    (s.updScanner p f).startBatch p l o = s.setPort p
      (({ s.port p with scanner := f (s.port p).scanner } : Port).echoing s.clock.osc ⟨l, o, [], 0, 0, .waiting⟩ 0) := by
  rw [startBatch_eq, updScanner_port, if_pos rfl]
  exact setPort_setPort ..

/-! #### A choice (06:R103, R104) -/

theorem choose_idle (h : (s.port p).state ≠ .opened ∨ (s.port p).scanner.batch.isSome = true) : s.choose p = s := by
  unfold State.choose
  refine if_neg ?_
  rcases h with shut | flight
  · simp [shut]
  · simp [Option.isSome_iff_ne_none.mp flight]

theorem choose_free (opened : (s.port p).state = .opened) (free : (s.port p).scanner.batch = none) :
    s.choose p = match (s.port p).scanner.injection with
      | some l => (s.updScanner p fun c => { c with injection := none }).startBatch p l .injected
      | none =>
        match s.lowestIn p .measuring with
        | some l => s.startBatch p l .measuring
        | none => s.startRoutine p := by
  unfold State.choose
  exact if_pos (by simp [opened, free])

/-- From `s` to `t` port `p` may have sent frames and written its scanner's values; nothing else has changed. -/
def State.Scanned (p : PortIx) (s t : State) : Prop :=
  ∃ c more, t = s.setPort p { s.port p with queue := (s.port p).queue ++ more, scanner := c }

theorem startBatch_scanned (l : LeaseIx) (o : Origin) : s.Scanned p (s.startBatch p l o) := ⟨_, _, startBatch_eq l o⟩

theorem updScanner_startBatch_scanned (l : LeaseIx) (o : Origin) (f : Scanner → Scanner) :
    s.Scanned p ((s.updScanner p f).startBatch p l o) := ⟨_, _, updScanner_startBatch l o f⟩

theorem startRoutine_cases (s : State) (p : PortIx) : s.startRoutine p = s ∨ s.Scanned p (s.startRoutine p) := by
  unfold State.startRoutine
  repeat' split
  · exact .inl rfl
  · exact .inr (updScanner_startBatch_scanned ..)
  · exact .inl rfl

/-- What a choice can do: nothing, or, on an OPEN port, send a frame and write the scanner's own values. -/
theorem choose_cases (s : State) (p : PortIx) :
    s.choose p = s ∨ ((s.port p).state = .opened ∧ s.Scanned p (s.choose p)) := by
  by_cases opened : (s.port p).state = .opened
  · cases flight : (s.port p).scanner.batch with
    | some b => exact .inl (choose_idle (.inr (by rw [flight]; rfl)))
    | none =>
      refine Or.imp id (fun scanned => ⟨opened, scanned⟩) ?_
      rw [choose_free opened flight]
      repeat' split
      · exact .inr (updScanner_startBatch_scanned ..)
      · exact .inr (startBatch_scanned ..)
      · exact startRoutine_cases s p
  · exact .inl (choose_idle (.inl opened))

theorem choose_port_ne {q : PortIx} (apart : q ≠ p) : (s.choose p).port q = s.port q := by
  rcases choose_cases s p with same | ⟨-, c, more, moved⟩
  · rw [same]
  · rw [moved, setPort_port_ne s apart.symm]

theorem choose_standing (q : PortIx) : ((s.choose p).port q).standing = (s.port q).standing :=
  (choose_touches (ps := [.ports]) (by simp) .rfl').standing (by simp) q

theorem choose_queue (s : State) (p : PortIx) : ∃ more, ((s.choose p).port p).queue = (s.port p).queue ++ more := by
  rcases choose_cases s p with same | ⟨-, c, more, moved⟩
  · exact ⟨[], by rw [same, List.append_nil]⟩
  · exact ⟨more, by rw [moved, setPort_port]⟩

theorem State.Quiet.choose (p : PortIx) : s.Quiet (s.choose p) := by
  rcases choose_cases s p with same | ⟨opened, c, more, moved⟩
  · rw [same]
    exact .refl s
  · rw [moved]
    exact .setPort opened fun f => List.mem_append_left _

theorem State.Quiet.chooseFor (l : LeaseIx) : s.Quiet (s.chooseFor l) := by
  unfold State.chooseFor
  split
  · exact .refl s
  · exact .choose _

end Sys2Proof.Machine

/-! ### CLOSE-SETUP (04:R76; 10:R175) -/
namespace Sys2Proof.Machine
open Sys2Proof

variable {s t u : State} {p q : PortIx} {dt : Nat} {x : Executing} {stage : Stage}

/-! #### A port's state moves (04:R75) -/

theorem movePort_port (p q : PortIx) (st : PortState) :
    (s.movePort p st).port q = if p = q then (s.port p).moveTo st else s.port q := updPort_port p q _

@[simp] theorem raisePort_port (q : PortIx) (k : AlarmKind) : (s.raisePort p k).port q = s.port q := rfl
@[simp] theorem clearAlarm_port (q : PortIx) (k : AlarmKind) (n : Nat) : (s.clearAlarm k n).port q = s.port q := rfl

theorem openPort_standing (p : PortIx) : ((s.openPort p).port p).standing =
    (if (s.port p).linkUp then .opened else .down, (s.port p).linkUp, (s.port p).liveLeases, (s.port p).rev + 1) := by
  unfold State.openPort
  split
  · rw [movePort_port, if_pos rfl]
    rfl
  · rw [raisePort_port, movePort_port, if_pos rfl]
    rfl

theorem openPort_port_ne (apart : q ≠ p) : (s.openPort p).port q = s.port q := by
  unfold State.openPort
  split
  · rw [movePort_port, if_neg apart.symm]
  · rw [raisePort_port, movePort_port, if_neg apart.symm]

theorem openAllPorts_standing (p : PortIx) : (s.openAllPorts.port p).standing =
    (if (s.port p).linkUp then .opened else .down, (s.port p).linkUp, (s.port p).liveLeases, (s.port p).rev + 1) :=
  forAll_at (f := fun p t => (t.openPort p).choose p) (get := fun t => (t.port p).standing)
    (g := fun x => (if x.2.1 then .opened else .down, x.2.1, x.2.2.1, x.2.2.2 + 1)) p
    (fun t => (choose_standing p).trans (openPort_standing p))
    (fun q t apart => by rw [choose_port_ne apart.symm, openPort_port_ne apart.symm]) s

/-! #### Setup (10:R175) -/

theorem setMgmt_setup_touches {s₀ : State} {ps : List Part} {m : Mgmt} (hmgmt : Part.mgmt ∈ ps) (hsetup : Part.setup ∈ ps)
    (h : s₀.OnlyTouches ps s) : s₀.OnlyTouches ps (s.setMgmt m) :=
  h.trans fun q hq => by
    have apart : q ≠ .mgmt ∧ q ≠ .setup := ⟨fun e => hq (e ▸ hmgmt), fun e => hq (e ▸ hsetup)⟩
    cases q <;> simp_all [State.Same]

theorem closeSetup_touches {s₀ : State} {ps : List Part} (hmgmt : Part.mgmt ∈ ps) (hsetup : Part.setup ∈ ps)
    (hports : Part.ports ∈ ps) (hstates : Part.portStates ∈ ps) (hslots : Part.slots ∈ ps) (hrooms : Part.rooms ∈ ps)
    (h : s₀.OnlyTouches ps s) : s₀.OnlyTouches ps s.closeSetup := by
  unfold State.closeSetup
  refine openAllPorts_touches hports hslots hrooms hstates ?_
  dsimp only
  split
  · exact raiseFreeRun_touches hslots hrooms <| setMgmt_setup_touches hmgmt hsetup h
  · exact setMgmt_setup_touches hmgmt hsetup h

theorem closeSetup_setup : s.closeSetup.mgmt.setup = .closed := by
  have opens (v : State) : v.openAllPorts.mgmt = v.mgmt :=
    (openAllPorts_touches (ps := [.ports, .portStates, .slots, .rooms]) (by simp) (by simp) (by simp) (by simp) .rfl').mgmt (by simp)
  have raised (v : State) : v.raiseFreeRun.mgmt = v.mgmt :=
    (raiseFreeRun_touches (ps := [.slots, .rooms]) (by simp) (by simp) .rfl').mgmt (by simp)
  unfold State.closeSetup
  rw [opens]
  dsimp only
  split
  · rw [raised]
    rfl
  · rfl

theorem closeSetup_standing (p : PortIx) : (s.closeSetup.port p).standing =
    (if (s.port p).linkUp then .opened else .down, (s.port p).linkUp, (s.port p).liveLeases, (s.port p).rev + 1) := by
  have raised (v : State) : v.raiseFreeRun.port p = v.port p :=
    (raiseFreeRun_touches (ps := [.slots, .rooms]) (by simp) (by simp) .rfl').port (by simp) p
  unfold State.closeSetup
  rw [openAllPorts_standing]
  dsimp only
  split
  · rw [raised]
    rfl
  · rfl

theorem requestKnown_keyless {kind table : Byte} {req : Request} (named : req.NamesNothing) (free : keyless kind = true)
    (taken : tableTaken kind.toNat (Table.ofCode table.toNat) = true) : requestKnown kind table req = true := by
  unfold requestKnown formTaken
  rw [taken, if_pos free, decide_eq_true named.1]
  rfl

/-- A request that acts, with what its management port holds: setup as it was, and when the request was taken. -/
theorem request_at {act : Executing → State → State} (h : s.At dt u) (acts : s.RequestActs x stage) :
    ∃ m : Mgmt, m.setup = u.mgmt.setup ∧ m.takenAt = u.requestTaken stage ∧
      request dt x stage act s = .next (act x (u.setMgmt m)).settle := by
  obtain ⟨-, rfl⟩ := h
  obtain ⟨high, ⟨rfl, idle, whole⟩ | ⟨rfl, held⟩⟩ := acts
  · have taken : (s.elapse dt).takesRequest x.req = true := by simp [State.takesRequest, idle, whole]
    refine ⟨((s.elapse dt).takeRequest x).mgmt, ?_, ?_, ?_⟩
    · unfold State.takeRequest
      rw [if_pos taken]
      rfl
    · unfold State.takeRequest
      rw [if_pos taken]
      rfl
    · unfold request State.carryRequest
      rw [event_high high]
      dsimp only
      rw [if_pos taken]
      unfold State.takeRequest
      rw [if_pos taken]
      rfl
  · refine ⟨s.mgmt, rfl, rfl, ?_⟩
    unfold request State.carryRequest State.actRequest
    rw [event_high high]
    exact congrArg (fun v : State => Host.Outcome.next v.settle) (if_pos held)

theorem actCloseSetup_known (known : requestKnown x.kind x.table x.req = true) (count : x.req.count.toNat ≤ 12) :
    actCloseSetup x s = if s.setupClosed then s.refuse x .wrongState else s.closeSetup.doneStatus x := by
  unfold actCloseSetup
  rw [checked_pass known count]

/-- Settles O12: with setup OPEN every port opens in turn and the summary is the answer; with setup CLOSED the request is refused. -/
theorem closeSetupOpensThePorts : Obligations.CloseSetupOpensThePorts := by
  unfold Obligations.CloseSetupOpensThePorts
  intro s u dt table req stage h named acts
  obtain ⟨m, setup, -, ran⟩ := request_at (act := actCloseSetup) h acts
  rw [actCloseSetup_known (requestKnown_keyless named rfl rfl) named.2] at ran
  have asked : (u.setMgmt m).setupClosed = decide (u.mgmt.setup = .closed) := congrArg (fun x => decide (x = Setup.closed)) setup
  rw [asked] at ran
  refine ⟨fun opened => ?_, fun closed => ?_⟩
  · rw [if_neg (by simp [opened]), doneStatus_settle] at ran
    have left : (u.setMgmt m).closeSetup.OnlyTouches [.mgmt, .pins] ((u.setMgmt m).closeSetup.doneStatus ⟨0x12, table, req⟩) :=
      doneStatus_touches (by simp) (by simp) .rfl'
    refine ⟨_, ran, ?_, (left.setup (by simp)).trans closeSetup_setup, fun p => ?_, doneStatus_answered _ _⟩
    · exact doneStatus_touches (by simp) (by simp) <|
        closeSetup_touches (by simp) (by simp) (by simp) (by simp) (by simp) (by simp) <| setMgmt_touches (by simp) setup .rfl'
    · rw [left.standing (by simp), closeSetup_standing]
      rfl
  · rw [if_pos (by simp [closed]), refuse_settle] at ran
    exact ⟨_, ran, refuse_touches (by simp) (by simp) (setMgmt_frame setup), refuse_answered ..⟩

end Sys2Proof.Machine

/-! ### MEASURE (06:R105) -/
namespace Sys2Proof.Machine
open Sys2Proof

variable {s u : State} {p q : PortIx} {dt : Nat} {x : Executing} {stage : Stage} {l : LeaseIx} {y : Lease}

/-! #### Requests that name a record by its index (10:R169) -/

theorem requestKnown_index {kind table : Byte} {req : Request} {k : Nat} (named : req.NamesIndex k)
    (taken : tableTaken kind.toNat (Table.ofCode table.toNat) = true)
    (index : formTaken kind (Table.ofCode table.toNat) formIndex = true) : requestKnown kind table req = true := by
  obtain ⟨form, group, -, -⟩ := named
  unfold requestKnown
  rw [form, taken, index, decide_eq_true group]
  rfl

theorem atRecord_lease {fenced : Bool} {k : Nat → State → State} (named : x.req.NamesIndex l.val) (live : s.lease l = some y)
    (fence : fenced = true → x.req.revision = (s.slot l).rev) : s.atRecord x .lease fenced k = k l.val s := by
  have known : toIx 32 l.val = some l := by simp [toIx]
  refine atRecord_pass (keyNamed_index named (by simp [tableKeys])) ?_ fun h => (fence h).trans ?_
  · simp [State.recordAt, State.recordFields, known, live]
  · simp [State.slotRevision, known]

theorem atLease_live {f : LeaseIx → Lease → State → State} (live : s.lease l = some y) : s.atLease l.val f = f l y s := by
  unfold State.atLease
  rw [atIx_fin, live]

theorem leaseIn_iff {st : LeaseState} (live : s.lease l = some y) : s.leaseIn l st = true ↔ y.state = st := by
  unfold State.leaseIn
  rw [live]
  exact decide_eq_true_iff

theorem suspendable_iff (live : s.lease l = some y) :
    s.suspendable l = true ↔ y.state = .measuring ∨ y.state = .inService := by
  unfold State.suspendable
  rw [Bool.or_eq_true, leaseIn_iff live, leaseIn_iff live]

/-! #### The injection slot (06:R103, R105) -/

theorem inject_starts (opened : (s.port p).state = .opened) (free : (s.port p).scanner.batch = none)
    (empty : (s.port p).scanner.injection = none) :
    s.inject l p = s.setPort p ((s.port p).echoing s.clock.osc ⟨l, .injected, [], 0, 0, .waiting⟩ 0) := by
  have noted := updScanner_port (s := s) p p fun c => { c with injection := some l }
  rw [if_pos rfl] at noted
  unfold State.inject
  rw [choose_free (by rw [noted]; exact opened) (by rw [noted]; exact free), noted]
  dsimp only
  rw [updScanner_startBatch, noted]
  refine (setPort_setPort ..).trans ?_
  have whole : ({ (s.port p).scanner with injection := none } : Scanner) = (s.port p).scanner := by rw [← empty]
  rw [whole]
  rfl

theorem inject_waits (busy : ¬ ((s.port p).state = .opened ∧ (s.port p).scanner.batch = none)) :
    s.inject l p = s.updScanner p fun c => { c with injection := some l } := by
  refine choose_idle ?_
  rw [updScanner_port, if_pos rfl]
  by_cases opened : (s.port p).state = .opened
  · exact .inr (Option.isSome_iff_ne_none.mpr fun free => busy ⟨opened, free⟩)
  · exact .inl opened

theorem inject_touches {s₀ : State} {ps : List Part} (hports : Part.ports ∈ ps) (h : s₀.OnlyTouches ps s) :
    s₀.OnlyTouches ps (s.inject l p) := choose_touches hports <| updScanner_touches hports h

theorem actMeasure_named (named : x.req.NamesIndex l.val) (known : requestKnown x.kind x.table x.req = true)
    (live : s.lease l = some y) : actMeasure x s =
      if !s.suspendable l then s.refuse x .wrongState
      else if (s.port y.port).scanner.injection.isSome then s.refuse x .full
      else (s.inject l y.port).done x .lease l.val := by
  unfold actMeasure
  rw [checked_pass known named.2.2.1, atRecord_lease named live (fenced := false) nofun, atLease_live live]

/-- Settles O42: the scanner's choice after the injection slot is filled, and the two refusals. -/
theorem measureInjectsABatch : Obligations.MeasureInjectsABatch := by
  unfold Obligations.MeasureInjectsABatch
  intro s u dt req stage l x h named live acts
  have decided (m : Mgmt) := actMeasure_named (s := u.setMgmt m) (x := ⟨0x0A, 0x04, req⟩) named
    (requestKnown_index named rfl rfl) live
  have taken (m : Mgmt) : (u.setMgmt m).suspendable l = true ↔ x.state = .measuring ∨ x.state = .inService := suspendable_iff live
  refine ⟨fun other => ?_, fun active full => ?_, fun active empty => ?_⟩
  · refine request_refused (act := actMeasure) h acts fun m _ => (decided m).trans (if_pos ?_)
    rw [Bool.not_eq_true', Bool.eq_false_iff, Ne, taken]
    rcases other with st | st <;> simp [st]
  · exact request_refused (act := actMeasure) h acts fun m _ => (decided m).trans <|
      (if_neg (by simp [(taken m).mpr active])).trans (if_pos full)
  · obtain ⟨m, t, ran, frame, answered, left⟩ := request_done (act := actMeasure) (work := fun w => w.inject l x.port)
      (ps := [.mgmt, .ports, .pins]) h acts (tab := .lease) (k := l.val) (by decide) (by simp) (by simp)
      (fun m setup => inject_touches (by simp) <| setMgmt_touches (by simp) setup .rfl')
      fun m _ => (decided m).trans <|
        (if_neg (by simp [(taken m).mpr active])).trans (if_neg (by simp [empty]))
    have port (q : PortIx) := left.port (by simp) q
    refine ⟨t, ran, frame, answered, fun q apart => ?_, ?_⟩
    · rw [port, State.inject, choose_port_ne apart, updScanner_port, if_neg apart.symm]
      rfl
    · rw [port]
      split
      next start =>
        obtain ⟨opened, free⟩ := start
        rw [inject_starts (s := u.setMgmt m) opened free empty, setPort_port]
        simp [Port.echoing, opened]
      next wait =>
        rw [inject_waits (s := u.setMgmt m) wait, updScanner_port, if_pos rfl]
        rfl

end Sys2Proof.Machine

/-! ### Departures from a queue (04:R70, R73; 07:R122) -/
namespace Sys2Proof.Machine
open Sys2Proof

variable {s u : State} {p q : PortIx} {l : LeaseIx} {f : Frame} {rest : List Frame}

/-! #### Room for one frame (04:R73, 07:R122) -/

/-- The notice that waits for lease `l`, if it is on port `p`. -/
def State.waitingFor (s : State) (p : PortIx) (l : LeaseIx) : Option Frame :=
  (s.lease l).bind fun x => if x.port = p then x.notice.map fun n => .notice l n.kind n.value else none

theorem offerWaiting_none (quiet : s.waitingFor p l = none) : s.offerWaiting p l = s := by
  unfold State.offerWaiting
  unfold State.waitingFor at quiet
  split
  next => rfl
  next x live =>
    split
    next => rfl
    next n waits =>
      refine if_neg ?_
      rintro here
      have here : x.port = p := by simp_all
      simp [live, here, waits] at quiet

theorem offerWaiting_full (full : (s.port p).offering ≠ .queued) : s.offerWaiting p l = s := by
  unfold State.offerWaiting
  repeat' split
  · rfl
  · rfl
  next offered => simp [full] at offered
  · rfl

theorem offerWaiting_some (waits : s.waitingFor p l = some f) (room : (s.port p).offering = .queued) :
    s.offerWaiting p l = (s.offer p f).updLease l fun y => { y with notice := none } := by
  unfold State.waitingFor at waits
  obtain ⟨x, live, waits⟩ := Option.bind_eq_some_iff.mp waits
  split at waits
  next here =>
    obtain ⟨n, notice, rfl⟩ := Option.map_eq_some_iff.mp waits
    unfold State.offerWaiting
    rw [live]
    dsimp only
    rw [notice]
    exact if_pos (by simp [here, room])
  next => cases waits

theorem offerWaiting_port_ne (apart : q ≠ p) : (s.offerWaiting p l).port q = s.port q := by
  unfold State.offerWaiting
  repeat' split
  · rfl
  · rfl
  · exact setPort_port_ne s apart.symm _
  · rfl

theorem roomInQueue_port_ne (apart : q ≠ p) : (s.roomInQueue p).port q = s.port q :=
  forAll_keeps (P := fun t => t.port q = s.port q) (fun _ _ h => (offerWaiting_port_ne apart).trans h) rfl

theorem offerWaiting_port (waits : s.waitingFor p l = some f) (opened : (s.port p).state = .opened)
    (room : (s.port p).queue.length < 16) :
    (s.offerWaiting p l).port p = { s.port p with queue := (s.port p).queue ++ [f] } := by
  rw [offerWaiting_some waits (Port.offering_queued_iff.mpr ⟨opened, room⟩)]
  have sent : (s.offer p f).port p = (s.port p).offer f := setPort_port ..
  have appended := Port.offer_append (s.port p) f
  rw [if_pos ⟨opened, room⟩] at appended
  exact sent.trans appended

/-- A queue with room for one frame takes the first notice that waits, in index order. -/
theorem roomInQueue_one (opened : (s.port p).state = .opened) (one : (s.port p).queue.length = 15) :
    (s.roomInQueue p).port p = { s.port p with
      queue := (s.port p).queue ++ ((List.finRange 32).findSome? (s.waitingFor p)).toList } := by
  have full (ls : List LeaseIx) (t : State) (noRoom : (t.port p).offering ≠ .queued) :
      ls.foldl (fun t l => t.offerWaiting p l) t = t := by
    induction ls with
    | nil => rfl
    | cons l ls ih => rw [List.foldl_cons, offerWaiting_full noRoom, ih]
  have walk (ls : List LeaseIx) : (ls.foldl (fun t l => t.offerWaiting p l) s).port p =
      { s.port p with queue := (s.port p).queue ++ (ls.findSome? (s.waitingFor p)).toList } := by
    induction ls with
    | nil => simp
    | cons l ls ih =>
      rw [List.foldl_cons, List.findSome?_cons]
      cases waits : s.waitingFor p l with
      | none =>
        rw [offerWaiting_none waits]
        exact ih
      | some f =>
        have taken := offerWaiting_port waits opened (by omega)
        rw [full ls _ (by rw [Ne, Port.offering_queued_iff, taken]; simp [one]), taken]
        rfl
  exact walk _

/-! #### The head of the queue (04:R70) -/

theorem Port.guardPassed_iff {r : Port} {osc : Nat} :
    r.guardPassed osc = true ↔ ∀ x, r.tx = some x → x.endsAt + 16 ≤ osc := by
  unfold Port.guardPassed Config.guardNs
  cases r.tx <;> simp

theorem Port.fits_iff {r : Port} {now : SiteNs} : r.fits f now = true ↔
    ∀ e ∈ r.schedule, reached e.instant ((now + 8 * f.symbols) % (281474976710656 * 1000000000)) = true := by
  simp [Port.fits, Config.symbolNs, Config.siteMod, Nat.mul_comm]

theorem Port.depart_eq (r : Port) (f : Frame) (rest : List Frame) (osc : Nat) (sent : Capture) :
    r.depart f rest osc sent = { r with
      queue := rest
      tx := some ⟨.frame f, osc + 8 * f.symbols⟩
      reports := r.reports ++ match f with
        | .mark l seconds _ _ _ _ => [.mark l seconds]
        | .echo l n => [.echo l n sent]
        | .accept .. | .wait _ | .refuse .. | .notice .. => [] } := by
  unfold Port.depart Config.symbolNs
  rw [Nat.mul_comm]
  cases f <;> rfl

/-- The head `f` of an OPEN port's queue may depart now: the guard has passed, and it ends no later than each boundary symbol. -/
def State.departs (s : State) (p : PortIx) (f : Frame) : Prop :=
  (s.port p).state = .opened ∧ (∀ x, (s.port p).tx = some x → x.endsAt + 16 ≤ s.clock.osc) ∧
    ∀ e ∈ (s.port p).schedule, reached e.instant ((s.tb.siteTime + 8 * f.symbols) % (281474976710656 * 1000000000)) = true

theorem departs_iff : s.departs p f ↔
    ((s.port p).state = .opened && (s.port p).guardPassed s.clock.osc && (s.port p).fits f s.tb.siteTime) = true := by
  unfold State.departs
  rw [Bool.and_eq_true, Bool.and_eq_true, decide_eq_true_iff, Port.guardPassed_iff, Port.fits_iff, and_assoc]

theorem frameDeparts_ready (queue : (s.port p).queue = f :: rest) (ready : s.departs p f) :
    s.frameDeparts p = if (s.port p).queue.length = 16 then
      (s.setPort p ((s.port p).depart f rest s.clock.osc s.capture)).roomInQueue p
      else s.setPort p ((s.port p).depart f rest s.clock.osc s.capture) := by
  unfold State.frameDeparts
  dsimp only
  rw [queue]
  exact if_pos (departs_iff.mp ready)

theorem frameDeparts_idle (idle : (s.port p).queue = [] ∨ ∃ f rest, (s.port p).queue = f :: rest ∧ ¬ s.departs p f) :
    s.frameDeparts p = s := by
  unfold State.frameDeparts
  dsimp only
  rcases idle with empty | ⟨f, rest, queue, waits⟩
  · rw [empty]
  · rw [queue]
    exact if_neg (mt departs_iff.mpr waits)

/-- Settles O30: the head of the queue departs and its report is made, and a full queue's room goes to the first notice that
waits. -/
theorem frameDeparts : Obligations.FrameDeparts := by
  unfold Obligations.FrameDeparts
  intro s u dt p h r ready waiting
  simp only [exec_frameDeparture, event_at h]
  refine ⟨fun f rest queue now => ?_, fun idle => ⟨_, rfl, ?_⟩⟩
  · have opened : r.state = .opened := now.1
    have left := frameDeparts_ready queue now
    have gone := r.depart_eq f rest u.clock.osc u.capture
    have departed {ps : List Part} (hports : Part.ports ∈ ps) :
        u.OnlyTouches ps (u.setPort p (r.depart f rest u.clock.osc u.capture)) :=
      setPort_touches hports rfl (.inr rfl) .rfl'
    refine ⟨_, rfl, ?_⟩
    rw [left]
    by_cases full : r.queue.length = 16
    · rw [if_pos full, if_pos full]
      have room := roomInQueue_one (s := u.setPort p (r.depart f rest u.clock.osc u.capture)) (p := p)
        (by rw [setPort_port]; exact opened) (by rw [setPort_port, gone]; simpa [queue] using full)
      refine ⟨?_, fun q apart => ?_, ?_⟩
      · exact settle_touches (by simp) <| roomInQueue_touches (by simp) (by simp) <| departed (by simp)
      · rw [settle_port, roomInQueue_port_ne apart, setPort_port_ne u apart.symm]
      · rw [settle_port, room, setPort_port, gone, if_pos full]
        rfl
    · rw [if_neg full, if_neg full]
      refine ⟨settle_touches (by simp) <| departed (by simp), fun q apart => setPort_port_ne u apart.symm _, ?_⟩
      rw [settle_port, setPort_port, gone, if_neg full, List.append_nil]
      rfl
  · rw [frameDeparts_idle idle]
    exact settle_touches (by simp) .rfl'

end Sys2Proof.Machine

/-! ### Frames on a lane (04:R68) -/
namespace Sys2Proof

/-! #### Bytes written back from what is read -/

theorem beNat_append_singleton (bs : List Byte) (b : Byte) : beNat (bs ++ [b]) = beNat bs * 256 + b.toNat := by
  simp [beNat]

theorem beNat_lt (bs : List Byte) : beNat bs < 256 ^ bs.length := by
  induction bs using List.reverseRecOn with
  | nil => simp [beNat]
  | append_singleton bs b ih =>
    rw [beNat_append_singleton, List.length_append, List.length_singleton, Nat.pow_succ]
    have := b.isLt
    omega

theorem beBytes_beNat (bs : List Byte) : beBytes bs.length (beNat bs) = bs := by
  induction bs using List.reverseRecOn with
  | nil => rfl
  | append_singleton bs b ih =>
    have high : (beNat bs * 256 + b.toNat) / 256 = beNat bs := by have := b.isLt; omega
    have low : BitVec.ofNat 8 (beNat bs * 256 + b.toNat) = b := by
      refine BitVec.eq_of_toNat_eq ?_
      have := b.isLt
      rw [BitVec.toNat_ofNat]
      omega
    rw [beNat_append_singleton, List.length_append, List.length_singleton, beBytes, high, low, ih]

/-- Bytes written back from the word read from them. -/
theorem beBytes_ofNat_beNat (w : Nat) (bs : List Byte) (h : 8 * bs.length = w) :
    beBytes bs.length (BitVec.ofNat w (beNat bs)).toNat = bs := by
  have fits : beNat bs < 2 ^ w := by
    rw [← h, Nat.pow_mul]
    exact beNat_lt bs
  rw [BitVec.toNat_ofNat, Nat.mod_eq_of_lt fits, beBytes_beNat]

theorem beBytes_wordsOfBytes (n : Nat) (bs : List Byte) (h : bs.length = 4 * n) :
    (wordsOfBytes bs).length = n ∧ ((wordsOfBytes bs).flatMap fun w => beBytes 4 w.toNat) = bs := by
  induction n generalizing bs with
  | zero =>
    obtain rfl := List.eq_nil_of_length_eq_zero h
    exact ⟨rfl, rfl⟩
  | succ n ih =>
    match bs, h with
    | a :: b :: c :: d :: rest, h =>
      obtain ⟨length, words⟩ := ih rest (by simp only [List.length_cons] at h; omega)
      have word : beBytes 4 (BitVec.ofNat 32 (beNat [a, b, c, d])).toNat = [a, b, c, d] :=
        beBytes_ofNat_beNat 32 [a, b, c, d] rfl
      rw [wordsOfBytes, List.length_cons, length, List.flatMap_cons, word, words]
      exact ⟨rfl, rfl⟩

/-! #### What a kind and a body give (04 section 4.2) -/

theorem hubKindOf_code {kind : Nat} {k : HubKind} {len : Nat} (h : hubKindOf kind = some (k, len)) : k.code.toNat = kind := by
  unfold hubKindOf at h
  split at h <;> cases h <;> rfl

theorem radioFrame_coding {kind : Byte} {body : List Byte} {f : LaneFrame} (h : radioFrame kind.toNat body = some f) :
    f.fits = true ∧ f.kind = kind ∧ f.body = body := by
  unfold radioFrame at h
  split at h
  next t3 t2 t1 t0 w o u1 u0 code =>
    cases h
    have tag : beBytes 4 _ = _ := beBytes_ofNat_beNat 32 [t3, t2, t1, t0] rfl
    have turnaround : beBytes 2 _ = _ := beBytes_ofNat_beNat 16 [u1, u0] rfl
    refine ⟨rfl, BitVec.eq_of_toNat_eq code.symm, ?_⟩
    rw [LaneFrame.body, tag, turnaround]
    rfl
  next code =>
    cases h
    exact ⟨rfl, BitVec.eq_of_toNat_eq code.symm, rfl⟩
  next code =>
    cases h
    exact ⟨rfl, BitVec.eq_of_toNat_eq code.symm, rfl⟩
  next code =>
    cases h
    exact ⟨rfl, BitVec.eq_of_toNat_eq code.symm, rfl⟩
  next l sev k ws code =>
    split at h
    next sized =>
      cases h
      obtain ⟨few, length⟩ : k.toNat ≤ 6 ∧ ws.length = 4 * k.toNat := by simpa using sized
      obtain ⟨count, words⟩ := beBytes_wordsOfBytes k.toNat ws length
      refine ⟨by simp [LaneFrame.fits, count, few], BitVec.eq_of_toNat_eq code.symm, ?_⟩
      rw [LaneFrame.body, words, count]
      simp
    next => cases h
  next l s5 s4 s3 s2 s1 s0 v d3 d2 d1 d0 code =>
    cases h
    have seconds : beBytes 6 _ = _ := beBytes_ofNat_beNat 48 [s5, s4, s3, s2, s1, s0] rfl
    have difference : beBytes 4 _ = _ := beBytes_ofNat_beNat 32 [d3, d2, d1, d0] rfl
    refine ⟨rfl, BitVec.eq_of_toNat_eq code.symm, ?_⟩
    rw [LaneFrame.body, seconds, difference]
    rfl
  next => cases h

/-- A kind and a body give a frame only if they are its own. -/
theorem frameOfBody_coding {kind : Byte} {body : List Byte} {f : LaneFrame} (h : frameOfBody kind body = some f) :
    f.fits = true ∧ f.kind = kind ∧ f.body = body := by
  unfold frameOfBody at h
  split at h
  next k len known =>
    split at h
    next sized =>
      cases h
      have code := hubKindOf_code known
      refine ⟨?_, BitVec.eq_of_toNat_eq code, rfl⟩
      simp only [LaneFrame.fits, code, known, sized, decide_true]
    next => cases h
  next => exact radioFrame_coding h

/-- Data symbols give a frame exactly when they are the coding of a frame of its kind's length. -/
theorem frameOfData_iff {data : List Byte} {f : LaneFrame} :
    frameOfData data = some f ↔ f.fits = true ∧ data = frameData f.kind f.body := by
  refine ⟨fun h => ?_, fun ⟨fits, coded⟩ => by rw [coded, f.frameOfData_line fits]⟩
  match data, h with
  | [], h => cases h
  | [_], h => cases h
  | kind :: len :: rest, h =>
    unfold frameOfData at h
    dsimp only at h
    split at h
    next whole =>
      obtain ⟨length, check⟩ : rest.length = len.toNat + 2 ∧
          crc16 (kind :: len :: rest.take len.toNat) = BitVec.ofNat 16 (beNat (rest.drop len.toNat)) := by simpa using whole
      obtain ⟨fits, hkind, hbody⟩ := frameOfBody_coding h
      have size : BitVec.ofNat 8 (rest.take len.toNat).length = len := by simp [length]
      have two : (rest.drop len.toNat).length = 2 := by rw [List.length_drop, length]; omega
      have last := beBytes_ofNat_beNat 16 (rest.drop len.toNat) (by rw [two])
      rw [two] at last
      refine ⟨fits, ?_⟩
      rw [frameData, frameChecked, hkind, hbody, size, check, last, List.cons_append, List.cons_append, List.take_append_drop]
    next => cases h

theorem LaneFrame.line_split (f : LaneFrame) :
    f.line.map some = f.line.dropLast.map some ++ [some .frameEnd] := by
  have ends : f.line = (.frameStart :: (frameData f.kind f.body).map LineSymbol.data) ++ [.frameEnd] := rfl
  rw [ends, List.dropLast_concat, List.map_append]
  rfl

namespace Machine

variable {s u : State} {dt own : Nat} {p : PortIx} {heard : List RxSymbol}

/-- A command that names a frame is its symbols heard one after the other. -/
theorem frameEvent_heard (f : LaneFrame) :
    frameEvent dt ⟨p, heard⟩ f s = exec (.laneLockGained dt ⟨p, heard ++ f.line.dropLast.map some, .frameEnd⟩) s := by
  rw [exec_laneLockGained]
  unfold frameEvent
  rw [f.line_split, ← List.append_assoc]

theorem laneLockGained_at {y : LineSymbol} (h : s.LaneAt dt p heard 1 u) :
    exec (.laneLockGained dt ⟨p, heard, y⟩) s = .next (u.hearSymbol p (s.captureAgo dt 0) (some y)).settle := by
  rw [exec_laneLockGained]
  exact laneEvent_at (own := [some y]) h

theorem laneLockLost_at (h : s.LaneAt dt p heard 1 u) :
    exec (.laneLockLost dt ⟨p, heard⟩) s = .next (u.hearSymbol p (s.captureAgo dt 0) none).settle := by
  rw [exec_laneLockLost]
  exact laneEvent_at (own := [none]) h

/-- Symbols heard to their end. -/
theorem laneEvent_heard {xs : List RxSymbol} (h : s.LaneAt dt p xs 0 u) : laneEvent dt p xs s = .next u.settle := by
  have ran := laneEvent_at (own := []) h
  rw [List.append_nil] at ran
  exact ran

/-- A command that changes a receiver and brings nothing. -/
theorem setLane_only {c : Instr} {r : LaneReceiver} (ran : exec c s = .next (u.setLane p r).settle) :
    ∃ t, exec c s = .next t ∧ u.OnlyTouches [.lanes, .pins] t ∧ t.lane p = r ∧ ∀ q, q ≠ p → t.lane q = u.lane q :=
  ⟨_, ran, settle_touches (by simp) <| setLane_touches (by simp) .rfl', setLane_lane u p r,
    fun _ apart => setLane_lane_ne u apart.symm r⟩

/-- What a line symbol heard with lock does. -/
theorem laneLockGained_accepts {y : LineSymbol} (h : s.LaneAt dt p heard 1 u) (up : (u.port p).linkUp = true) :
    exec (.laneLockGained dt ⟨p, heard, y⟩) s = .next ((u.setLane p ((u.lane p).accept (s.captureAgo dt 0) y).1).actLane p
      ((u.lane p).accept (s.captureAgo dt 0) y).2).settle := by
  rw [laneLockGained_at h, hearSymbol_accept up]

/-- Settles O28: the coding of a frame both ways, one symbol at a receiver with lock, and commands that hear their symbols in order. -/
theorem laneReceiverAssemblesFrames : Obligations.LaneReceiverAssemblesFrames := by
  unfold Obligations.LaneReceiverAssemblesFrames
  refine ⟨fun data f => frameOfData_iff, ?_, ?_, ?_⟩
  · intro s u dt p heard y h up r becomes
    have took := laneLockGained_accepts (y := y) h up
    refine ⟨?_, ?_, ?_, ?_, ?_⟩
    · rintro rfl
      exact setLane_only took
    · rintro b rfl
      exact setLane_only took
    · rintro (rfl | ⟨l, rfl⟩)
      · exact setLane_only took
      · exact setLane_only took
    · rintro rfl discarded
      have quiet : (r.frame.map RxFrame.closed).getD .quiet = .quiet := by
        cases opened : r.frame with
        | none => rfl
        | some f => simp [RxFrame.closed, discarded f opened]
      simp only [LaneReceiver.accept] at took
      rw [quiet] at took
      exact setLane_only took
    · rintro f g rfl opened accepted
      have delivered : (r.frame.map RxFrame.closed).getD .quiet = .frame g f.captured := by
        simp [opened, RxFrame.closed, accepted]
      simp only [LaneReceiver.accept] at took
      rw [delivered] at took
      exact took
  · intro s dt p heard hears
    exact ⟨fun _ => frameEvent_heard _, fun _ => frameEvent_heard _, fun _ => frameEvent_heard _,
      fun _ => frameEvent_heard _, fun _ => frameEvent_heard _, fun _ _ => frameEvent_heard _, fun _ _ => frameEvent_heard _⟩
  · intro s u dt own p heard
    refine ⟨Iff.rfl, fun y h => ?_, fun h => ?_⟩
    · exact (exec_laneLockGained ..).trans (laneEvent_heard h)
    · exact (exec_laneLockLost ..).trans (laneEvent_heard h)

end Machine

end Sys2Proof

/-! ### What an operation on one port's lease leaves alone (04:R74, 06:R114, 07:R128, R133) -/
namespace Sys2Proof.Machine
open Sys2Proof

variable {s t u : State} {p q : PortIx} {l k : LeaseIx} {x : Lease}

/-! #### A port that has gone silent (04:R78, 06:R115) -/

/-- A port that is not OPEN, with nothing queued, scheduled or measured. -/
def Port.Silent (r : Port) : Prop := r.state ≠ .opened ∧ r.queue = [] ∧ r.schedule = [] ∧ r.scanner = Scanner.reset

namespace Port.Silent

variable {r : Port}

theorem queued (h : r.Silent) : { r with queue := [] } = r := by rw [← h.2.1]

theorem scheduled (h : r.Silent) (keep : SymbolEntry → Bool) : { r with schedule := r.schedule.filter keep } = r := by
  obtain ⟨-, -, empty, -⟩ := h
  rw [empty, List.filter_nil, ← empty]

theorem scanned (h : r.Silent) {c : Scanner} (reset : c = Scanner.reset) : { r with scanner := c } = r := by
  rw [reset, ← h.2.2.2]

theorem offer (h : r.Silent) (f : Frame) : r.offer f = r := by
  unfold Port.offer
  rw [Port.offering_shut h.1]

end Port.Silent

/-! #### Operations of one port -/

/-- From `s` to `t` something was done with port `p`'s queue, schedule and scanner: the leases are what they were, a waiting notice
apart, the other ports are as they were, and so is `p` itself where it was silent. -/
structure State.OnPort (p : PortIx) (s t : State) : Prop where
  held : ∀ l, s.LeaseHeld t l
  apart : ∀ q, q ≠ p → t.port q = s.port q
  standing : (t.port p).standing = (s.port p).standing
  silent : (s.port p).Silent → t.port p = s.port p

/-- Lease `l`, if it is live, is on port `p`. -/
def State.Home (s : State) (l : LeaseIx) (p : PortIx) : Prop := ∀ x, s.lease l = some x → x.port = p

namespace State.OnPort

theorem refl (s : State) : s.OnPort p s := ⟨.refl s, fun _ _ => rfl, rfl, fun _ => rfl⟩

theorem trans (h : s.OnPort p t) (k : t.OnPort p u) : s.OnPort p u where
  held l := (h.held l).trans (k.held l)
  apart q hq := (k.apart q hq).trans (h.apart q hq)
  standing := k.standing.trans h.standing
  silent hs := (k.silent (by rw [h.silent hs]; exact hs)).trans (h.silent hs)

theorem of_touches {ps : List Part} (h : s.OnlyTouches ps t) (hports : Part.ports ∉ ps) (hleases : Part.leases ∉ ps) :
    s.OnPort p t where
  held := h.held hleases
  apart q _ := h.port hports q
  standing := by rw [h.port hports]
  silent _ := h.port hports p

theorem setPort {r : Port} (standing : r.standing = (s.port p).standing) (silent : (s.port p).Silent → r = s.port p) :
    s.OnPort p (s.setPort p r) where
  held l := .of_slot rfl
  apart q hq := setPort_port_ne s hq.symm r
  standing := by rw [setPort_port, standing]
  silent hs := by rw [setPort_port, silent hs]

theorem updScanner {f : Scanner → Scanner} (reset : f Scanner.reset = Scanner.reset) : s.OnPort p (s.updScanner p f) :=
  setPort rfl fun h => h.scanned (by rw [h.2.2.2, reset])

theorem offer (f : Frame) : s.OnPort p (s.offer p f) := setPort ((s.port p).offer_standing f) fun h => h.offer f

theorem updLease {f : Lease → Lease} (hf : ∀ x, (f x).unnoticed = x.unnoticed) : s.OnPort p (s.updLease l f) where
  held _ := .updLease hf
  apart _ _ := rfl
  standing := rfl
  silent _ := rfl

theorem roomInQueue : s.OnPort p (s.roomInQueue p) where
  held := (Quiet.roomInQueue p).held
  apart q hq := roomInQueue_port_ne hq
  standing := (roomInQueue_touches (ps := [.ports, .leases]) (by simp) (by simp) .rfl').standing (by simp) p
  silent h := (Quiet.roomInQueue p).shut p h.1

theorem removeFrames (drop : Frame → Bool) : s.OnPort p (s.removeFrames p drop) := by
  have fewer : s.OnPort p (s.setPort p { s.port p with queue := (s.port p).queue.filter fun f => !drop f }) :=
    setPort rfl fun h => by rw [h.2.1, List.filter_nil, h.queued]
  unfold State.removeFrames
  dsimp only
  split
  · exact fewer.trans roomInQueue
  · exact fewer

theorem dropSchedule : s.OnPort p (s.dropSchedule p l) := setPort rfl fun h => h.scheduled _

theorem abandonBatch (home : s.Home l p) : s.OnPort p (s.abandonBatch l) := by
  unfold State.abandonBatch
  split
  · exact refl s
  next x live =>
    rw [home x live]
    split
    · exact updScanner rfl
    · exact refl s

theorem dropInjection (home : s.Home l p) : s.OnPort p (s.dropInjection l) := by
  unfold State.dropInjection
  split
  · exact refl s
  next x live =>
    rw [home x live]
    exact updScanner rfl

theorem putNotice (home : s.Home l p) (kind : NoticeKind) (value : Int) : s.OnPort p (s.putNotice l kind value) := by
  unfold State.putNotice
  split
  · exact refl s
  next x live =>
    rw [home x live]
    split
    · exact offer _
    · exact updLease fun _ => rfl
    · exact refl s

theorem raiseLease (k : AlarmKind) (d : Option Detail) : s.OnPort p (s.raiseLease l k d) :=
  of_touches (ps := [.slots, .rooms]) (raiseLease_touches (by simp) (by simp) .rfl') (by simp) (by simp)

theorem clearAlarm (k : AlarmKind) (n : Nat) : s.OnPort p (s.clearAlarm k n) :=
  of_touches (ps := [.slots, .rooms]) (clearAlarm_touches (by simp) (by simp) .rfl') (by simp) (by simp)

theorem clearLeaseAlarms : s.OnPort p (s.clearLeaseAlarms l) :=
  of_touches (ps := [.slots, .rooms]) (clearLeaseAlarms_touches (by simp) (by simp) .rfl') (by simp) (by simp)

theorem unbindOffer (f : Offer) : s.OnPort p (s.unbindOffer f) :=
  of_touches (ps := [.refs, .slots, .rooms]) (unbindOffer_touches (by simp) (by simp) (by simp) .rfl') (by simp) (by simp)

theorem offerSome (f : Option Frame) : s.OnPort p (s.offerSome p f) := by
  unfold State.offerSome
  split
  · exact refl s
  · exact offer _

theorem home (h : s.OnPort p t) (on : s.Home l q) : t.Home l q := by
  intro y live
  obtain ⟨-, same⟩ := h.held l
  rw [live] at same
  obtain ⟨x, was, same⟩ := Option.map_eq_some_iff.mp same.symm
  have ports : x.unnoticed.port = y.unnoticed.port := congrArg Lease.port same
  exact ports.symm.trans (on x was)

end State.OnPort

/-! #### Operations on one lease -/

/-- From `s` to `t` something was done with lease `l` of port `p`, short of a move: the other leases are what they were, a waiting notice
apart, and so are the other ports, and `p` itself where it was silent. -/
structure State.OnLease (l : LeaseIx) (p : PortIx) (s t : State) : Prop where
  rev : (t.slot l).rev = (s.slot l).rev
  home : s.Home l p → t.Home l p
  others : ∀ k, k ≠ l → s.LeaseHeld t k
  apart : ∀ q, q ≠ p → t.port q = s.port q
  standing : (t.port p).standing = (s.port p).standing
  silent : (s.port p).Silent → t.port p = s.port p

theorem State.OnPort.onLease (h : s.OnPort p t) (l : LeaseIx) : s.OnLease l p t where
  rev := (h.held l).1
  home := h.home
  others k _ := h.held k
  apart := h.apart
  standing := h.standing
  silent := h.silent

namespace State.OnLease

theorem trans (h : s.OnLease l p t) (k : t.OnLease l p u) : s.OnLease l p u where
  rev := k.rev.trans h.rev
  home on := k.home (h.home on)
  others j hj := (h.others j hj).trans (k.others j hj)
  apart q hq := (k.apart q hq).trans (h.apart q hq)
  standing := k.standing.trans h.standing
  silent hs := (k.silent (by rw [h.silent hs]; exact hs)).trans (h.silent hs)

theorem updLease {f : Lease → Lease} (hf : ∀ x, (f x).port = x.port) : s.OnLease l p (s.updLease l f) where
  rev := by rw [updLease_slot, if_pos rfl]
  home on y live := by
    rw [updLease_lease] at live
    obtain ⟨x, was, rfl⟩ := Option.map_eq_some_iff.mp live
    exact (hf x).trans (on x was)
  others k hk := .updLease_ne hk.symm
  apart _ _ := rfl
  standing := rfl
  silent _ := rfl

theorem stopAllFrames (home : s.Home l p) : s.OnLease l p (s.stopAllFrames l) := by
  unfold State.stopAllFrames
  split
  · exact (OnPort.refl s).onLease l
  next x live =>
    rw [home x live]
    have unnoticed : s.OnLease l p (s.updLease l fun y => { y with notice := none }) := updLease fun _ => rfl
    have dropped {v : State} : v.OnPort p ((v.removeFrames p (Frame.carries l)).dropSchedule p l) :=
      (OnPort.removeFrames _).trans .dropSchedule
    exact (unnoticed.trans (dropped.onLease l)).trans (updLease fun _ => rfl)

end State.OnLease

/-! ### Retirement (07:R133) -/

/-- Slot `l` is free, its port counts one lease less, and nothing else of leases and port records has changed (07:R133). -/
theorem freeLease_slot (l k : LeaseIx) (p : PortIx) :
    (s.freeLease l p).slot k = if l = k then ⟨(s.slot l).rev + 1, none⟩ else s.slot k := setLeaseSlot_slot_if s l k _

/-- A port that counts one lease less. -/
def Port.oneLess (r : Port) : Port := { r with liveLeases := r.liveLeases - 1, rev := r.rev + 1 }

theorem freeLease_port (l : LeaseIx) (p q : PortIx) :
    (s.freeLease l p).port q = if p = q then (s.port p).oneLess else s.port q :=
  updPort_port (s := s.setLeaseSlot l ⟨(s.slot l).rev + 1, none⟩) p q Port.oneLess

theorem retireQuiet_live (live : s.lease l = some x) (f : Option Frame) :
    ∃ t, s.OnLease l x.port t ∧ s.retireQuiet l f = t.freeLease l x.port := by
  have on : s.Home l x.port := fun y h => by rw [live] at h; cases h; rfl
  unfold State.retireQuiet
  rw [live]
  refine ⟨_, ?_, rfl⟩
  have stopped : s.OnLease l x.port (s.stopAllFrames l) := .stopAllFrames on
  have abandoned := stopped.trans <| (State.OnPort.abandonBatch (stopped.home on)).onLease l
  have dropped := abandoned.trans <| (State.OnPort.dropInjection (abandoned.home on)).onLease l
  exact dropped.trans <| (((State.OnPort.unbindOffer x.offer).trans .clearLeaseAlarms).trans (.offerSome f)).onLease l

theorem retireQuiet_free (free : s.lease l = none) (f : Option Frame) : s.retireQuiet l f = s := by
  unfold State.retireQuiet
  rw [free]

theorem retireQuiet_retired (live : s.lease l = some x) (f : Option Frame) : s.LeaseRetired (s.retireQuiet l f) l := by
  obtain ⟨t, on, freed⟩ := retireQuiet_live live f
  unfold State.LeaseRetired
  rw [freed, freeLease_slot, if_pos rfl, on.rev]

theorem retireQuiet_others (apart : k ≠ l) (f : Option Frame) : s.LeaseHeld (s.retireQuiet l f) k := by
  cases live : s.lease l with
  | none =>
    rw [retireQuiet_free live]
    exact .refl s k
  | some x =>
    obtain ⟨t, on, freed⟩ := retireQuiet_live live f
    rw [freed]
    exact (on.others k apart).trans <| .of_slot <| (freeLease_slot ..).trans (if_neg apart.symm)

theorem retireQuiet_port_ne (live : s.lease l = some x) (apart : q ≠ x.port) (f : Option Frame) :
    (s.retireQuiet l f).port q = s.port q := by
  obtain ⟨t, on, freed⟩ := retireQuiet_live live f
  rw [freed, freeLease_port, if_neg apart.symm, on.apart q apart]

theorem retireQuiet_standing (live : s.lease l = some x) (f : Option Frame) : ((s.retireQuiet l f).port x.port).standing =
    ((s.port x.port).state, (s.port x.port).linkUp, (s.port x.port).liveLeases - 1, (s.port x.port).rev + 1) := by
  obtain ⟨t, on, freed⟩ := retireQuiet_live live f
  have same := on.standing
  rw [freed, freeLease_port, if_pos rfl]
  simp only [Port.standing, Port.oneLess, Prod.mk.injEq] at same ⊢
  simp only [same, and_self]

theorem retireQuiet_silent (live : s.lease l = some x) (f : Option Frame) (silent : (s.port x.port).Silent) :
    (s.retireQuiet l f).port x.port = (s.port x.port).oneLess := by
  obtain ⟨t, on, freed⟩ := retireQuiet_live live f
  rw [freed, freeLease_port, if_pos rfl, on.silent silent]

end Sys2Proof.Machine

/-! ### A port's leases retired together (04:R78, R80, R81) -/
namespace Sys2Proof.Machine
open Sys2Proof

variable {s t u : State} {p q : PortIx} {l k : LeaseIx} {x : Lease}

/-- A walk seen from the turn of `j`: the turns before it and after it are in a relation that every other turn is in. -/
theorem forAll_turn {n : Nat} {f : Fin n → State → State} (j : Fin n) {R : State → State → Prop} {I : State → Prop}
    (refl : ∀ v, R v v) (trans : ∀ {a b c}, R a b → R b c → R a c) (keep : ∀ i v, I v → I (f i v))
    (others : ∀ i v, i ≠ j → I v → R v (f i v)) (init : I s) : ∃ t, I t ∧ R s t ∧ R (f j t) (forAll f s) := by
  have walk (xs : List (Fin n)) (v : State) (fresh : j ∉ xs) (inv : I v) :
      I (xs.foldl (fun t i => f i t) v) ∧ R v (xs.foldl (fun t i => f i t) v) := by
    induction xs generalizing v with
    | nil => exact ⟨inv, refl v⟩
    | cons i xs ih =>
      obtain ⟨apart, fresh⟩ := not_or.mp (mt List.mem_cons.mpr fresh)
      obtain ⟨kept, rest⟩ := ih (f i v) fresh (keep i v inv)
      exact ⟨kept, trans (others i v (Ne.symm apart) inv) rest⟩
  obtain ⟨before, after, split⟩ := List.mem_iff_append.mp (List.mem_finRange j)
  have distinct := List.nodup_finRange n
  rw [split] at distinct
  obtain ⟨early, late⟩ : j ∉ before ∧ j ∉ after := by
    obtain ⟨-, last, cross⟩ := List.nodup_append.mp distinct
    exact ⟨fun h => cross j h j (by simp) rfl, (List.nodup_cons.mp last).1⟩
  obtain ⟨inv, first⟩ := walk before s early init
  refine ⟨_, inv, first, ?_⟩
  unfold forAll
  rw [split, List.foldl_append, List.foldl_cons]
  exact (walk after _ late (keep j _ inv)).2

/-- The turn of lease `l` in the retirement of port `p`'s leases. -/
def State.retireTurn (p : PortIx) (l : LeaseIx) (s : State) : State := if s.leaseOn l p then s.retireQuiet l none else s

theorem leaseOn_iff : s.leaseOn l p = true ↔ ∃ x, s.lease l = some x ∧ x.port = p := by
  unfold State.leaseOn
  cases s.lease l <;> simp

theorem retireTurn_cases (s : State) (p : PortIx) (l : LeaseIx) : s.retireTurn p l = s ∨
    ∃ x, s.lease l = some x ∧ x.port = p ∧ s.retireTurn p l = s.retireQuiet l none := by
  unfold State.retireTurn
  split
  next on =>
    obtain ⟨x, live, here⟩ := leaseOn_iff.mp on
    exact .inr ⟨x, live, here, rfl⟩
  next => exact .inl rfl

theorem retireTurn_others (apart : k ≠ l) : s.LeaseHeld (s.retireTurn p l) k := by
  rcases retireTurn_cases s p l with same | ⟨-, -, -, retired⟩
  · rw [same]
    exact .refl s k
  · rw [retired]
    exact retireQuiet_others apart none

theorem retireTurn_port_ne (apart : q ≠ p) : (s.retireTurn p l).port q = s.port q := by
  rcases retireTurn_cases s p l with same | ⟨x, live, here, retired⟩
  · rw [same]
  · rw [retired, retireQuiet_port_ne live (here ▸ apart)]

theorem Port.standing_inj {r r' : Port} (h : r.standing = r'.standing) :
    r.state = r'.state ∧ r.linkUp = r'.linkUp ∧ r.liveLeases = r'.liveLeases ∧ r.rev = r'.rev := by
  simpa only [Port.standing, Prod.mk.injEq] using h

theorem retireTurn_state : ((s.retireTurn p l).port p).state = (s.port p).state ∧
    ((s.retireTurn p l).port p).linkUp = (s.port p).linkUp := by
  rcases retireTurn_cases s p l with same | ⟨x, live, rfl, retired⟩
  · rw [same]
    exact ⟨rfl, rfl⟩
  · rw [retired]
    have standing := retireQuiet_standing live none
    exact ⟨congrArg Prod.fst standing, congrArg (fun y => y.2.1) standing⟩

/-- A port's record, its count of leases and its revision apart. -/
def Port.uncounted (r : Port) : Port := { r with liveLeases := 0, rev := 0 }

theorem Port.uncounted_inj {r r' : Port} (h : r.uncounted = r'.uncounted) : r.state = r'.state ∧ r.linkUp = r'.linkUp ∧
    r.queue = r'.queue ∧ r.schedule = r'.schedule ∧ r.tx = r'.tx ∧ r.scanner = r'.scanner := by
  simp only [Port.uncounted, Port.mk.injEq] at h
  simp only [h, and_self]

theorem Port.Silent.of_uncounted {r r' : Port} (h : r'.Silent) (same : r.uncounted = r'.uncounted) : r.Silent := by
  obtain ⟨state, -, queue, schedule, -, scanner⟩ := Port.uncounted_inj same
  unfold Port.Silent
  rw [state, queue, schedule, scanner]
  exact h

theorem retireTurn_silent (silent : (s.port p).Silent) : ((s.retireTurn p l).port p).uncounted = (s.port p).uncounted := by
  rcases retireTurn_cases s p l with same | ⟨x, live, rfl, retired⟩
  · rw [same]
  · rw [retired, retireQuiet_silent live none silent]
    rfl

/-- The leases of port `p` retired, before the losses that their unbinding brings. -/
def State.retireTurns (s : State) (p : PortIx) : State := forAll (fun l t => t.retireTurn p l) s

theorem retirePort_eq (s : State) (p : PortIx) : s.retirePort p = (s.retireTurns p).portLosses s p := rfl

theorem retireTurns_lease (s : State) (p : PortIx) (l : LeaseIx) :
    if s.leaseOn l p then s.LeaseRetired (s.retireTurns p) l else s.LeaseHeld (s.retireTurns p) l := by
  obtain ⟨t, -, before, after⟩ := forAll_turn (s := s) (f := fun l t => t.retireTurn p l) l (R := fun a b => a.LeaseHeld b l)
    (I := fun _ => True) (fun v => .refl v l) .trans (fun _ _ _ => trivial) (fun k v apart _ => retireTurn_others apart.symm) trivial
  unfold State.retireTurns
  rw [← before.leaseOn p]
  unfold State.retireTurn at after
  split
  next on =>
    obtain ⟨x, live, -⟩ := leaseOn_iff.mp on
    rw [if_pos on] at after
    exact before.retired ((retireQuiet_retired live none).held after)
  next off =>
    rw [if_neg off] at after
    exact before.trans after

theorem retirePort_lease (s : State) (p : PortIx) (l : LeaseIx) :
    if s.leaseOn l p then s.LeaseRetired (s.retirePort p) l else s.LeaseHeld (s.retirePort p) l := by
  have turns := retireTurns_lease s p l
  have losses := (State.Quiet.portLosses s p (s := s.retireTurns p)).held l
  split at turns
  next on => rw [if_pos on]; exact turns.held losses
  next off => rw [if_neg off]; exact turns.trans losses

theorem retireTurns_port_ne (apart : q ≠ p) : (s.retireTurns p).port q = s.port q :=
  forAll_keeps (f := fun l t => t.retireTurn p l) (P := fun t => t.port q = s.port q)
    (fun _ _ h => (retireTurn_port_ne apart).trans h) rfl

theorem portLosses_standing (s before : State) (p q : PortIx) :
    ((s.portLosses before p).port q).standing = (s.port q).standing :=
  (portLosses_touches (ps := [.tb, .ports, .leases, .outs, .slots, .rooms]) (by simp) (by simp) (by simp) (by simp) (by simp)
    (by simp) .rfl').standing (by simp) q

theorem retirePort_standing_ne (apart : q ≠ p) : ((s.retirePort p).port q).standing = (s.port q).standing := by
  rw [retirePort_eq, portLosses_standing, retireTurns_port_ne apart]

theorem retireTurns_state (s : State) (p : PortIx) : ((s.retireTurns p).port p).state = (s.port p).state ∧
    ((s.retireTurns p).port p).linkUp = (s.port p).linkUp :=
  forAll_keeps (P := fun t => (t.port p).state = (s.port p).state ∧ (t.port p).linkUp = (s.port p).linkUp)
    (fun _ _ h => ⟨retireTurn_state.1.trans h.1, retireTurn_state.2.trans h.2⟩) ⟨rfl, rfl⟩

theorem retirePort_state (s : State) (p : PortIx) : ((s.retirePort p).port p).state = (s.port p).state ∧
    ((s.retirePort p).port p).linkUp = (s.port p).linkUp := by
  obtain ⟨state, link, -, -⟩ := Port.standing_inj (portLosses_standing (s.retireTurns p) s p p)
  obtain ⟨was, up⟩ := retireTurns_state s p
  rw [retirePort_eq]
  exact ⟨state.trans was, link.trans up⟩

/-- A silent port whose leases are retired is as it was, its count and its revision apart. -/
theorem retirePort_silent (silent : (s.port p).Silent) : ((s.retirePort p).port p).uncounted = (s.port p).uncounted := by
  have turns : ((s.retireTurns p).port p).uncounted = (s.port p).uncounted :=
    forAll_keeps (P := fun t => (t.port p).uncounted = (s.port p).uncounted)
      (fun _ _ h => (retireTurn_silent (silent.of_uncounted h)).trans h) rfl
  rw [retirePort_eq, (State.Quiet.portLosses s p).shut p (silent.of_uncounted turns).1, turns]

/-- A port that has just left OPEN is silent (04:R78, 06:R115). -/
theorem silencePort_port (s : State) (p : PortIx) : (s.silencePort p).port p =
    { (s.port p).silence s.clock.osc with scanner := Scanner.reset } := by
  unfold State.silencePort State.stopScanner
  rw [updScanner_port, if_pos rfl, updPort_port, if_pos rfl]

theorem silencePort_port_ne (apart : q ≠ p) : (s.silencePort p).port q = s.port q := by
  unfold State.silencePort State.stopScanner
  rw [updScanner_port, if_neg apart.symm, updPort_port, if_neg apart.symm]

end Sys2Proof.Machine

/-! ### Lock gained and lost (04:R67, R77, R78) -/
namespace Sys2Proof.Machine
open Sys2Proof

variable {s u : State} {p q : PortIx} {dt : Nat} {heard : List RxSymbol}

theorem LaneReceiver.seek_counts {r : LaneReceiver} (few : r.run + 1 < 1024) : r.seek true = ({ r with run := r.run + 1 }, .quiet) := by
  unfold LaneReceiver.seek
  rw [if_neg nofun]
  exact if_pos few

theorem LaneReceiver.seek_gains {r : LaneReceiver} (enough : 1024 ≤ r.run + 1) : r.seek true = (⟨0, none⟩, .gained) := by
  unfold LaneReceiver.seek
  rw [if_neg nofun]
  exact if_neg (Nat.not_lt.mpr enough)

theorem LaneReceiver.miss_counts {r : LaneReceiver} (few : r.run + 1 < 16) : r.miss = ({ r with run := r.run + 1 }, .quiet) :=
  if_pos few

theorem LaneReceiver.miss_loses {r : LaneReceiver} (enough : 16 ≤ r.run + 1) : r.miss = (⟨0, none⟩, .lost) :=
  if_neg (Nat.not_lt.mpr enough)

/-- A symbol heard without lock. -/
theorem laneLockGained_seeks (h : s.LaneAt dt p heard 1 u) (down : (u.port p).linkUp = false) (y : LineSymbol) :
    exec (.laneLockGained dt ⟨p, heard, y⟩) s =
      .next ((u.setLane p ((u.lane p).seek true).1).actLane p ((u.lane p).seek true).2).settle := by
  rw [laneLockGained_at h, hearSymbol_seek down]
  rfl

theorem laneLockLost_misses (h : s.LaneAt dt p heard 1 u) (up : (u.port p).linkUp = true) :
    exec (.laneLockLost dt ⟨p, heard⟩) s = .next ((u.setLane p (u.lane p).miss.1).actLane p (u.lane p).miss.2).settle := by
  rw [laneLockLost_at h, hearSymbol_miss up]

/-- What happens to the receivers when lock is gained or lost on one of them. -/
theorem setLane_others {ps : List Part} {t : State} (h : (u.setLane p ⟨0, none⟩).OnlyTouches ps t) (hp : Part.lanes ∉ ps) :
    (∀ q, q ≠ p → t.lane q = u.lane q) ∧ t.lane p = ⟨0, none⟩ :=
  ⟨fun q apart => (h.lane hp q).trans (setLane_lane_ne u apart.symm _), (h.lane hp p).trans (setLane_lane u p _)⟩

theorem settle_frame (s : State) : s.OnlyTouches [.pins] s.settle := settle_touches (by simp) .rfl'

/-! #### Lock gained -/

theorem Port.setLink_change {r : Port} {up : Bool} (other : r.linkUp = !up) :
    r.setLink up = { r with linkUp := up, rev := r.rev + 1 } := by
  unfold Port.setLink changed
  rw [other, if_neg (by cases up <;> decide)]

theorem lockGained_down (state : (s.port p).state = .down) :
    s.lockGained p = ((s.setPort p (((s.port p).setLink true).moveTo .opened)).clearAlarm .portDown p.val).choose p := by
  unfold State.lockGained
  dsimp only
  rw [if_pos state, updPort_movePort]

theorem lockGained_up (state : (s.port p).state ≠ .down) : s.lockGained p = s.setPort p ((s.port p).setLink true) := by
  unfold State.lockGained
  exact if_neg state

theorem lockGained_opens (state : (s.port p).state = .down) (down : (s.port p).linkUp = false) :
    ((s.lockGained p).port p).standing = (.opened, true, (s.port p).liveLeases, (s.port p).rev + 2) ∧
      ∀ q, q ≠ p → (s.lockGained p).port q = s.port q := by
  rw [lockGained_down state]
  refine ⟨?_, fun q apart => ?_⟩
  · rw [choose_standing, clearAlarm_port, setPort_port, Port.setLink_change (by simp [down])]
    simp only [Port.standing, Port.moveTo, BitVec.add_assoc]
    rfl
  · rw [choose_port_ne apart, clearAlarm_port, setPort_port_ne s apart.symm]

/-! #### Lock lost -/

theorem lockLost_shut (state : (s.port p).state ≠ .opened) : s.lockLost p = s.setPort p ((s.port p).setLink false) := by
  unfold State.lockLost
  exact if_neg state

theorem lockLost_open (state : (s.port p).state = .opened) : s.lockLost p =
    (((s.setPort p (((s.port p).setLink false).moveTo .down)).silencePort p).retirePort p).raisePort p .portDown := by
  unfold State.lockLost
  dsimp only
  rw [if_pos state, updPort_movePort]

/-- Port `p` as it leaves OPEN with record `r`, its leases retired. -/
def State.leaveOpen (s : State) (p : PortIx) (r : Port) : State := ((s.setPort p r).silencePort p).retirePort p

theorem leaveOpen_lease (s : State) (p : PortIx) (r : Port) (l : LeaseIx) :
    if s.leaseOn l p then s.LeaseRetired (s.leaveOpen p r) l else s.LeaseHeld (s.leaveOpen p r) l := by
  have before : s.LeaseHeld ((s.setPort p r).silencePort p) l := .of_slot rfl
  have retired := retirePort_lease ((s.setPort p r).silencePort p) p l
  rw [before.leaseOn p] at retired
  split at retired
  next on => rw [if_pos on]; exact before.retired retired
  next off => rw [if_neg off]; exact before.trans retired

theorem leaveOpen_standing_ne (r : Port) (apart : q ≠ p) : ((s.leaveOpen p r).port q).standing = (s.port q).standing := by
  unfold State.leaveOpen
  rw [retirePort_standing_ne apart, silencePort_port_ne apart, setPort_port_ne s apart.symm]

theorem leaveOpen_port {r : Port} (shut : r.state ≠ .opened) : ((s.leaveOpen p r).port p).uncounted =
    ({ r.silence s.clock.osc with scanner := Scanner.reset } : Port).uncounted := by
  have left : ((s.setPort p r).silencePort p).port p = { r.silence s.clock.osc with scanner := Scanner.reset } := by
    rw [silencePort_port, setPort_port]
    rfl
  have silent : (((s.setPort p r).silencePort p).port p).Silent := by
    rw [left]
    exact ⟨shut, rfl, rfl, rfl⟩
  exact (retirePort_silent silent).trans (congrArg Port.uncounted left)

/-- A port that left OPEN with what it had in transmission is silent, in the sense of the statements. -/
theorem portSilent_intro {t : State} {r : Port} (tx : r.tx = (s.port p).tx)
    (same : (t.port p).uncounted = ({ r.silence s.clock.osc with scanner := Scanner.reset } : Port).uncounted) : s.PortSilent t p := by
  obtain ⟨-, -, queue, schedule, cut, scanner⟩ := Port.uncounted_inj same
  refine ⟨queue, schedule, scanner, cut.trans ?_⟩
  rw [← tx]
  rfl

/-- Port `p` leaves OPEN: its record, its silence, the other ports and the leases, the alarms raised for it apart. -/
theorem leaveOpen_leaves {t : State} {r : Port} {ps : List Part} (h : (s.leaveOpen p r).OnlyTouches ps t)
    (hports : Part.ports ∉ ps) (hleases : Part.leases ∉ ps) (shut : r.state ≠ .opened) (tx : r.tx = (s.port p).tx) :
    (t.port p).state = r.state ∧ (t.port p).linkUp = r.linkUp ∧ s.PortSilent t p ∧
      (∀ q, q ≠ p → (t.port q).standing = (s.port q).standing) ∧
      ∀ l, if s.leaseOn l p then s.LeaseRetired t l else s.LeaseKept t l := by
  have left := leaveOpen_port (s := s) (p := p) shut
  rw [← h.port hports p] at left
  obtain ⟨state, link, -⟩ := Port.uncounted_inj left
  refine ⟨state, link, portSilent_intro tx left, fun q apart => ?_, fun l => ?_⟩
  · rw [h.port hports, leaveOpen_standing_ne r apart]
  · have retired := leaveOpen_lease s p r l
    split at retired
    next on => rw [if_pos on]; exact retired.held (h.held hleases l)
    next off => rw [if_neg off]; exact (retired.trans (h.held hleases l)).kept

/-- A receiver starts its count again, and its port's record changes. -/
theorem setPort_setLane {c : Instr} {r : Port} (settings : r.settings = (u.port p).settings)
    (ran : exec c s = .next ((u.setLane p ⟨0, none⟩).setPort p r).settle) :
    ∃ t, exec c s = .next t ∧ u.OnlyTouches [.lanes, .ports, .portStates, .pins] t ∧ (∀ q, q ≠ p → t.lane q = u.lane q) ∧
      t.lane p = ⟨0, none⟩ ∧ t.port p = r ∧ ∀ q, q ≠ p → t.port q = u.port q := by
  refine ⟨_, ran, ?_, fun q apart => setLane_lane_ne u apart.symm _, setLane_lane u p _, setPort_port .., fun q apart => ?_⟩
  · exact settle_touches (by simp) <| setPort_touches (by simp) settings (.inl (by simp)) <| setLane_touches (by simp) .rfl'
  · exact setPort_port_ne (u.setLane p ⟨0, none⟩) apart.symm r

/-- Settles O27: the count of a receiver, and what its end brings to the port's record and to its leases. -/
theorem lockOpensAndDownsThePort : Obligations.LockOpensAndDownsThePort := by
  unfold Obligations.LockOpensAndDownsThePort
  intro s u dt p heard h r others counted
  refine ⟨fun down y => ?_, fun up => ?_, fun down => ?_⟩
  · have seeks := laneLockGained_seeks h down y
    refine ⟨fun few => ?_, fun enough state => ?_, fun enough state => ?_⟩
    · rw [LaneReceiver.seek_counts few] at seeks
      obtain ⟨t, ran, touches, lane, rest⟩ := setLane_only seeks
      exact ⟨t, ran, touches, rest, lane⟩
    · rw [LaneReceiver.seek_gains enough] at seeks
      obtain ⟨opened, apart⟩ := lockGained_opens (s := u.setLane p ⟨0, none⟩) (p := p) state down
      obtain ⟨rest, lane⟩ := setLane_others (u := u) (p := p) (ps := [.ports, .portStates, .slots, .rooms, .pins])
        (settle_touches (by simp) <| lockGained_touches (p := p) (by simp) (by simp) (by simp) (by simp) .rfl') (by simp)
      refine ⟨_, seeks, ?_, rest, lane, opened, apart⟩
      exact settle_touches (by simp) <| lockGained_touches (by simp) (by simp) (by simp) (by simp) <| setLane_touches (by simp) .rfl'
    · rw [LaneReceiver.seek_gains enough] at seeks
      have gained := lockGained_up (s := u.setLane p ⟨0, none⟩) (p := p) state
      rw [setLane_port, Port.setLink_change (by rw [down]; rfl)] at gained
      rw [State.actLane, gained] at seeks
      exact setPort_setLane rfl seeks
  · have misses := laneLockLost_misses h up
    refine ⟨fun few => ?_, fun enough state => ?_, fun enough state => ?_⟩
    · rw [LaneReceiver.miss_counts few] at misses
      obtain ⟨t, ran, touches, lane, rest⟩ := setLane_only misses
      exact ⟨t, ran, touches, rest, lane⟩
    · rw [LaneReceiver.miss_loses enough] at misses
      have lost := lockLost_open (s := u.setLane p ⟨0, none⟩) (p := p) state
      rw [setLane_port] at lost
      have raised : ((u.setLane p ⟨0, none⟩).leaveOpen p ((r.setLink false).moveTo .down)).OnlyTouches [.slots, .rooms, .pins]
          ((u.setLane p ⟨0, none⟩).lockLost p).settle := by
        rw [lost]
        exact settle_touches (by simp) <| raisePort_touches (by simp) (by simp) .rfl'
      have left := leaveOpen_leaves raised (by simp) (by simp) (by simp [Port.moveTo]) rfl
      obtain ⟨rest, lane⟩ := setLane_others (u := u) (p := p) (ps := Part.ofRetirement)
        (settle_touches (by decide) <| lockLost_touches (p := p) (by decide) (by decide) (by decide) (by decide) (by decide)
          (by decide) (by decide) (by decide) (by decide) .rfl') (by decide)
      refine ⟨_, misses, ?_, rest, lane, left⟩
      exact settle_touches (by decide) <| lockLost_touches (by decide) (by decide) (by decide) (by decide) (by decide) (by decide)
        (by decide) (by decide) (by decide) <| setLane_touches (by decide) .rfl'
    · rw [LaneReceiver.miss_loses enough] at misses
      have lost := lockLost_shut (s := u.setLane p ⟨0, none⟩) (p := p) state
      rw [setLane_port, Port.setLink_change (by rw [up]; rfl)] at lost
      rw [State.actLane, lost] at misses
      exact setPort_setLane rfl misses
  · have seeks : exec (.laneLockLost dt ⟨p, heard⟩) s = .next (u.setLane p { u.lane p with run := 0 }).settle := by
      rw [laneLockLost_at h, hearSymbol_seek down]
      rfl
    obtain ⟨t, ran, touches, lane, rest⟩ := setLane_only seeks
    exact ⟨t, ran, touches, rest, lane⟩

end Sys2Proof.Machine

/-! ### REOPEN and CLOSE (04:R80, R81; 07:R136) -/
namespace Sys2Proof.Machine
open Sys2Proof

variable {s t u : State} {p q : PortIx} {l k : LeaseIx} {y : Lease} {dt : Nat} {x : Executing} {stage : Stage}

/-! #### Requests that name a port -/

theorem atRecord_port {k : Nat → State → State} (named : x.req.NamesIndex p.val) : s.atRecord x .port false k = k p.val s :=
  atRecord_pass (keyNamed_index named (by simp [tableKeys])) (by simp [State.recordAt, State.recordFields, toIx]) nofun

theorem actReopen_named (named : x.req.NamesIndex p.val) (known : requestKnown x.kind x.table x.req = true) :
    actReopen x s = if s.setupClosed then s.reopen x p else s.refuse x .setupClosed := by
  obtain ⟨-, -, count, -⟩ := id named
  unfold actReopen
  rw [checked_pass known count, atRecord_port named, atIx_fin]

theorem actClose_named (named : x.req.NamesIndex p.val) (known : requestKnown x.kind x.table x.req = true) :
    actClose x s = if s.setupClosed then s.closeAt x p else s.refuse x .setupClosed := by
  obtain ⟨-, -, count, -⟩ := id named
  unfold actClose
  rw [checked_pass known count, atRecord_port named, atIx_fin]

theorem setupClosed_iff : s.setupClosed = true ↔ s.mgmt.setup = .closed := decide_eq_true_iff

/-! #### Leases that return to MEASURING (07:R136) -/

/-- A SUSPENDED lease that returns to MEASURING. -/
def Lease.resumed (x : Lease) : Lease :=
  { x with state := .measuring, suspendCause := none, compensation := none, lastMeasured := none, rejected := 0 }

theorem resumeLease_slot_ne (apart : k ≠ l) : (s.resumeLease l).slot k = s.slot k := setLeaseSlot_slot_ne s apart.symm _

theorem resumeLease_slot (l : LeaseIx) :
    (s.resumeLease l).slot l = ⟨(s.slot l).rev + 1, (s.lease l).map Lease.resumed⟩ := setLeaseSlot_slot ..

/-- The turn of lease `l` in the return of port `p`'s leases. -/
def State.resumeTurn (p : PortIx) (l : LeaseIx) (s : State) : State := if s.leaseOn l p then s.resumeLease l else s

theorem resumeTurn_slot_ne (apart : k ≠ l) : (s.resumeTurn p l).slot k = s.slot k := by
  unfold State.resumeTurn
  split
  · exact resumeLease_slot_ne apart
  · rfl

theorem resumeTurn_port : (s.resumeTurn p l).port q = s.port q := by
  unfold State.resumeTurn
  split <;> rfl

/-- The leases of port `p` returned to MEASURING. -/
def State.resumeTurns (s : State) (p : PortIx) : State := forAll (fun l t => t.resumeTurn p l) s

theorem resumeTurns_port : (s.resumeTurns p).port q = s.port q :=
  forAll_keeps (f := fun l t => t.resumeTurn p l) (P := fun t => t.port q = s.port q) (fun _ _ h => resumeTurn_port.trans h) rfl

theorem resumeTurns_slot (s : State) (p : PortIx) (l : LeaseIx) : (s.resumeTurns p).slot l =
    if s.leaseOn l p then ⟨(s.slot l).rev + 1, (s.lease l).map Lease.resumed⟩ else s.slot l := by
  have on (t : State) : t.leaseOn l p = ((t.slot l).lease.any fun x => x.port = p) := by
    unfold State.leaseOn State.lease
    cases (t.slot l).lease <;> rfl
  refine forAll_at (get := fun t => t.slot l)
    (g := fun i => if i.lease.any (fun x => x.port = p) then ⟨i.rev + 1, i.lease.map Lease.resumed⟩ else i) l (fun t => ?_)
    (fun k t apart => resumeTurn_slot_ne apart.symm) s |>.trans (by rw [on]; rfl)
  show (t.resumeTurn p l).slot l = _
  unfold State.resumeTurn
  rw [on]
  split
  · exact resumeLease_slot l
  · rfl

theorem resumeTurns_touches {s₀ : State} {ps : List Part} (hleases : Part.leases ∈ ps) (hcore : Part.leaseCore ∈ ps)
    (hslots : Part.slots ∈ ps) (hrooms : Part.rooms ∈ ps) (h : s₀.OnlyTouches ps s) : s₀.OnlyTouches ps (s.resumeTurns p) := by
  refine .forAll (fun l t => ?_) h
  unfold State.resumeTurn
  split
  · exact resumeLease_touches hleases hslots hrooms hcore .rfl'
  · exact .rfl'

theorem reopenConflict_link (link : (s.port p).linkUp = true) : s.reopenConflict p =
    (((s.setPort p ((s.port p).moveTo .opened)).resumeTurns p).clearAlarm .portConflict p.val).choose p := if_pos link

theorem reopenConflict_down (link : (s.port p).linkUp = false) : s.reopenConflict p =
    (((s.setPort p ((s.port p).moveTo .down)).retirePort p).clearAlarm .portConflict p.val).raisePort p .portDown :=
  if_neg (by simp [link])

theorem closePort_open (opened : (s.port p).state = .opened) : s.closePort p =
    ((s.leaveOpen p ((s.port p).moveTo .closed)).clearAlarm .portDown p.val).clearAlarm .portConflict p.val := by
  unfold State.closePort
  dsimp only
  rw [if_pos opened]
  rfl

theorem closePort_shut (shut : (s.port p).state ≠ .opened) : s.closePort p =
    (((s.setPort p ((s.port p).moveTo .closed)).retirePort p).clearAlarm .portDown p.val).clearAlarm .portConflict p.val := by
  unfold State.closePort
  dsimp only
  rw [if_neg shut]
  rfl

/-- Port `p` takes record `r` and its leases are retired: its state, the other ports and the leases. -/
theorem retirePort_leaves {r : Port} {ps : List Part} (h : ((s.setPort p r).retirePort p).OnlyTouches ps t)
    (hports : Part.ports ∉ ps) (hleases : Part.leases ∉ ps) :
    (t.port p).state = r.state ∧ (∀ q, q ≠ p → (t.port q).standing = (s.port q).standing) ∧
      ∀ l, if s.leaseOn l p then s.LeaseRetired t l else s.LeaseKept t l := by
  refine ⟨?_, fun q apart => ?_, fun l => ?_⟩
  · rw [h.port hports, (retirePort_state _ _).1, setPort_port]
  · rw [h.port hports, retirePort_standing_ne apart, setPort_port_ne s apart.symm]
  · have retired := retirePort_lease (s.setPort p r) p l
    have on : (s.setPort p r).leaseOn l p = s.leaseOn l p := rfl
    rw [on] at retired
    split at retired
    next on => rw [if_pos on]; exact (State.LeaseHeld.of_slot rfl).retired (retired.held (h.held hleases l))
    next off => rw [if_neg off]; exact (retired.trans (h.held hleases l)).kept

/-! #### The two requests -/

variable {req : Request}

theorem reopen_acts {m : Mgmt} (named : req.NamesIndex p.val) (setup : m.setup = u.mgmt.setup) (closed : u.mgmt.setup = .closed) :
    actReopen ⟨0x10, 0x05, req⟩ (u.setMgmt m) = (u.setMgmt m).reopen ⟨0x10, 0x05, req⟩ p :=
  (actReopen_named named (requestKnown_index named rfl rfl)).trans <| if_pos (setupClosed_iff.mpr (setup.trans closed))

theorem close_acts {m : Mgmt} (named : req.NamesIndex p.val) (setup : m.setup = u.mgmt.setup) (closed : u.mgmt.setup = .closed) :
    actClose ⟨0x11, 0x05, req⟩ (u.setMgmt m) = (u.setMgmt m).closeAt ⟨0x11, 0x05, req⟩ p :=
  (actClose_named named (requestKnown_index named rfl rfl)).trans <| if_pos (setupClosed_iff.mpr (setup.trans closed))

theorem reopen_closed (closed : (s.port p).state = .closed) : s.reopen x p = ((s.openPort p).choose p).done x .port p.val := by
  unfold State.reopen
  rw [closed]

theorem reopen_conflict (conflict : (s.port p).state = .conflict) : s.reopen x p = (s.reopenConflict p).done x .port p.val := by
  unfold State.reopen
  rw [conflict]

theorem reopen_refused (state : (s.port p).state = .opened ∨ (s.port p).state = .down) :
    s.reopen x p = s.refuse x .wrongState := by
  unfold State.reopen
  rcases state with st | st <;> rw [st]

/-- Before CLOSE-SETUP both are refused. -/
theorem setupOpen_refused {m : Mgmt} (setup : m.setup = u.mgmt.setup) (opened : u.mgmt.setup = .opened) :
    ¬ (u.setMgmt m).setupClosed = true := by
  rw [setupClosed_iff]
  exact fun closed => absurd (opened.symm.trans (setup.symm.trans closed)) (by decide)

/-- Settles O32: the refusals, and what opening, return from CONFLICT and closing bring to the port and to its leases. -/
theorem reopenAndClose : Obligations.ReopenAndClose := by
  unfold Obligations.ReopenAndClose
  intro s u dt req stage p h named r
  refine ⟨fun acts => ⟨fun opened => ?_, fun closed state => ?_, fun closed state => ?_, fun closed state link => ?_,
    fun closed state link => ?_⟩, fun acts => ⟨fun opened => ?_, fun closed state => ?_, fun closed state => ?_⟩⟩
  · exact request_refused (act := actReopen) h acts fun m setup =>
      (actReopen_named named (requestKnown_index named rfl rfl)).trans <| if_neg (setupOpen_refused setup opened)
  · exact request_refused (act := actReopen) h acts fun m setup =>
      (reopen_acts named setup closed).trans (reopen_refused state)
  · obtain ⟨m, t, ran, frame, answered, left⟩ := request_done (act := actReopen)
      (work := fun v => (v.openPort p).choose p) (ps := [.mgmt, .ports, .portStates, .slots, .rooms, .pins]) h acts
      (tab := .port) (k := p.val) (by decide) (by simp) (by simp)
      (fun m setup => choose_touches (by simp) <| openPort_touches (by simp) (by simp) (by simp) (by simp) <|
        setMgmt_touches (by simp) setup .rfl')
      fun m setup => (reopen_acts named setup closed).trans (reopen_closed state)
    refine ⟨t, ran, frame, answered, fun q apart => ?_, ?_⟩
    · rw [left.port (by simp), choose_port_ne apart, openPort_port_ne apart]
      rfl
    · rw [left.port (by simp), choose_standing, openPort_standing]
      rfl
  · have opens (m : Mgmt) := reopenConflict_link (s := u.setMgmt m) link
    obtain ⟨m, t, ran, frame, answered, left⟩ := request_done (act := actReopen) (work := fun v => v.reopenConflict p)
      (ps := [.mgmt, .ports, .portStates, .leases, .leaseCore, .slots, .rooms, .pins]) h acts (tab := .port) (k := p.val)
      (by decide) (by simp) (by simp)
      (fun m setup => by
        rw [opens m]
        exact choose_touches (by simp) <| clearAlarm_touches (by simp) (by simp) <|
          resumeTurns_touches (by simp) (by simp) (by simp) (by simp) <| setPort_touches (by simp) rfl (.inl (by simp)) <|
          setMgmt_touches (by simp) setup .rfl')
      fun m setup => (reopen_acts named setup closed).trans (reopen_conflict state)
    rw [opens m] at left
    have slot (l : LeaseIx) : t.slot l =
        if u.leaseOn l p then ⟨(u.slot l).rev + 1, (u.lease l).map Lease.resumed⟩ else u.slot l := by
      have chosen {v : State} : v.OnlyTouches [.ports, .slots, .rooms] ((v.clearAlarm .portConflict p.val).choose p) :=
        choose_touches (by simp) <| clearAlarm_touches (by simp) (by simp) .rfl'
      rw [left.slot (by simp), chosen.slot (by simp)]
      exact resumeTurns_slot ((u.setMgmt m).setPort p (r.moveTo .opened)) p l
    refine ⟨t, ran, frame, answered, fun q apart => ?_, ?_, fun l off => ?_, fun l x live here => ?_⟩
    · rw [left.port (by simp), choose_port_ne apart, clearAlarm_port, resumeTurns_port, setPort_port_ne _ apart.symm]
      rfl
    · rw [left.port (by simp), choose_standing, clearAlarm_port, resumeTurns_port, setPort_port]
      exact congrArg (fun up => (PortState.opened, up, r.liveLeases, r.rev + 1)) link
    · rw [slot, off]
      exact if_neg nofun
    · have now := slot l
      rw [if_pos (leaseOn_iff.mpr ⟨x, live, here⟩), live] at now
      exact ⟨congrArg LeaseSlot.rev now, congrArg (fun i => (LeaseSlot.lease i).map Lease.core) now⟩
  · have opens (m : Mgmt) := reopenConflict_down (s := u.setMgmt m) link
    obtain ⟨m, t, ran, frame, answered, left⟩ := request_done (act := actReopen) (work := fun v => v.reopenConflict p)
      (ps := .mgmt :: Part.ofRetirement) h acts (tab := .port) (k := p.val) (by decide) (by decide) (by decide)
      (fun m setup => reopenConflict_touches (by decide) (by decide) (by decide) (by decide) (by decide) (by decide) (by decide)
        (by decide) (by decide) <| setMgmt_touches (by decide) setup .rfl')
      fun m setup => (reopen_acts named setup closed).trans (reopen_conflict state)
    rw [opens m] at left
    have raised : (((u.setMgmt m).setPort p (r.moveTo .down)).retirePort p).OnlyTouches [.mgmt, .pins, .slots, .rooms] t :=
      (raisePort_touches (by simp) (by simp) <| clearAlarm_touches (by simp) (by simp) .rfl').trans (left.mono (by simp))
    exact ⟨t, ran, frame, answered, retirePort_leaves raised (by simp) (by simp)⟩
  · exact request_refused (act := actClose) h acts fun m setup =>
      (actClose_named named (requestKnown_index named rfl rfl)).trans <| if_neg (setupOpen_refused setup opened)
  · obtain ⟨m, t, ran, frame, answered, -⟩ := request_done (act := actClose)
      (work := id) (ps := [.mgmt, .pins]) h acts
      (tab := .port) (k := p.val) (by decide) (by simp) (by simp)
      (fun m setup => setMgmt_touches (by simp) setup .rfl')
      fun m setup => (close_acts named setup closed).trans (if_pos state)
    exact ⟨t, ran, frame, answered⟩
  · obtain ⟨m, t, ran, frame, answered, left⟩ := request_done (act := actClose) (work := fun v => v.closePort p)
      (ps := .mgmt :: Part.ofRetirement) h acts (tab := .port) (k := p.val) (by decide) (by decide) (by decide)
      (fun m setup => closePort_touches (by decide) (by decide) (by decide) (by decide) (by decide) (by decide) (by decide)
        (by decide) (by decide) <| setMgmt_touches (by decide) setup .rfl')
      fun m setup => (close_acts named setup closed).trans (if_neg state)
    have clears {v : State} (closes : (u.setMgmt m).closePort p =
        (v.clearAlarm .portDown p.val).clearAlarm .portConflict p.val) : v.OnlyTouches [.mgmt, .pins, .slots, .rooms] t := by
      rw [closes] at left
      exact (clearAlarm_touches (by simp) (by simp) <| clearAlarm_touches (by simp) (by simp) .rfl').trans (left.mono (by simp))
    by_cases opened : r.state = .opened
    · obtain ⟨now, -, silent, rest⟩ := leaveOpen_leaves (clears (closePort_open (s := u.setMgmt m) opened)) (by simp) (by simp)
        (by simp [Port.moveTo]) rfl
      exact ⟨t, ran, frame, answered, now, fun _ => silent, rest⟩
    · obtain ⟨now, rest⟩ := retirePort_leaves (clears (closePort_shut (s := u.setMgmt m) opened)) (by simp) (by simp)
      exact ⟨t, ran, frame, answered, now, fun h => absurd h opened, rest⟩

end Sys2Proof.Machine

/-! ### Suspension of a lease (07:R128) -/
namespace Sys2Proof.Machine
open Sys2Proof

variable {s t u : State} {p q : PortIx} {l k : LeaseIx} {x y : Lease} {i : RefIx}

/-! #### One lease moves (07:R117) -/

/-- From `s` to `t` lease `l`, of port `p`, moved to `y`, a waiting notice apart; the other leases are what they were, a waiting notice
apart, and so are the other ports, the ports' standings, and `p` itself where it was silent. -/
structure State.MovesLease (l : LeaseIx) (p : PortIx) (y : Lease) (s t : State) : Prop where
  rev : (t.slot l).rev = (s.slot l).rev + 1
  now : (t.lease l).map Lease.unnoticed = some y.unnoticed
  others : ∀ k, k ≠ l → s.LeaseHeld t k
  apart : ∀ q, q ≠ p → t.port q = s.port q
  standing : (t.port p).standing = (s.port p).standing
  silent : (s.port p).Silent → t.port p = s.port p

namespace State.MovesLease

theorem moved (h : s.MovesLease l p y t) : s.LeaseMoved t l y := by
  have core (z : Option Lease) : z.map Lease.core = (z.map Lease.unnoticed).map Lease.core := by cases z <;> rfl
  refine ⟨h.rev, ?_⟩
  rw [core, h.now]
  rfl

theorem lease (h : s.MovesLease l p y t) : ∃ z, t.lease l = some z ∧ z.unnoticed = y.unnoticed :=
  Option.map_eq_some_iff.mp h.now

theorem home (h : s.MovesLease l p y t) (here : y.port = p) : t.Home l p := by
  intro z live
  have now := h.now
  rw [live] at now
  have ports : z.unnoticed.port = y.unnoticed.port := congrArg Lease.port (Option.some.inj now)
  exact ports.trans here

theorem onPort (h : s.MovesLease l p y t) (k : t.OnPort p u) : s.MovesLease l p y u where
  rev := (k.held l).1.trans h.rev
  now := (k.held l).2.trans h.now
  others j hj := (h.others j hj).trans (k.held j)
  apart q hq := (k.apart q hq).trans (h.apart q hq)
  standing := k.standing.trans h.standing
  silent hs := (k.silent (by rw [h.silent hs]; exact hs)).trans (h.silent hs)

/-- The move itself. -/
theorem moveLease {f : Lease → Lease} (live : s.lease l = some x) : s.MovesLease l p (f x) (s.moveLease l f) where
  rev := by rw [moveLease_slot, if_pos rfl]
  now := by rw [moveLease_lease, live]; rfl
  others k hk := .moveLease_ne hk.symm
  apart _ _ := rfl
  standing := rfl
  silent _ := rfl

/-- A change of the lease that comes with its move. -/
theorem updLease {f : Lease → Lease} (h : s.MovesLease l p y t) (hf : ∀ z, (f z).unnoticed = (f z.unnoticed).unnoticed) :
    s.MovesLease l p (f y) (t.updLease l f) where
  rev := by rw [updLease_slot, if_pos rfl]; exact h.rev
  now := by
    obtain ⟨z, live, same⟩ := h.lease
    rw [updLease_lease, live]
    exact congrArg some ((hf z).trans ((congrArg (fun w => (f w).unnoticed) same).trans (hf y).symm))
  others k hk := (h.others k hk).trans (.updLease_ne hk.symm)
  apart := h.apart
  standing := h.standing
  silent := h.silent

end State.MovesLease

/-! #### Departure from IN-SERVICE and abandonment (07:R120, 06:R114) -/

theorem stopMarks_live (live : s.lease l = some x) : s.stopMarks l =
    ((s.removeFrames x.port (Frame.marks l)).dropSchedule x.port l).updLease l fun y => { y with symbol := none } := by
  unfold State.stopMarks
  rw [live]

theorem State.MovesLease.stopMarks (h : s.MovesLease l p y t) (here : y.port = p) :
    s.MovesLease l p { y with symbol := none } (t.stopMarks l) := by
  obtain ⟨z, live, -⟩ := h.lease
  rw [stopMarks_live live, h.home here z live]
  exact (h.onPort ((State.OnPort.removeFrames _).trans .dropSchedule)).updLease (f := fun y => { y with symbol := none }) fun _ => rfl

/-- A queue with room has room still once frames are removed. -/
theorem removeFrames_queue (drop : Frame → Bool) (few : (s.port p).queue.length < 16) :
    ((s.removeFrames p drop).port p).queue.length < 16 := by
  unfold State.removeFrames Config.queueMax
  dsimp only
  rw [if_neg (by simp [Nat.ne_of_lt few]), setPort_port]
  exact Nat.lt_of_le_of_lt (List.length_filter_le _ _) few

theorem updScanner_queue (f : Scanner → Scanner) : ((s.updScanner p f).port q).queue = (s.port q).queue := by
  rw [updScanner_port]
  split
  next same => rw [same]
  next => rfl

theorem abandonBatch_queue : ((s.abandonBatch l).port q).queue = (s.port q).queue := by
  unfold State.abandonBatch
  repeat' split
  · rfl
  · exact updScanner_queue _
  · rfl

theorem dropInjection_queue : ((s.dropInjection l).port q).queue = (s.port q).queue := by
  unfold State.dropInjection
  split
  · rfl
  · exact updScanner_queue _

theorem stopMarks_queue (live : s.lease l = some x) (few : (s.port x.port).queue.length < 16) :
    ((s.stopMarks l).port x.port).queue.length < 16 := by
  rw [stopMarks_live live]
  have dropped {v : State} : ((v.dropSchedule x.port l).port x.port).queue = (v.port x.port).queue :=
    by rw [State.dropSchedule, updPort_port, if_pos rfl]
  exact (congrArg List.length dropped).trans_lt (removeFrames_queue _ few)

/-! #### Suspension without its fault (07:R128) -/

/-- A suspended lease: it keeps no symbol record if it was IN-SERVICE. -/
def Lease.suspended (x : Lease) (cause : SuspendCause) : Lease :=
  { x with state := .suspended, suspendCause := some cause, symbol := if x.state = .inService then none else x.symbol }

theorem inService_iff (live : s.lease l = some x) : s.inService l = true ↔ x.state = .inService := leaseIn_iff live

/-- A suspension up to its notice and its alarm. -/
theorem suspendCore_live (live : s.lease l = some x) (cause : SuspendCause) : ∃ v, s.MovesLease l x.port (x.suspended cause) v ∧
    ((s.port x.port).queue.length < 16 → (v.port x.port).queue.length < 16) ∧
    s.suspendCore l cause = (v.putNotice l .suspended cause.code).raiseLease l .leaseSuspended (some (.suspended cause)) := by
  have first : s.MovesLease l x.port { x with state := .suspended, suspendCause := some cause }
      (s.moveLease l fun x => { x with state := .suspended, suspendCause := some cause }) :=
    .moveLease (f := fun x => { x with state := .suspended, suspendCause := some cause }) live
  have ends {v : State} (h : s.MovesLease l x.port (x.suspended cause) v) :
      s.MovesLease l x.port (x.suspended cause) ((v.abandonBatch l).dropInjection l) := by
    have abandoned := h.onPort (State.OnPort.abandonBatch (h.home rfl))
    exact abandoned.onPort (State.OnPort.dropInjection (abandoned.home rfl))
  unfold State.suspendCore
  dsimp only
  by_cases serving : x.state = .inService
  · have now : x.suspended cause = { x with state := .suspended, suspendCause := some cause, symbol := none } := by
      simp [Lease.suspended, serving]
    rw [if_pos ((inService_iff live).mpr serving)]
    have cleared := first.onPort (State.OnPort.clearAlarm .leaseDegraded l.val)
    have left := cleared.stopMarks rfl
    refine ⟨_, ends (now ▸ left), fun few => ?_, rfl⟩
    obtain ⟨z, alive, -⟩ := cleared.lease
    have here := cleared.home rfl z alive
    rw [dropInjection_queue, abandonBatch_queue, ← here]
    exact stopMarks_queue alive (by rw [here]; exact few)
  · have now : x.suspended cause = { x with state := .suspended, suspendCause := some cause } := by
      simp [Lease.suspended, serving]
    rw [if_neg (mt (inService_iff live).mp serving)]
    exact ⟨_, ends (now ▸ first), fun few => by rw [dropInjection_queue, abandonBatch_queue]; exact few, rfl⟩

theorem suspendCore_moves (live : s.lease l = some x) (cause : SuspendCause) :
    s.MovesLease l x.port (x.suspended cause) (s.suspendCore l cause) := by
  obtain ⟨v, moves, -, core⟩ := suspendCore_live live cause
  rw [core]
  exact moves.onPort ((State.OnPort.putNotice (moves.home rfl) _ _).trans (.raiseLease _ _))

theorem putNotice_queued {kind : NoticeKind} {value : Int} (live : s.lease l = some x) (opened : (s.port x.port).state = .opened)
    (few : (s.port x.port).queue.length < 16) : s.putNotice l kind value = s.offer x.port (.notice l kind value) := by
  unfold State.putNotice
  rw [live]
  dsimp only
  rw [Port.offering_queued_iff.mpr ⟨opened, few⟩]

/-- With room in the queue of an OPEN port the SUSPENDED notice is queued. -/
theorem suspendCore_notice (live : s.lease l = some x) (cause : SuspendCause) (opened : (s.port x.port).state = .opened)
    (few : (s.port x.port).queue.length < 16) :
    Frame.notice l .suspended cause.code ∈ ((s.suspendCore l cause).port x.port).queue := by
  obtain ⟨v, moves, room, core⟩ := suspendCore_live live cause
  obtain ⟨z, alive, -⟩ := moves.lease
  have here := moves.home rfl z alive
  have opened' : (v.port z.port).state = .opened := by rw [here, (Port.standing_inj moves.standing).1, opened]
  have few' : (v.port z.port).queue.length < 16 := by rw [here]; exact room few
  rw [core]
  refine (State.Quiet.raiseLease _ _ _).sent _ _ ?_
  rw [putNotice_queued alive opened' few', here]
  rw [here] at opened' few'
  have sent : (v.offer x.port (.notice l .suspended cause.code)).port x.port = (v.port x.port).offer _ := setPort_port ..
  rw [sent, Port.offer_append, if_pos ⟨opened', few'⟩]
  exact List.mem_append_right _ (List.mem_singleton_self _)

/-! #### The fault of a bound entry (02:R47) -/

/-- A fault of an entry whose bound lease, if any, is neither MEASURING nor IN-SERVICE moves no lease. -/
theorem faultRef_quiet {cause : FaultCause} (free : ∀ l, (s.ref i).boundLease = some l → s.suspendable l = false) :
    s.Quiet (s.faultRef i cause) := by
  have noLease : (s.updRef i fun e => e.faulted cause).lockoutLease i = none := by
    unfold State.lockoutLease
    rw [updRef_ref, if_pos rfl]
    split
    next => rfl
    next l bound => 
      have idle : (s.updRef i fun e => e.faulted cause).suspendable l = false := free l bound
      exact if_neg (by simp [idle])
  unfold State.faultRef State.lockoutReport State.lockoutChoice
  dsimp only
  rw [noLease]
  dsimp only
  have faulted : s.Quiet ((s.updRef i fun e => e.faulted cause).raiseFault i) :=
    .of_touches (ps := [.refs, .slots, .rooms])
      (raiseFault_touches (by simp) (by simp) <| updRef_touches (by simp) (fun _ => rfl) .rfl') (by simp) (by simp)
  split
  · split
    · exact faulted.trans (.announceLeft i)
    · exact faulted
  · exact .refl s

theorem faultRef_boundLease {cause : FaultCause} (j : RefIx) : ((s.faultRef i cause).ref j).boundLease = (s.ref j).boundLease := by
  by_cases live : (s.ref i).live = true
  · rw [faultRef_ref live]
    split
    next same => rw [← same]; rfl
    next => rfl
  · unfold State.faultRef
    rw [if_neg live]

/-- The entries that BOUND offers name are bound to their leases (05:R95, 02:R45). -/
def State.OffersBound (s : State) : Prop :=
  ∀ l x p, s.lease l = some x → x.offer = .bound p → (s.ref p.entry).boundLease = some l

theorem sourceLost_quiet {f : Offer} (bound : ∀ p, f = .bound p → (s.ref p.entry).boundLease = some l)
    (idle : s.suspendable l = false) : s.Quiet (s.sourceLost f) := by
  unfold State.sourceLost
  cases f with
  | none => exact .refl s
  | refused => exact .refl s
  | bound p => exact faultRef_quiet fun k hk => by rw [← Option.some.inj ((bound p rfl).symm.trans hk)]; exact idle

theorem sourceLost_boundLease {f : Offer} (j : RefIx) : ((s.sourceLost f).ref j).boundLease = (s.ref j).boundLease := by
  unfold State.sourceLost
  split
  · rfl
  · exact faultRef_boundLease j

end Sys2Proof.Machine

/-! ### Suspension with its fault, retirement with its loss (07:R128, R133) -/
namespace Sys2Proof.Machine
open Sys2Proof

variable {s t u : State} {p q : PortIx} {l k : LeaseIx} {x y : Lease} {cause : SuspendCause}

/-! #### Suspension (07:R128) -/

theorem suspendCore_ref (j : RefIx) : (s.suspendCore l cause).ref j = s.ref j :=
  (suspendCore_touches (ps := [.ports, .leases, .slots, .rooms, .leaseCore]) (by simp) (by simp) (by simp) (by simp) (by simp)
    .rfl').ref (by simp) j

theorem suspendFully_live (live : s.lease l = some x) : s.suspendFully l cause =
    if x.state = .inService then (s.suspendCore l cause).sourceLost x.offer else s.suspendCore l cause := by
  unfold State.suspendFully
  rw [live]

/-- What a suspension adds to its own part moves no lease. -/
theorem suspendFully_quiet (live : s.lease l = some x) (bound : ∀ p, x.offer = .bound p → (s.ref p.entry).boundLease = some l) :
    (s.suspendCore l cause).Quiet (s.suspendFully l cause) := by
  obtain ⟨z, alive, same⟩ := (suspendCore_moves live cause).lease
  have halted : z.unnoticed.state = .suspended := congrArg Lease.state same
  have idle : (s.suspendCore l cause).suspendable l = false := by
    rw [Bool.eq_false_iff, Ne, suspendable_iff alive]
    rintro (st | st) <;> exact absurd (st.symm.trans halted) (by decide)
  rw [suspendFully_live live]
  split
  · exact sourceLost_quiet (fun p hp => (congrArg RefEntry.boundLease (suspendCore_ref _)).trans (bound p hp)) idle
  · exact .refl _

theorem suspendFully_boundLease (j : RefIx) : ((s.suspendFully l cause).ref j).boundLease = (s.ref j).boundLease := by
  unfold State.suspendFully
  split
  · rfl
  · dsimp only
    split
    · rw [sourceLost_boundLease, suspendCore_ref]
    · rw [suspendCore_ref]

theorem suspendFully_frame : s.OnlyTouches [.tb, .ports, .leases, .outs, .slots, .rooms, .refs, .leaseCore] (s.suspendFully l cause) :=
  suspendFully_touches (by simp) (by simp) (by simp) (by simp) (by simp) (by simp) (by simp) (by simp) .rfl'

/-- A suspension marked with the slot's revision before it: the slot, and its mark. -/
theorem suspendMarked_moves (live : s.lease l = some x) (bound : ∀ p, x.offer = .bound p → (s.ref p.entry).boundLease = some l) :
    s.LeaseMoved (s.suspendMarked l cause (s.slot l).rev) l (x.suspended cause) ∧
      s.LeaseMarked (s.suspendMarked l cause (s.slot l).rev) l := by
  have moved : s.LeaseMoved (s.suspendFully l cause) l (x.suspended cause) :=
    (suspendCore_moves live cause).moved.held ((suspendFully_quiet live bound).held l)
  obtain ⟨rev, core⟩ := moved
  obtain ⟨z, alive, -⟩ := Option.map_eq_some_iff.mp core
  have clock : (s.suspendFully l cause).clock = s.clock := suspendFully_frame.clock (by simp)
  unfold State.suspendMarked State.LeaseMoved State.LeaseMarked
  dsimp only
  rw [updLease_slot, if_pos rfl, updLease_lease, rev, clock]
  refine ⟨⟨rfl, ?_⟩, ?_⟩
  · rw [← core, Option.map_map]
    rfl
  · rw [alive]
    rfl

theorem suspendMarked_others (live : s.lease l = some x) (bound : ∀ p, x.offer = .bound p → (s.ref p.entry).boundLease = some l)
    (apart : k ≠ l) (v : Rev) : s.LeaseHeld (s.suspendMarked l cause v) k :=
  (((suspendCore_moves live cause).others k apart).trans ((suspendFully_quiet live bound).held k)).trans (.updLease_ne apart.symm)

theorem suspendMarked_silent (live : s.lease l = some x) (bound : ∀ p, x.offer = .bound p → (s.ref p.entry).boundLease = some l)
    (silent : (s.port x.port).Silent) (v : Rev) : (s.suspendMarked l cause v).port x.port = s.port x.port := by
  have core := (suspendCore_moves live cause).silent silent
  exact ((suspendFully_quiet live bound).shut x.port (by rw [core]; exact silent.1)).trans core

/-! #### Retirement (07:R133) -/

theorem retireQuiet_ref (live : s.lease l = some x) (f : Option Frame) {j : RefIx}
    (apart : ∀ p, x.offer = .bound p → j ≠ p.entry) : (s.retireQuiet l f).ref j = s.ref j := by
  have stops {v : State} : (((v.stopAllFrames l).abandonBatch l).dropInjection l).ref j = v.ref j :=
    (dropInjection_touches (ps := [.ports, .leases, .leaseCore]) (by simp) <| abandonBatch_touches (by simp) <|
      stopAllFrames_touches (by simp) (by simp) (by simp) .rfl').ref (by simp) j
  have frees {v : State} {r : Option Frame} : (((v.clearLeaseAlarms l).offerSome x.port r).freeLease l x.port).ref j = v.ref j :=
    (freeLease_touches (ps := [.ports, .leases, .slots, .rooms, .leaseCore, .portStates]) (by simp) (by simp) (by simp) (by simp)
      (by simp) (by simp) <| offerSome_touches (by simp) <| clearLeaseAlarms_touches (by simp) (by simp) .rfl').ref (by simp) j
  have unbinds {v : State} : (v.unbindOffer x.offer).ref j = v.ref j := by
    unfold State.unbindOffer
    split
    next p bound =>
      unfold State.unbindPeer State.disableRef
      have cleared {w : State} : ((w.clearAlarm .refFaulted p.entry.val).clearAlarm .refLockedOut p.entry.val).ref j = w.ref j :=
        (clearAlarm_touches (ps := [.slots, .rooms]) (by simp) (by simp) <| clearAlarm_touches (by simp) (by simp) .rfl').ref (by simp) j
      rw [cleared, updRef_ref, if_neg (apart p bound).symm, updRef_ref, if_neg (apart p bound).symm]
    all_goals rfl
  unfold State.retireQuiet
  rw [live]
  exact frees.trans (unbinds.trans stops)

/-- What a retirement adds to its quiet part: no lease moves. -/
theorem retire_quiet (live : s.lease l = some x) (f : Option Frame) (m : Option Raise) :
    (s.retireQuiet l f).Quiet (s.retire l f m) := by
  unfold State.retire
  rw [live]
  dsimp only
  have told : (s.retireQuiet l f).Quiet (((s.retireQuiet l f).retireLoss s l).raiseSome m) :=
    (State.Quiet.retireLoss s l).trans <|
      .of_touches (ps := [.slots, .rooms]) (raiseSome_touches (by simp) (by simp) .rfl') (by simp) (by simp)
  split
  · exact told.trans (.choose _)
  · exact told

theorem retire_after (live : s.lease l = some x) (f : Option Frame) (m : Option Raise) :
    (s.retireQuiet l f).OnlyTouches [.tb, .ports, .leases, .outs, .slots, .rooms] (s.retire l f m) := by
  unfold State.retire
  rw [live]
  dsimp only
  have told : (s.retireQuiet l f).OnlyTouches [.tb, .ports, .leases, .outs, .slots, .rooms]
      (((s.retireQuiet l f).retireLoss s l).raiseSome m) :=
    raiseSome_touches (by simp) (by simp) <|
      retireLoss_touches (by simp) (by simp) (by simp) (by simp) (by simp) (by simp) .rfl'
  split
  · exact choose_touches (by simp) told
  · exact told

theorem retire_retired (live : s.lease l = some x) (f : Option Frame) (m : Option Raise) : s.LeaseRetired (s.retire l f m) l :=
  (retireQuiet_retired live f).held ((retire_quiet live f m).held l)

theorem retire_others (live : s.lease l = some x) (f : Option Frame) (m : Option Raise) (apart : k ≠ l) :
    s.LeaseHeld (s.retire l f m) k :=
  (retireQuiet_others apart f).trans ((retire_quiet live f m).held k)

theorem retire_standing_ne (live : s.lease l = some x) (f : Option Frame) (m : Option Raise) (apart : q ≠ x.port) :
    ((s.retire l f m).port q).standing = (s.port q).standing := by
  rw [(retire_after live f m).standing (by simp), retireQuiet_port_ne live apart]

theorem retire_silent (live : s.lease l = some x) (f : Option Frame) (m : Option Raise) (silent : (s.port x.port).Silent) :
    (s.retire l f m).port x.port = (s.port x.port).oneLess := by
  have freed := retireQuiet_silent live f silent
  rw [(retire_quiet live f m).shut x.port (by rw [freed]; exact silent.1), freed]

/-! #### Offers and the entries bound to them (05:R95, 02:R45) -/

theorem State.LeaseHeld.offer (h : s.LeaseHeld t l) (live : t.lease l = some y) : ∃ x, s.lease l = some x ∧ x.offer = y.offer := by
  obtain ⟨-, same⟩ := h
  rw [live] at same
  obtain ⟨x, was, same⟩ := Option.map_eq_some_iff.mp same.symm
  have offers : x.unnoticed.offer = y.unnoticed.offer := congrArg Lease.offer same
  exact ⟨x, was, offers⟩

namespace State.OffersBound

/-- Leases that keep their offers stay bound while no entry's bound lease changes. -/
theorem of_offers (h : s.OffersBound) (refs : ∀ j, (t.ref j).boundLease = (s.ref j).boundLease)
    (offers : ∀ l y, t.lease l = some y → ∃ x, s.lease l = some x ∧ x.offer = y.offer) : t.OffersBound := by
  intro l y p live bound
  obtain ⟨x, was, same⟩ := offers l y live
  rw [refs]
  exact h l x p was (same.trans bound)

theorem retire (h : s.OffersBound) (live : s.lease l = some x) (f : Option Frame) (m : Option Raise) : (s.retire l f m).OffersBound := by
  intro k y p alive bound
  have apart : k ≠ l := by
    rintro rfl
    have gone : (s.retire k f m).lease k = none := congrArg LeaseSlot.lease (retire_retired live f m)
    exact absurd (gone.symm.trans alive) nofun
  obtain ⟨z, was, same⟩ := (retire_others live f m apart).offer alive
  have named := h k z p was (same.trans bound)
  rw [(retire_after live f m).ref (by simp), retireQuiet_ref live f fun p' own entry => ?_]
  · exact named
  · have other := h l x p' live own
    rw [← entry, named] at other
    exact apart (Option.some.inj other)

end State.OffersBound

end Sys2Proof.Machine

/-! ### A hub's frame (04:R79) -/
namespace Sys2Proof.Machine
open Sys2Proof

variable {s t u : State} {p q : PortIx} {l k : LeaseIx} {x y : Lease}

/-- The turn of lease `l` as port `p` enters CONFLICT. -/
def State.conflictTurn (p : PortIx) (l : LeaseIx) (s : State) : State :=
  match s.lease l with
  | none => s
  | some x => if x.port = p then s.conflictLease l x else s

theorem conflictTurn_on (live : s.lease l = some x) (here : x.port = p) : s.conflictTurn p l = s.conflictLease l x := by
  unfold State.conflictTurn
  rw [live]
  exact if_pos here

theorem conflictTurn_off (off : s.leaseOn l p = false) : s.conflictTurn p l = s := by
  unfold State.conflictTurn
  split
  next => rfl
  next x live => exact if_neg fun here => by rw [leaseOn_iff.mpr ⟨x, live, here⟩] at off; cases off

/-- What lease `l` becomes as its port enters CONFLICT. -/
def State.Conflicted (s t : State) (l : LeaseIx) (x : Lease) : Prop :=
  if x.state = .pending then s.LeaseRetired t l
  else s.LeaseMoved t l (x.suspended .conflict) ∧ (x.state ≠ .suspended → s.LeaseMarked t l)

/-- What the turn of lease `l` leaves: the other leases, the other ports' standings, the silent port but for its count and revision, and
the bindings. -/
structure State.ConflictLeaves (p : PortIx) (l : LeaseIx) (s t : State) : Prop where
  others : ∀ k, k ≠ l → s.LeaseHeld t k
  standing : ∀ q, q ≠ p → (t.port q).standing = (s.port q).standing
  silent : (t.port p).uncounted = (s.port p).uncounted
  clock : t.clock = s.clock
  bound : t.OffersBound

theorem retireRefuse_live (live : s.lease l = some x) (reason : RefuseReason) (m : Option Raise) :
    s.retireRefuse l reason m = s.retire l (some (.refuse x.tag reason)) m := by
  unfold State.retireRefuse
  rw [live]

/-- A SUSPENDED lease on a port that enters CONFLICT. -/
theorem conflictLease_suspended (state : x.state = .suspended) : s.conflictLease l x =
    (s.moveLease l fun y => { y with suspendCause := some .conflict }).raiseLease l .leaseSuspended (some (.suspended .conflict)) := by
  unfold State.conflictLease
  rw [state]

theorem conflictLease_active (state : x.state = .measuring ∨ x.state = .inService) :
    s.conflictLease l x = s.suspendMarked l .conflict (s.slot l).rev := by
  unfold State.conflictLease
  rcases state with st | st <;> rw [st]

theorem conflictLease_pending (state : x.state = .pending) (live : s.lease l = some x) :
    s.conflictLease l x = s.retire l (some (.refuse x.tag .notServing)) none := by
  unfold State.conflictLease
  rw [state]
  exact retireRefuse_live live _ _

/-- A lease that was SUSPENDED takes the cause. -/
theorem conflictSuspended_moves (live : s.lease l = some x) (state : x.state = .suspended) :
    s.MovesLease l x.port (x.suspended .conflict)
      ((s.moveLease l fun y => { y with suspendCause := some .conflict }).raiseLease l .leaseSuspended
        (some (.suspended .conflict))) := by
  have same : x.suspended .conflict = { x with suspendCause := some .conflict } := by simp [Lease.suspended, state]
  rw [same]
  exact (State.MovesLease.moveLease (f := fun y => { y with suspendCause := some .conflict }) live).onPort (.raiseLease _ _)

theorem conflictLease_conflicted (live : s.lease l = some x) (bound : s.OffersBound) :
    s.Conflicted (s.conflictLease l x) l x := by
  unfold State.Conflicted
  cases state : x.state with
  | pending =>
    rw [conflictLease_pending state live]
    exact retire_retired live _ _
  | suspended =>
    rw [conflictLease_suspended state]
    exact ⟨(conflictSuspended_moves live state).moved, fun h => absurd rfl h⟩
  | measuring =>
    rw [conflictLease_active (.inl state)]
    obtain ⟨moved, marked⟩ := suspendMarked_moves (cause := .conflict) live fun p => bound l x p live
    exact ⟨moved, fun _ => marked⟩
  | inService =>
    rw [conflictLease_active (.inr state)]
    obtain ⟨moved, marked⟩ := suspendMarked_moves (cause := .conflict) live fun p => bound l x p live
    exact ⟨moved, fun _ => marked⟩

theorem State.LeaseMoved.offer (h : s.LeaseMoved t l x) (live : t.lease l = some y) : y.offer = x.offer := by
  obtain ⟨-, core⟩ := h
  rw [live] at core
  have offers : y.core.offer = x.core.offer := congrArg Lease.offer (Option.some.inj core)
  exact offers

/-- Leases that keep their offers, one of them through a move, stay bound while no entry's bound lease changes. -/
theorem State.OffersBound.of_moved (h : s.OffersBound) (live : s.lease l = some x)
    (refs : ∀ j, (t.ref j).boundLease = (s.ref j).boundLease) (moved : s.LeaseMoved t l y) (same : y.offer = x.offer) (others : ∀ k, k ≠ l → s.LeaseHeld t k) : t.OffersBound := by
  refine h.of_offers refs fun k z alive => ?_
  by_cases here : k = l
  · subst here
    exact ⟨x, live, same.symm.trans (moved.offer alive).symm⟩
  · exact (others k here).offer alive

theorem suspendMarked_leaves (live : s.lease l = some x) (bound : s.OffersBound) (silent : (s.port x.port).Silent) :
    s.ConflictLeaves x.port l (s.suspendMarked l .conflict (s.slot l).rev) := by
  have named := fun p => bound l x p live
  have frame : s.OnlyTouches [.tb, .ports, .leases, .outs, .slots, .rooms, .refs, .leaseCore]
      (s.suspendMarked l .conflict (s.slot l).rev) :=
    suspendMarked_touches (by simp) (by simp) (by simp) (by simp) (by simp) (by simp) (by simp) (by simp) .rfl'
  have others (k : LeaseIx) (apart : k ≠ l) := suspendMarked_others (cause := .conflict) live named apart (s.slot l).rev
  exact {
    others
    standing := fun q _ => frame.standing (by simp) q
    silent := congrArg Port.uncounted (suspendMarked_silent live named silent _)
    clock := frame.clock (by simp)
    bound := bound.of_moved live suspendFully_boundLease (suspendMarked_moves live named).1 rfl others }

theorem conflictLease_leaves (live : s.lease l = some x) (bound : s.OffersBound) (silent : (s.port x.port).Silent) :
    s.ConflictLeaves x.port l (s.conflictLease l x) := by
  cases state : x.state with
  | pending =>
    rw [conflictLease_pending state live]
    have frame : s.OnlyTouches Part.ofRetirement (s.retire l (some (.refuse x.tag .notServing)) none) :=
      retire_touches (by decide) (by decide) (by decide) (by decide) (by decide) (by decide) (by decide) (by decide) (by decide) .rfl'
    exact {
      others := fun k apart => retire_others live _ _ apart
      standing := fun q apart => retire_standing_ne live _ _ apart
      silent := by rw [retire_silent live _ _ silent]; rfl
      clock := frame.clock (by decide)
      bound := bound.retire live _ _ }
  | suspended =>
    rw [conflictLease_suspended state]
    have moves := conflictSuspended_moves live state
    have frame : s.OnlyTouches [.leases, .leaseCore, .slots, .rooms] ((s.moveLease l fun y =>
        { y with suspendCause := some .conflict }).raiseLease l .leaseSuspended (some (.suspended .conflict))) :=
      raiseLease_touches (by simp) (by simp) <| moveLease_touches (by simp) (by simp) .rfl'
    exact {
      others := moves.others
      standing := fun q apart => congrArg Port.standing (moves.apart q apart)
      silent := congrArg Port.uncounted (moves.silent silent)
      clock := frame.clock (by simp)
      bound := bound.of_moved live (fun j => congrArg RefEntry.boundLease (frame.ref (by simp) j)) moves.moved rfl moves.others }
  | measuring =>
    rw [conflictLease_active (.inl state)]
    exact suspendMarked_leaves live bound silent
  | inService =>
    rw [conflictLease_active (.inr state)]
    exact suspendMarked_leaves live bound silent

/-! #### Every lease of the port -/

/-- From `s` on port `p` has stayed silent, the other ports' standings and the clock are what they were, and the bindings hold. -/
structure State.Hushed (p : PortIx) (s t : State) : Prop where
  silent : (t.port p).uncounted = (s.port p).uncounted
  standing : ∀ q, q ≠ p → (t.port q).standing = (s.port q).standing
  clock : t.clock = s.clock
  bound : t.OffersBound

theorem State.Hushed.turn (h : s.Hushed p t) (silent : (s.port p).Silent) (l : LeaseIx) : s.Hushed p (t.conflictTurn p l) := by
  cases on : t.leaseOn l p with
  | false =>
    rw [conflictTurn_off on]
    exact h
  | true =>
    obtain ⟨x, live, rfl⟩ := leaseOn_iff.mp on
    rw [conflictTurn_on live rfl]
    have leaves := conflictLease_leaves live h.bound (silent.of_uncounted h.silent)
    exact {
      silent := leaves.silent.trans h.silent
      standing := fun q apart => (leaves.standing q apart).trans (h.standing q apart)
      clock := leaves.clock.trans h.clock
      bound := leaves.bound }

theorem conflictTurn_others (bound : s.OffersBound) (silent : (s.port p).Silent) (apart : k ≠ l) :
    s.LeaseHeld (s.conflictTurn p l) k := by
  cases on : s.leaseOn l p with
  | false =>
    rw [conflictTurn_off on]
    exact .refl s k
  | true =>
    obtain ⟨x, live, rfl⟩ := leaseOn_iff.mp on
    rw [conflictTurn_on live rfl]
    exact (conflictLease_leaves live bound silent).others k apart

/-- The turns of every lease. -/
def State.conflictTurns (s : State) (p : PortIx) : State := forAll (fun l t => t.conflictTurn p l) s

theorem conflictTurns_hushed (bound : s.OffersBound) (silent : (s.port p).Silent) : s.Hushed p (s.conflictTurns p) :=
  forAll_keeps (f := fun l t => t.conflictTurn p l) (P := fun t => s.Hushed p t) (fun l _ h => h.turn silent l)
    ⟨rfl, fun _ _ => rfl, rfl, bound⟩

/-- The slot of lease `l` around its own turn. -/
theorem conflictTurns_around (bound : s.OffersBound) (silent : (s.port p).Silent) (l : LeaseIx) :
    ∃ t, s.Hushed p t ∧ s.LeaseHeld t l ∧ (t.conflictTurn p l).LeaseHeld (s.conflictTurns p) l :=
  forAll_turn (f := fun l t => t.conflictTurn p l) l (R := fun a b => a.LeaseHeld b l) (I := fun t => s.Hushed p t)
    (fun _ => .refl _ l) .trans (fun k _ h => h.turn silent k)
    (fun _ _ apart h => conflictTurn_others h.bound (silent.of_uncounted h.silent) apart.symm) ⟨rfl, fun _ _ => rfl, rfl, bound⟩

theorem conflictTurns_off (bound : s.OffersBound) (silent : (s.port p).Silent) (off : s.leaseOn l p = false) :
    s.LeaseHeld (s.conflictTurns p) l := by
  obtain ⟨t, -, before, after⟩ := conflictTurns_around bound silent l
  rw [conflictTurn_off ((before.leaseOn p).trans off)] at after
  exact before.trans after

theorem State.Conflicted.held {n : Option Notice} (before : s.LeaseHeld t l) (clock : t.clock = s.clock)
    (turn : t.Conflicted u l { x with notice := n }) {v : State} (after : u.LeaseHeld v l) : s.Conflicted v l x := by
  unfold State.Conflicted at turn ⊢
  dsimp only at turn
  split
  next pending =>
    rw [if_pos pending] at turn
    exact before.retired (turn.held after)
  next other =>
    rw [if_neg other] at turn
    obtain ⟨moved, marked⟩ := turn
    refine ⟨before.moved (moved.held after), fun st => ?_⟩
    have mark := marked st
    unfold State.LeaseMarked at mark ⊢
    rw [after.marks, mark, before.1, clock]

theorem conflictTurns_on (bound : s.OffersBound) (silent : (s.port p).Silent) (live : s.lease l = some x) (here : x.port = p) :
    s.Conflicted (s.conflictTurns p) l x := by
  obtain ⟨t, hushed, before, after⟩ := conflictTurns_around bound silent l
  obtain ⟨n, alive⟩ := before.lease live
  rw [conflictTurn_on alive here] at after
  exact .held before hushed.clock (conflictLease_conflicted alive hushed.bound) after

/-- The port as it has gone silent, before its leases have their turns. -/
def State.conflictStart (s : State) (p : PortIx) : State :=
  ((s.setPort p ((s.port p).moveTo .conflict)).silencePort p).clearPending p

theorem hubFrame_open (opened : (s.port p).state = .opened) :
    s.hubFrame p = ((s.conflictStart p).conflictTurns p).raisePort p .portConflict := if_pos opened

theorem conflictStart_after (s : State) (p : PortIx) :
    ((s.setPort p ((s.port p).moveTo .conflict)).silencePort p).OnlyTouches [.slots, .rooms] (s.conflictStart p) :=
  clearPending_touches (by simp) (by simp) .rfl'

theorem conflictStart_port (s : State) (p : PortIx) : (s.conflictStart p).port p =
    { ((s.port p).moveTo .conflict).silence s.clock.osc with scanner := Scanner.reset } := by
  rw [(conflictStart_after s p).port (by simp), silencePort_port, setPort_port]
  rfl

theorem conflictStart_port_ne (apart : q ≠ p) : (s.conflictStart p).port q = s.port q := by
  rw [(conflictStart_after s p).port (by simp), silencePort_port_ne apart, setPort_port_ne s apart.symm]

theorem conflictStart_slot (l : LeaseIx) : (s.conflictStart p).slot l = s.slot l := (conflictStart_after s p).slot (by simp) l

theorem conflictStart_silent : ((s.conflictStart p).port p).Silent := by
  rw [conflictStart_port]
  exact ⟨nofun, rfl, rfl, rfl⟩

theorem conflictStart_bound (bound : s.OffersBound) : (s.conflictStart p).OffersBound :=
  bound.of_offers (fun j => congrArg RefEntry.boundLease ((conflictStart_after s p).ref (by simp) j)) fun l y live =>
    ⟨y, by rw [State.lease, conflictStart_slot] at live; exact live, rfl⟩

/-- Settles O29: the port goes silent, then each of its leases has its turn. -/
theorem hubFrameBringsConflict : Obligations.HubFrameBringsConflict := by
  unfold Obligations.HubFrameBringsConflict
  intro s u dt p heard kind body h fits
  have ran : exec (.hubFrameReceived dt ⟨p, heard⟩ ⟨kind, body⟩) s = .next (u.hubFrame p).settle := by
    rw [exec_hubFrameReceived, frameEvent_at h fits]
    rfl
  refine ⟨fun opened agree => ⟨_, ran, ?_⟩, fun shut => ⟨_, ran, ?_⟩⟩
  · have frame : u.OnlyTouches Part.ofRetirement (u.hubFrame p).settle :=
      settle_touches (by decide) <| hubFrame_touches (by decide) (by decide) (by decide) (by decide) (by decide) (by decide)
        (by decide) (by decide) (by decide) .rfl'
    have last : ((u.conflictStart p).conflictTurns p).OnlyTouches [.slots, .rooms, .pins] (u.hubFrame p).settle := by
      rw [hubFrame_open opened]
      exact settle_touches (by simp) <| raisePort_touches (by simp) (by simp) .rfl'
    generalize (u.hubFrame p).settle = t at frame last
    have bound : (u.conflictStart p).OffersBound := conflictStart_bound agree.2.2
    have silent := conflictStart_silent (s := u) (p := p)
    have hushed := conflictTurns_hushed bound silent
    have clock : (u.conflictStart p).clock = u.clock := (conflictStart_after u p).clock (by simp)
    have port := hushed.silent
    rw [← last.port (by simp), conflictStart_port] at port
    obtain ⟨state, link, -⟩ := Port.uncounted_inj port
    have start (l : LeaseIx) : u.LeaseHeld (u.conflictStart p) l := .of_slot (conflictStart_slot l)
    refine ⟨frame, state, link, portSilent_intro (r := (u.port p).moveTo .conflict) rfl port, fun q apart => ?_,
      fun l off => ?_, fun l x live here => ?_⟩
    · rw [last.standing (by simp), hushed.standing q apart, conflictStart_port_ne apart]
    · have turns := conflictTurns_off bound silent ((start l).leaseOn p |>.trans off)
      exact (((start l).trans turns).trans (last.held (by simp) l)).kept
    · have alive : (u.conflictStart p).lease l = some x := by rw [State.lease, conflictStart_slot]; exact live
      exact State.Conflicted.held (n := x.notice) (start l) clock (conflictTurns_on bound silent alive here) (last.held (by simp) l)
  · have same : u.hubFrame p = u := if_neg shut
    rw [same]
    exact settle_frame u

end Sys2Proof.Machine

/-! ### APPROVE, SUSPEND, RESUME (05:R97; 07:R135, R136) -/
namespace Sys2Proof.Machine
open Sys2Proof

variable {s t u : State} {p q : PortIx} {l k : LeaseIx} {y : Lease} {dt : Nat} {x : Executing} {stage : Stage} {req : Request}

/-! #### APPROVE -/

theorem actApprove_named (named : x.req.NamesIndex l.val) (known : requestKnown x.kind x.table x.req = true)
    (live : s.lease l = some y) (fenced : x.req.revision = (s.slot l).rev) : actApprove x s =
      if y.state = .pending then (s.approve l y).done x .lease l.val else s.refuse x .wrongState := by
  unfold actApprove
  rw [checked_pass known named.2.2.1, atRecord_lease named live fun _ => fenced, atLease_live live]

/-- What an offer of a frame, and then a choice, leave of the leases and the other ports. -/
theorem offer_choose_touches {s₀ : State} {ps : List Part} {f : Frame} (hports : Part.ports ∈ ps) (h : s₀.OnlyTouches ps s) :
    s₀.OnlyTouches ps ((s.offer p f).choose p) := choose_touches hports <| offer_touches hports h

theorem approve_touches {s₀ : State} {ps : List Part} (hports : Part.ports ∈ ps) (hleases : Part.leases ∈ ps)
    (hcore : Part.leaseCore ∈ ps) (hslots : Part.slots ∈ ps) (hrooms : Part.rooms ∈ ps) (h : s₀.OnlyTouches ps s) :
    s₀.OnlyTouches ps (s.approve l y) :=
  offer_choose_touches hports <| clearAlarm_touches hslots hrooms <| moveLease_touches hleases hcore h

theorem approve_slot (l k : LeaseIx) (y : Lease) : (s.approve l y).slot k =
    if l = k then ⟨(s.slot l).rev + 1, (s.lease l).map fun z => { z with state := .measuring, deadline := none }⟩ else s.slot k := by
  have after {v : State} : v.OnlyTouches [.ports, .slots, .rooms]
      (((v.clearAlarm .leasePending l.val).offer y.port (y.acceptFrame l)).choose y.port) :=
    offer_choose_touches (by simp) <| clearAlarm_touches (by simp) (by simp) .rfl'
  exact (after.slot (by simp) k).trans (moveLease_slot s l k _)

/-- With room in the queue of an OPEN port ACCEPT is queued, before whatever a choice of its scanner sends. -/
theorem approve_queue (opened : (s.port y.port).state = .opened) (few : (s.port y.port).queue.length < 16) :
    ∃ more, ((s.approve l y).port y.port).queue = (s.port y.port).queue ++ y.acceptFrame l :: more := by
  have sent : ((((s.moveLease l fun z => { z with state := .measuring, deadline := none }).clearAlarm .leasePending l.val).offer y.port
      (y.acceptFrame l)).port y.port).queue = (s.port y.port).queue ++ [y.acceptFrame l] := by
    have taken := congrArg Port.queue (Port.offer_append (s.port y.port) (y.acceptFrame l))
    rw [if_pos ⟨opened, few⟩] at taken
    exact (congrArg Port.queue (setPort_port ..)).trans taken
  obtain ⟨more, queue⟩ := choose_queue (((s.moveLease l fun z => { z with state := .measuring, deadline := none }).clearAlarm
    .leasePending l.val).offer y.port (y.acceptFrame l)) y.port
  rw [sent, List.append_assoc] at queue
  exact ⟨more, queue⟩

/-! #### SUSPEND -/

theorem actSuspend_named (named : x.req.NamesIndex l.val) (known : requestKnown x.kind x.table x.req = true)
    (live : s.lease l = some y) (fence : s.suspendFenced x = true → x.req.revision = (s.slot l).rev) : actSuspend x s =
      if s.suspendable l then (s.suspend l .host).done x .lease l.val else s.refuse x .wrongState := by
  unfold actSuspend
  rw [checked_pass known named.2.2.1, atRecord_lease named live fence, atLease_live live]

/-- A SUSPEND that comes second to the suspension it met is not fenced. -/
theorem suspendFenced_met (named : x.req.NamesIndex l.val) (met : s.SuspensionMet l s.mgmt.takenAt x.req.revision) :
    s.suspendFenced x = false := by
  obtain ⟨y, m, live, state, mark, before, after, taken⟩ := met
  have key : s.keyNamed .lease x.req = some l.val := keyNamed_index named (by simp [tableKeys])
  have held : s.metSuspension x l = true := by
    unfold State.metSuspension
    rw [live]
    simp [mark, (leaseIn_iff live).mpr state, before, after, taken]
  unfold State.suspendFenced
  rw [key]
  simp [toIx, held]

/-- A suspension by the host: the slots, and the notice where there is room for it. -/
theorem suspend_moves {cause : SuspendCause} (live : s.lease l = some y)
    (bound : ∀ p, y.offer = .bound p → (s.ref p.entry).boundLease = some l) :
    s.LeaseMoved (s.suspend l cause) l (y.suspended cause) ∧ (∀ k, k ≠ l → s.LeaseHeld (s.suspend l cause) k) ∧
      ((s.port y.port).state = .opened → (s.port y.port).queue.length < 16 →
        Frame.notice l .suspended cause.code ∈ ((s.suspend l cause).port y.port).queue) := by
  have moves := suspendCore_moves live cause
  have rest : (s.suspendCore l cause).Quiet (s.suspend l cause) := by
    unfold State.suspend
    dsimp only
    split
    · exact (suspendFully_quiet live bound).trans (.chooseFor l)
    · exact suspendFully_quiet live bound
  exact ⟨moves.moved.held (rest.held l), fun k apart => (moves.others k apart).trans (rest.held k),
    fun opened few => rest.sent _ _ (suspendCore_notice live cause opened few)⟩

/-! #### RESUME -/

theorem actResume_named (named : x.req.NamesIndex l.val) (known : requestKnown x.kind x.table x.req = true)
    (live : s.lease l = some y) (fenced : x.req.revision = (s.slot l).rev) : actResume x s =
      if y.state = .suspended && (s.port y.port).state = .opened then ((s.resumeLease l).choose y.port).done x .lease l.val
      else s.refuse x .wrongState := by
  unfold actResume
  rw [checked_pass known named.2.2.1, atRecord_lease named live fun _ => fenced, atLease_live live]

theorem resume_slot (l k : LeaseIx) (p : PortIx) : ((s.resumeLease l).choose p).slot k =
    if l = k then ⟨(s.slot l).rev + 1, (s.lease l).map Lease.resumed⟩ else s.slot k := by
  have chosen : ((s.resumeLease l).choose p).slot k = (s.resumeLease l).slot k :=
    (choose_touches (ps := [.ports]) (by simp) .rfl').slot (by simp) k
  exact chosen.trans (moveLease_slot s l k _)

/-- Settles O41: the three requests where they act, and their refusals. -/
theorem approveSuspendResume : Obligations.ApproveSuspendResume := by
  unfold Obligations.ApproveSuspendResume
  intro s u dt req stage l x h named live r fenced wrong
  refine ⟨fun acts fence => ⟨fun pending => ?_, fun other => ?_⟩, fun acts fence => ⟨fun active agree => ?_, fun other => ?_⟩,
    fun acts met => ?_, fun acts fence => ⟨fun held opened => ?_, fun other => ?_⟩⟩
  · have decided (m : Mgmt) := actApprove_named (s := u.setMgmt m) (x := ⟨0x06, 0x04, req⟩) named
      (requestKnown_index named rfl rfl) live fence
    obtain ⟨m, t, ran, frame, answered, left⟩ := request_done (act := actApprove) (work := fun w => w.approve l x)
      (ps := [.mgmt, .leases, .leaseCore, .ports, .slots, .rooms, .pins]) h acts (tab := .lease) (k := l.val) (by decide)
      (by simp) (by simp) (fun m setup => approve_touches (by simp) (by simp) (by simp) (by simp) (by simp) <|
        setMgmt_touches (by simp) setup .rfl')
      fun m _ => (decided m).trans (if_pos pending)
    have slot (k : LeaseIx) := (left.slot (by simp) k).trans (approve_slot l k x)
    refine ⟨t, ran, frame, answered, fun k apart => (slot k).trans (if_neg apart.symm), ?_, fun opened few => ?_⟩
    · rw [slot, if_pos rfl]
      exact congrArg (fun y => LeaseSlot.mk _ (Option.map _ y)) live
    · rw [left.port (by simp)]
      exact approve_queue (s := u.setMgmt m) opened few
  · exact request_refused (act := actApprove) h acts fun m _ =>
      (actApprove_named (s := u.setMgmt m) named (requestKnown_index named rfl rfl) live fence).trans (if_neg other)
  · have decided (m : Mgmt) := actSuspend_named (s := u.setMgmt m) (x := ⟨0x08, 0x04, req⟩) named
      (requestKnown_index named rfl rfl) live fun _ => fence
    have taken (m : Mgmt) : (u.setMgmt m).suspendable l = true := (suspendable_iff live).mpr active
    obtain ⟨m, t, ran, frame, answered, left⟩ := request_done (act := actSuspend) (work := fun w => w.suspend l .host)
      (ps := .mgmt :: Part.ofFault) h acts (tab := .lease) (k := l.val) (by decide) (by decide) (by decide)
      (fun m setup => suspend_touches (by decide) (by decide) (by decide) (by decide) (by decide) (by decide) (by decide) (by decide) <|
        setMgmt_touches (by decide) setup .rfl')
      fun m _ => (decided m).trans (if_pos (taken m))
    obtain ⟨moved, others, notice⟩ := suspend_moves (s := u.setMgmt m) (cause := .host) live fun p => agree.2.2 l x p live
    refine ⟨t, ran, frame, answered, fun k apart => ((others k apart).trans (left.held (by simp) k)).kept,
      moved.held (left.held (by simp) l), fun opened few => ?_⟩
    rw [left.port (by simp)]
    exact notice opened few
  · refine request_refused (act := actSuspend) h acts fun m _ =>
      (actSuspend_named (s := u.setMgmt m) named (requestKnown_index named rfl rfl) live fun _ => fence).trans (if_neg ?_)
    rw [suspendable_iff (s := u.setMgmt m) live]
    rcases other with st | st <;> simp [st]
  · obtain ⟨m, setup, taken, ran⟩ := request_at (act := actSuspend) h acts
    have meets : (u.setMgmt m).SuspensionMet l (u.setMgmt m).mgmt.takenAt req.revision := by
      rw [show (u.setMgmt m).mgmt.takenAt = u.requestTaken stage from taken]
      exact met
    obtain ⟨y, -, alive, state, -⟩ := met
    have idle : ¬ (u.setMgmt m).suspendable l = true := by
      rw [suspendable_iff (s := u.setMgmt m) alive]
      simp [state]
    have unfenced : ¬ (u.setMgmt m).suspendFenced ⟨0x08, 0x04, req⟩ = true := by
      rw [suspendFenced_met (x := ⟨0x08, 0x04, req⟩) named meets]
      nofun
    rw [actSuspend_named (s := u.setMgmt m) named (requestKnown_index named rfl rfl) alive fun fence => absurd fence unfenced,
      if_neg idle, refuse_settle] at ran
    exact ⟨_, _, ran, refuse_touches (by simp) (by simp) (setMgmt_frame setup), refuse_answered ..⟩
  · have decided (m : Mgmt) := actResume_named (s := u.setMgmt m) (x := ⟨0x09, 0x04, req⟩) named
      (requestKnown_index named rfl rfl) live fence
    obtain ⟨m, t, ran, frame, answered, left⟩ := request_done (act := actResume) (work := fun w => (w.resumeLease l).choose x.port)
      (ps := [.mgmt, .leases, .leaseCore, .ports, .slots, .rooms, .pins]) h acts (tab := .lease) (k := l.val) (by decide)
      (by simp) (by simp) (fun m setup => choose_touches (by simp) <| resumeLease_touches (by simp) (by simp) (by simp) (by simp) <|
        setMgmt_touches (by simp) setup .rfl')
      fun m _ => (decided m).trans (if_pos (Bool.and_eq_true _ _ ▸ ⟨decide_eq_true held, decide_eq_true opened⟩))
    have slot (k : LeaseIx) := (left.slot (by simp) k).trans (resume_slot l k x.port)
    refine ⟨t, ran, frame, answered, fun k apart => (slot k).trans (if_neg apart.symm), ?_⟩
    rw [slot, if_pos rfl]
    exact congrArg (fun y => LeaseSlot.mk _ (Option.map _ y)) live
  · refine request_refused (act := actResume) h acts fun m _ =>
      (actResume_named (s := u.setMgmt m) named (requestKnown_index named rfl rfl) live fence).trans (if_neg ?_)
    rw [Bool.and_eq_true, decide_eq_true_iff, decide_eq_true_iff]
    exact fun ⟨st, opened⟩ => other.elim (absurd st) (absurd opened)

end Sys2Proof.Machine

/-! ### Departure reports (04:R70, 06:R107, 07:R123) -/
namespace Sys2Proof.Machine
open Sys2Proof

variable {s t u : State} {p q : PortIx} {l k : LeaseIx} {x : Lease} {c : Nat} {b : Batch}

/-- The oldest report of its kind: the one found first, and the one that leaves. -/
theorem oldest_report {reports pre post : List DepartureReport} {d : DepartureReport} {mark : Bool} (split : reports = pre ++ d :: post)
    (kind : d.isMark = mark) (before : ∀ e ∈ pre, e.isMark = !mark) :
    (reports.find? fun e => e.isMark == mark) = some d ∧ reports.erase d = pre ++ post := by
  subst split
  have other : d ∉ pre := fun h => by
    have := (before d h).symm.trans kind
    cases mark <;> cases this
  refine ⟨?_, ?_⟩
  · rw [List.find?_append, List.find?_eq_none.mpr fun e he => by simp [before e he], List.find?_cons_of_pos (by simp [kind])]
    rfl
  · rw [List.erase_append_right _ other, List.erase_cons_head]

/-- Port `p` once the report has been taken. -/
def State.withReports (s : State) (p : PortIx) (reports : List DepartureReport) : State :=
  s.setPort p { s.port p with reports := reports }

theorem deliverReport_taken {pre post : List DepartureReport} {d : DepartureReport} {mark : Bool}
    (split : (s.port p).reports = pre ++ d :: post) (kind : d.isMark = mark) (before : ∀ e ∈ pre, e.isMark = !mark) :
    s.deliverReport p mark = s.takeDeparture p d ∧
      (s.updPort p fun r => { r with reports := r.reports.erase d }) = s.withReports p (pre ++ post) := by
  obtain ⟨first, left⟩ := oldest_report split kind before
  refine ⟨?_, congrArg (fun reports => s.setPort p { s.port p with reports := reports }) left⟩
  unfold State.deliverReport Port.firstReport
  rw [first]

theorem deliverReport_mark {pre post : List DepartureReport} {seconds : Nat}
    (split : (s.port p).reports = pre ++ .mark l seconds :: post) (before : ∀ e ∈ pre, e.isMark = false) :
    s.deliverReport p true = (s.withReports p (pre ++ post)).spendCredit l := by
  obtain ⟨taken, left⟩ := deliverReport_taken (mark := true) split rfl before
  rw [taken, ← left]
  rfl

theorem deliverReport_echo {pre post : List DepartureReport} {n : BitVec 2} {sent : Capture}
    (split : (s.port p).reports = pre ++ .echo l n sent :: post) (before : ∀ e ∈ pre, e.isMark = true) :
    s.deliverReport p false = (s.withReports p (pre ++ post)).echoDeparted p l n sent := by
  obtain ⟨taken, left⟩ := deliverReport_taken (mark := false) split rfl before
  rw [taken, ← left]
  rfl

theorem withReports_touches {reports : List DepartureReport} : s.OnlyTouches [.ports] (s.withReports p reports) :=
  setPort_touches (by simp) rfl (.inr rfl) .rfl'

theorem withReports_port (s : State) (p : PortIx) (reports : List DepartureReport) :
    (s.withReports p reports).port p = { s.port p with reports := reports } := setPort_port ..

theorem withReports_port_ne (apart : q ≠ p) (reports : List DepartureReport) : (s.withReports p reports).port q = s.port q :=
  setPort_port_ne s apart.symm _

/-! #### Credit (07:R123) -/

theorem spendCredit_idle (idle : ∀ x, s.lease l = some x → x.state ≠ .inService ∨ x.credit = none) : s.spendCredit l = s := by
  unfold State.spendCredit
  split
  next => rfl
  next x live =>
    split
    next c state credit =>
      rcases idle x live with other | unlimited
      · exact absurd state other
      · rw [unlimited] at credit
        cases credit
    next => rfl

/-- A lease with credit `left`. -/
def Lease.withCredit (left : Nat) (x : Lease) : Lease := { x with credit := some left }

theorem spendCredit_last (live : s.lease l = some x) (state : x.state = .inService) (credit : x.credit = some c) (last : c ≤ 1) :
    s.spendCredit l = (s.updLease l (Lease.withCredit (c - 1))).retireNotice l retiredExpired
      (some { kind := .leaseExpired, subject := l.val, tag := some x.tag }) := by
  unfold State.spendCredit
  rw [live]
  dsimp only
  rw [state, credit]
  exact if_pos (by omega)

theorem spendCredit_more (live : s.lease l = some x) (state : x.state = .inService) (credit : x.credit = some c) (more : 2 ≤ c) :
    s.spendCredit l = if renewalPoint x.grantedCredit c (c - 1) = true then
      (s.updLease l (Lease.withCredit (c - 1))).putNotice l .renewDue (c - 1 : Nat)
      else s.updLease l (Lease.withCredit (c - 1)) := by
  unfold State.spendCredit
  rw [live]
  dsimp only
  rw [state, credit]
  exact if_neg (by omega)

theorem renewalPoint_iff {granted : Nat} (more : 2 ≤ c) :
    renewalPoint granted c (c - 1) = true ↔ c = 9 ∨ (granted ≤ 8 ∧ c = granted) := by
  unfold renewalPoint Config.renewalPoint
  simp only [Bool.or_eq_true, Bool.and_eq_true, decide_eq_true_eq]
  omega

/-- RENEW-DUE takes the place of any notice that waits (07:R122). -/
theorem merge_renewDue (old : Option Notice) (value : Int) : Notice.merge old ⟨.renewDue, value⟩ = ⟨.renewDue, value⟩ := by
  unfold Notice.merge
  split
  · rfl
  · exact if_neg (by simp)

/-- RENEW-DUE put to a live lease: queued, or waiting in place of what waited, or lost. -/
theorem putNotice_renewDue (live : s.lease l = some x) (value : Int) :
    ((s.putNotice l .renewDue value).port x.port = { s.port x.port with
      queue := (s.port x.port).queue ++ if (s.port x.port).state = .opened ∧ (s.port x.port).queue.length < 16 then
        [Frame.notice l .renewDue value] else [] }) ∧
    (s.putNotice l .renewDue value).slot l = ⟨(s.slot l).rev, some { x with
      notice := if (s.port x.port).state = .opened ∧ 16 ≤ (s.port x.port).queue.length then some ⟨.renewDue, value⟩
        else x.notice }⟩ := by
  have held : s.slot l = ⟨(s.slot l).rev, some x⟩ := congrArg (LeaseSlot.mk (s.slot l).rev) live
  by_cases opened : (s.port x.port).state = .opened
  · by_cases few : (s.port x.port).queue.length < 16
    · have sent : (s.offer x.port (.notice l .renewDue value)).port x.port = (s.port x.port).offer (.notice l .renewDue value) :=
        setPort_port ..
      have noted : ¬ ((s.port x.port).state = .opened ∧ 16 ≤ (s.port x.port).queue.length) := fun h => Nat.not_le.mpr few h.2
      rw [putNotice_queued live opened few, sent, Port.offer_append, if_neg noted]
      exact ⟨rfl, held⟩
    · have full : (s.port x.port).offering = .full := by
        unfold Port.offering
        rw [if_pos opened, if_neg (by unfold Config.queueMax; exact few)]
      have waits : s.putNotice l .renewDue value = s.updLease l fun y => { y with notice := some ⟨.renewDue, value⟩ } := by
        unfold State.putNotice
        rw [live]
        dsimp only
        rw [full]
        simp only [merge_renewDue]
      rw [waits, updLease_slot, if_pos rfl, if_neg fun h => few h.2, if_pos ⟨opened, Nat.not_lt.mp few⟩, List.append_nil]
      exact ⟨rfl, congrArg (fun y => LeaseSlot.mk _ (Option.map _ y)) live⟩
  · have lost : s.putNotice l .renewDue value = s := by
      unfold State.putNotice
      rw [live]
      dsimp only
      rw [Port.offering_shut opened]
    rw [lost, if_neg fun h => opened h.1, if_neg fun h => opened h.1, List.append_nil]
    exact ⟨rfl, held⟩

theorem putNotice_port_ne {kind : NoticeKind} {value : Int} (live : s.lease l = some x) (apart : q ≠ x.port) :
    (s.putNotice l kind value).port q = s.port q :=
  (State.OnPort.putNotice (p := x.port) (fun y h => by rw [live] at h; cases h; rfl) kind value).apart q apart

theorem putNotice_slot_ne {kind : NoticeKind} {value : Int} (apart : k ≠ l) : (s.putNotice l kind value).slot k = s.slot k := by
  unfold State.putNotice
  repeat' split
  · rfl
  · rfl
  · rw [updLease_slot, if_neg apart.symm]
  · rfl

/-! #### Echoes (06:R107) -/

theorem echoDeparted_taken {sent : Capture} (flight : (s.port p).scanner.batch = some b) (standing : b.standing = .waiting) :
    s.echoDeparted p b.lease b.number sent = s.updScanner p fun c =>
      { c with batch := some { b with standing := .departed sent.site sent.step s.clock.osc } } := by
  unfold State.echoDeparted
  rw [flight]
  exact if_pos (by simp [standing])

theorem echoDeparted_idle {n : BitVec 2} {sent : Capture}
    (idle : ∀ b, (s.port p).scanner.batch = some b → b.lease ≠ l ∨ b.number ≠ n ∨ b.standing ≠ .waiting) :
    s.echoDeparted p l n sent = s := by
  unfold State.echoDeparted
  split
  next => rfl
  next b flight =>
    refine if_neg fun taken => ?_
    simp only [Bool.and_eq_true, decide_eq_true_eq] at taken
    obtain ⟨⟨lease, number⟩, standing⟩ := taken
    rcases idle b flight with other | other | other
    · exact other lease
    · exact other number
    · exact other standing

/-- A departure's spend that leaves credit: the notice at the renewal point, queued or waiting, and the credit (07:R123). -/
theorem spendCredit_spends {v : State} {due : Prop} [Decidable due] (live : v.lease l = some x) (state : x.state = .inService)
    (credit : x.credit = some c) (more : 2 ≤ c) (point : due ↔ c = 9 ∨ (x.grantedCredit ≤ 8 ∧ c = x.grantedCredit)) :
    (∀ q, q ≠ x.port → (v.spendCredit l).port q = v.port q) ∧ (∀ k, k ≠ l → (v.spendCredit l).slot k = v.slot k) ∧
    (v.spendCredit l).port x.port = { v.port x.port with
      queue := (v.port x.port).queue ++ if due ∧ (v.port x.port).state = .opened ∧ (v.port x.port).queue.length < 16 then
        [Frame.notice l .renewDue ((c - 1 : Nat) : Int)] else [] } ∧
    (v.spendCredit l).slot l = ⟨(v.slot l).rev, some { x with
      credit := some (c - 1)
      notice := if due ∧ (v.port x.port).state = .opened ∧ 16 ≤ (v.port x.port).queue.length then
        some ⟨.renewDue, ((c - 1 : Nat) : Int)⟩ else x.notice }⟩ := by
  have spent : (v.updLease l (Lease.withCredit (c - 1))).lease l = some (x.withCredit (c - 1)) := by rw [updLease_lease, live]; rfl
  have rev : ((v.updLease l (Lease.withCredit (c - 1))).slot l).rev = (v.slot l).rev := by rw [updLease_slot, if_pos rfl]
  have others (k : LeaseIx) (apart : k ≠ l) : (v.updLease l (Lease.withCredit (c - 1))).slot k = v.slot k := by
    rw [updLease_slot, if_neg apart.symm]
  rw [spendCredit_more live state credit more]
  by_cases now : due
  · rw [if_pos ((renewalPoint_iff more).mpr (point.mp now))]
    obtain ⟨port, slot⟩ := putNotice_renewDue spent ((c - 1 : Nat) : Int)
    rw [rev] at slot
    simp only [now, true_and]
    exact ⟨fun q apart => putNotice_port_ne spent apart, fun k apart => (putNotice_slot_ne apart).trans (others k apart), port, slot⟩
  · rw [if_neg (mt (renewalPoint_iff more).mp (mt point.mpr now))]
    simp only [now, false_and, if_false, List.append_nil]
    refine ⟨fun _ _ => rfl, others, rfl, ?_⟩
    rw [updLease_slot, if_pos rfl]
    exact congrArg (fun y => LeaseSlot.mk _ (Option.map _ y)) live

theorem spendCredit_more_touches {v : State} (live : v.lease l = some x) (state : x.state = .inService) (credit : x.credit = some c)
    (more : 2 ≤ c) : v.OnlyTouches [.ports, .leases, .leaseCore] (v.spendCredit l) := by
  have spent : v.OnlyTouches [.ports, .leases, .leaseCore] (v.updLease l (Lease.withCredit (c - 1))) :=
    updLease_touches (by simp) (.inl (by simp)) .rfl'
  rw [spendCredit_more live state credit more]
  split
  · exact putNotice_touches (by simp) (by simp) spent
  · exact spent

/-- A departure that spends the last credit retires the lease. -/
theorem spendCredit_retires {v : State} (live : v.lease l = some x) (state : x.state = .inService) (credit : x.credit = some c)
    (last : c ≤ 1) : v.LeaseRetired (v.spendCredit l) l ∧ ∀ k, k ≠ l → v.LeaseHeld (v.spendCredit l) k := by
  have spent : (v.updLease l (Lease.withCredit (c - 1))).lease l = some (x.withCredit (c - 1)) := by rw [updLease_lease, live]; rfl
  rw [spendCredit_last live state credit last]
  refine ⟨?_, fun k apart => (State.LeaseHeld.updLease_ne apart.symm).trans (retire_others spent _ _ apart)⟩
  have retired := retire_retired spent (some (.notice l .retired retiredExpired))
    (some { kind := .leaseExpired, subject := l.val, tag := some x.tag })
  unfold State.LeaseRetired at retired
  rw [updLease_slot, if_pos rfl] at retired
  exact retired

/-- The report leaves, and nothing else happens. -/
theorem withReports_settle (u : State) (p : PortIx) (reports : List DepartureReport) :
    u.OnlyTouches [.ports, .pins] (u.withReports p reports).settle ∧
      (u.withReports p reports).settle.port p = { u.port p with reports := reports } ∧
      ∀ q, q ≠ p → (u.withReports p reports).settle.port q = u.port q :=
  ⟨settle_touches (by simp) (withReports_touches.mono (by simp)), withReports_port u p reports,
    fun _ apart => withReports_port_ne apart reports⟩

/-- Settles O33: the oldest report of the kind is taken, and the lease controller or the scanner acts on it. -/
theorem departureReportsAreTaken : Obligations.DepartureReportsAreTaken := by
  unfold Obligations.DepartureReportsAreTaken
  intro s u dt p pre post l h r only
  refine ⟨fun seconds split before => ?_, fun number sent split before => ?_⟩
  · have ran : exec (.markDeparture dt p) s = .next ((u.withReports p (pre ++ post)).spendCredit l).settle := by
      rw [exec_markDeparture, event_at h, deliverReport_mark split before]
    refine ⟨?_, fun x c live state credit last => ?_, fun idle => ?_⟩
    · intro x c live state credit here more due
      subst here
      obtain ⟨ports, slots, port, slot⟩ := spendCredit_spends (v := u.withReports x.port (pre ++ post)) (due := due) live state credit
        more Iff.rfl
      rw [withReports_port] at port slot
      refine ⟨_, ran, ?_, fun q apart => (ports q apart).trans (withReports_port_ne apart _), slots, port, slot⟩
      exact settle_touches (by simp) <| (withReports_touches.mono (by simp)).trans <|
        (spendCredit_more_touches (v := u.withReports x.port (pre ++ post)) live state credit more).mono (by simp)
    · obtain ⟨retired, others⟩ := spendCredit_retires (v := u.withReports p (pre ++ post)) live state credit last
      refine ⟨_, ran, ?_, retired, fun k apart => (others k apart).kept⟩
      exact settle_touches (by decide) <| spendCredit_touches (by decide) (by decide) (by decide) (by decide) (by decide) (by decide)
        (by decide) (by decide) (by decide) <| withReports_touches.mono (by decide)
    · rw [spendCredit_idle (s := u.withReports p (pre ++ post)) idle] at ran
      exact ⟨_, ran, withReports_settle u p _⟩
  · have ran : exec (.echoDeparture dt p) s = .next ((u.withReports p (pre ++ post)).echoDeparted p l number sent).settle := by
      rw [exec_echoDeparture, event_at h, deliverReport_echo split before]
    have scanner : ((u.withReports p (pre ++ post)).port p).scanner = r.scanner := by rw [withReports_port]
    refine ⟨fun b flight lease same standing => ?_, fun idle => ?_⟩
    · subst lease same
      rw [echoDeparted_taken (scanner ▸ flight) standing] at ran
      refine ⟨_, ran, ?_, fun q apart => ?_, ?_⟩
      · exact settle_touches (by simp) <| updScanner_touches (by simp) <| withReports_touches.mono (by simp)
      · rw [settle_port, updScanner_port, if_neg apart.symm, withReports_port_ne apart]
      · rw [settle_port, updScanner_port, if_pos rfl, withReports_port]
        rfl
    · rw [echoDeparted_idle fun b flight => idle b (scanner ▸ flight)] at ran
      exact ⟨_, ran, withReports_settle u p _⟩

end Sys2Proof.Machine

/-! ### The echo timer and the routine batch (06:R104, R107, R109) -/
namespace Sys2Proof.Machine
open Sys2Proof

variable {s t u : State} {p q : PortIx} {l k : LeaseIx} {x : Lease} {b : Batch}

theorem lowest_eq_some {n : Nat} {f : Fin n → Bool} {i : Fin n} (holds : f i = true) (first : ∀ j, j < i → f j = false) :
    lowest f = some i := by
  unfold lowest
  rw [← Fin.find?_eq_find?_finRange]
  exact Fin.find?_eq_some_iff.mpr ⟨holds, fun j hj => by simp [first j hj]⟩

theorem lowest_eq_none {n : Nat} {f : Fin n → Bool} (never : ∀ j, f j = false) : lowest f = none :=
  List.find?_eq_none.mpr fun j _ => by simp [never j]

/-! #### The echo timer -/

theorem echoDue_iff : s.echoDue b = true ↔ ∃ t, b.standing.timer = some t ∧ t + 2000000 ≤ s.clock.osc := by
  unfold State.echoDue Config.echoNs
  cases b.standing.timer <;> simp

theorem echoTimerExpires_due {t₀ : Nat} (flight : (s.port p).scanner.batch = some b) (timer : b.standing.timer = some t₀)
    (due : t₀ + 2000000 ≤ s.clock.osc) : s.echoTimerExpires p = s.echoTimeout p b := by
  unfold State.echoTimerExpires
  rw [flight]
  exact if_pos (echoDue_iff.mpr ⟨t₀, timer, due⟩)

theorem echoTimerExpires_idle (early : ∀ b t₀, (s.port p).scanner.batch = some b → b.standing.timer = some t₀ →
    s.clock.osc < t₀ + 2000000) : s.echoTimerExpires p = s := by
  unfold State.echoTimerExpires
  split
  next => rfl
  next b flight =>
    refine if_neg fun due => ?_
    obtain ⟨t₀, timer, reached⟩ := echoDue_iff.mp due
    exact Nat.not_lt.mpr reached (early b t₀ flight timer)

theorem echoTimeout_next (few : b.timeouts < 2) : s.echoTimeout p b =
    s.setPort p ((s.port p).echoing s.clock.osc { b with timeouts := b.timeouts + 1 } (b.number + 1)) := by
  unfold State.echoTimeout
  rw [if_pos (by omega)]
  exact nextEcho_eq _

theorem echoTimeout_third (third : 2 ≤ b.timeouts) : s.echoTimeout p b =
    ((s.endBatch p).suspendMarked b.lease .unreachable (s.slot b.lease).rev).choose p := by
  unfold State.echoTimeout
  exact if_neg (by omega)

/-- The third timeout in a row: the lease of the batch is suspended, and no other lease moves (06:R109). -/
theorem echoTimeout_suspends (third : 2 ≤ b.timeouts) (live : s.lease b.lease = some x)
    (bound : ∀ p, x.offer = .bound p → (s.ref p.entry).boundLease = some b.lease) :
    (∀ k, k ≠ b.lease → s.LeaseHeld (s.echoTimeout p b) k) ∧
      s.LeaseMoved (s.echoTimeout p b) b.lease (x.suspended .unreachable) ∧ s.LeaseMarked (s.echoTimeout p b) b.lease := by
  obtain ⟨moved, marked⟩ := suspendMarked_moves (s := s.endBatch p) (cause := .unreachable) live bound
  have others (k : LeaseIx) (apart : k ≠ b.lease) := suspendMarked_others (s := s.endBatch p) (cause := .unreachable) live bound
    apart (s.slot b.lease).rev
  have chosen := (State.Quiet.choose (s := (s.endBatch p).suspendMarked b.lease .unreachable (s.slot b.lease).rev) p).held
  rw [echoTimeout_third third]
  refine ⟨fun k apart => (others k apart).trans (chosen k), moved.held (chosen b.lease), ?_⟩
  exact (chosen b.lease).marks.trans marked

/-! #### The routine batch -/

theorem routineDue_iff : s.routineDue p = true ↔
    ∀ x, (s.port p).scanner.lastRoutine = some x → x + (s.port p).scanInterval ≤ s.tb.runCounter := by
  unfold State.routineDue
  cases (s.port p).scanner.lastRoutine <;> simp

/-- The lease next in the round-robin: the lowest after the last one, else the lowest. -/
theorem nextRoutine_eq (serving : s.leaseOnIn l p .inService = true)
    (next : ((∀ k, (s.port p).scanner.roundRobin = some k → k < l) ∧
        ∀ j, j < l → (∀ k, (s.port p).scanner.roundRobin = some k → k < j) → s.leaseOnIn j p .inService = false) ∨
      ((∀ j, (∀ k, (s.port p).scanner.roundRobin = some k → k < j) → s.leaseOnIn j p .inService = false) ∧
        ∀ j, j < l → s.leaseOnIn j p .inService = false)) : s.nextRoutine p = some l := by
  unfold State.nextRoutine State.lowestIn
  split
  next fresh =>
    rw [fresh] at next
    refine lowest_eq_some serving fun j lower => ?_
    rcases next with ⟨-, first⟩ | ⟨-, first⟩
    · exact first j lower nofun
    · exact first j lower
  next k last =>
    simp only [last, Option.some.injEq, forall_eq'] at next
    rcases next with ⟨after, first⟩ | ⟨wraps, first⟩
    · have found : lowest (fun j : LeaseIx => k < j && s.leaseOnIn j p .inService) = some l := by
        refine lowest_eq_some (by simp [after, serving]) fun j lower => ?_
        by_cases later : k < j
        · simp [first j lower later]
        · simp [later]
      rw [found]
      rfl
    · have missed : lowest (fun j : LeaseIx => k < j && s.leaseOnIn j p .inService) = none := by
        refine lowest_eq_none fun j => ?_
        by_cases later : k < j
        · simp [wraps j later]
        · simp [later]
      rw [missed]
      exact lowest_eq_some serving first

theorem startRoutine_starts (next : s.nextRoutine p = some l) (due : s.routineDue p = true) : s.startRoutine p =
    s.setPort p (({ s.port p with
      scanner := { (s.port p).scanner with roundRobin := some l, lastRoutine := some s.tb.runCounter } } : Port).echoing s.clock.osc
      ⟨l, .routine, [], 0, 0, .waiting⟩ 0) := by
  unfold State.startRoutine
  rw [next]
  dsimp only
  rw [if_pos due]
  exact updScanner_startBatch ..

theorem choose_routine (opened : (s.port p).state = .opened) (free : (s.port p).scanner.batch = none)
    (empty : (s.port p).scanner.injection = none) (measured : ∀ k, s.leaseOnIn k p .measuring = false) :
    s.choose p = s.startRoutine p := by
  have noneMeasured : s.lowestIn p .measuring = none := lowest_eq_none measured
  rw [choose_free opened free, empty]
  dsimp only
  rw [noneMeasured]

/-- Settles O35: the echo timer's end, early and due, and the routine batch. -/
theorem echoTimerAndRoutineBatch : Obligations.EchoTimerAndRoutineBatch := by
  unfold Obligations.EchoTimerAndRoutineBatch
  intro s u dt p h r standing after sent
  have timer : exec (.echoTimerExpiry dt p) s = .next (u.echoTimerExpires p).settle := by rw [exec_echoTimerExpiry, event_at h]
  have routine : exec (.routineBatchDue dt p) s = .next (u.routineFallsDue p).settle := by rw [exec_routineBatchDue, event_at h]
  refine ⟨fun b t₀ flight started due => ?_, fun early => ?_, ?_, fun idle => ?_⟩
  · rw [echoTimerExpires_due flight started due] at timer
    refine ⟨fun few => ?_, fun x third live here active agree => ?_⟩
    · rw [echoTimeout_next few] at timer
      refine ⟨_, timer, ?_, fun q apart => setPort_port_ne u apart.symm _, setPort_port ..⟩
      exact settle_touches (by simp) <| setPort_touches (by simp) rfl (.inr rfl) .rfl'
    · obtain ⟨others, moved, marked⟩ := echoTimeout_suspends (s := u) (p := p) third live fun p => agree.2.2 b.lease x p live
      refine ⟨_, timer, ?_, fun k apart => (others k apart).kept, moved, marked⟩
      exact settle_touches (by decide) <| echoTimeout_touches (by decide) (by decide) (by decide) (by decide) (by decide) (by decide)
        (by decide) (by decide) .rfl'
  · rw [echoTimerExpires_idle early] at timer
    exact ⟨_, timer, settle_frame u⟩
  · intro l opened free empty measured due serving next
    have starts : u.routineFallsDue p = u.startRoutine p :=
      (if_pos (routineDue_iff.mpr due)).trans (choose_routine opened free empty measured)
    rw [starts, startRoutine_starts (nextRoutine_eq serving next) (routineDue_iff.mpr due)] at routine
    refine ⟨_, routine, ?_, fun q apart => setPort_port_ne u apart.symm _, setPort_port ..⟩
    exact settle_touches (by simp) <| setPort_touches (by simp) rfl (.inr rfl) .rfl'
  · have waits : u.routineFallsDue p = u := by
      unfold State.routineFallsDue
      rcases idle with ⟨x, last, early⟩ | busy
      · exact if_neg fun due => Nat.not_le.mpr early (routineDue_iff.mp due x last)
      · rw [choose_idle busy, ite_self]
    rw [waits] at routine
    exact ⟨_, routine, settle_frame u⟩

end Sys2Proof.Machine

/-! ### The books of the leases (05:R90, R92, R95) -/
namespace Sys2Proof.Machine
open Sys2Proof

variable {s t u : State} {l k : LeaseIx} {x y : Lease} {p : PortIx} {i : RefIx}

/-! #### Counting the indices of a table -/

/-- The other indices counted alike, one index more counts one more. -/
theorem countIx_one_more {n : Nat} {f g : Fin n → Bool} {j : Fin n} (more : f j = true) (less : g j = false)
    (others : ∀ i, i ≠ j → f i = g i) : countIx f = countIx g + 1 := by
  obtain ⟨before, after, split⟩ := List.mem_iff_append.mp (List.mem_finRange j)
  have distinct := List.nodup_finRange n
  rw [split, List.nodup_append, List.nodup_cons] at distinct
  obtain ⟨-, ⟨late, -⟩, cross⟩ := distinct
  have first : before.countP f = before.countP g :=
    List.countP_congr fun i hi => by rw [others i (cross i hi j List.mem_cons_self)]
  have last : after.countP f = after.countP g :=
    List.countP_congr fun i hi => by rw [others i fun same => late (same ▸ hi)]
  unfold countIx
  rw [split, List.countP_append, List.countP_append, List.countP_cons_of_pos more, List.countP_cons_of_neg (by simp [less]),
    first, last, Nat.add_assoc]

/-! #### What the books say of a lease -/

/-- What the books say of a lease: its tag, its port and its offer. -/
def Lease.booked (x : Lease) : Tag × PortIx × Offer := (x.tag, x.port, x.offer)

theorem Lease.booked_inj (h : x.booked = y.booked) : x.tag = y.tag ∧ x.port = y.port ∧ x.offer = y.offer := by
  simpa only [Lease.booked, Prod.mk.injEq] using h

theorem leaseOn_booked (s : State) (l : LeaseIx) (p : PortIx) :
    s.leaseOn l p = ((s.lease l).map Lease.booked).any fun b => b.2.1 = p := by
  unfold State.leaseOn
  cases s.lease l <;> rfl

/-- A lease booked in `t` as in `s` is the lease of the same tag, port and offer in `s`. -/
theorem live_of_booked (same : (t.lease l).map Lease.booked = (s.lease l).map Lease.booked) (alive : t.lease l = some y) :
    ∃ x, s.lease l = some x ∧ x.booked = y.booked := by
  rw [alive] at same
  exact Option.map_eq_some_iff.mp same.symm

/-- A lease held but for its notice says to the books what it said. -/
theorem State.LeaseHeld.booked (h : s.LeaseHeld t l) : (t.lease l).map Lease.booked = (s.lease l).map Lease.booked := by
  have unnoticed (z : Option Lease) : z.map Lease.booked = (z.map Lease.unnoticed).map Lease.booked := by cases z <;> rfl
  rw [unnoticed, h.2, ← unnoticed]

theorem State.OnlyTouches.booked {ps : List Part} (h : s.OnlyTouches ps t) (hp : Part.leaseCore ∉ ps) (l : LeaseIx) :
    (t.lease l).map Lease.booked = (s.lease l).map Lease.booked := by
  have core (z : Option Lease) : z.map Lease.booked = (z.map Lease.core).map Lease.booked := by cases z <;> rfl
  rw [core, (h.core hp l).2, ← core]

/-- The lease table, the ports' counts and the bindings stand in `t` as they stand in `s`. -/
structure State.SameBooks (s t : State) : Prop where
  leases : ∀ l, (t.lease l).map Lease.booked = (s.lease l).map Lease.booked
  counts : ∀ p, (t.port p).liveLeases = (s.port p).liveLeases
  bound : ∀ i, (t.ref i).boundLease = (s.ref i).boundLease

namespace State.SameBooks

theorem live (h : s.SameBooks t) (alive : t.lease l = some y) : ∃ x, s.lease l = some x ∧ x.booked = y.booked :=
  live_of_booked (h.leases l) alive

theorem liveOn (h : s.SameBooks t) (p : PortIx) : t.liveOn p = s.liveOn p := by
  have on : (fun l => t.leaseOn l p) = fun l => s.leaseOn l p := by
    funext l
    rw [leaseOn_booked, leaseOn_booked, h.leases]
  exact congrArg countIx on

end State.SameBooks

/-- The parts of the state whose change leaves the books alone. -/
def Part.offBooks : List Part :=
  [.clock, .tb, .tbSettings, .wires, .refSettings, .ports, .portSettings, .lanes, .leases, .admission, .outs, .outSettings,
    .slots, .kinds, .threshold, .lines, .pins, .rooms, .mgmt, .setup, .resetLow, .pending]

namespace State.LeasesAgree

theorem of_books (h : s.LeasesAgree) (same : s.SameBooks t) : t.LeasesAgree := by
  obtain ⟨unique, counted, bound⟩ := h
  refine ⟨fun l k x y hl hk tags => ?_, fun p => ?_, fun l y p hl offer => ?_⟩
  · obtain ⟨x', hx, bookX⟩ := same.live hl
    obtain ⟨y', hy, bookY⟩ := same.live hk
    obtain ⟨tagx, -⟩ := Lease.booked_inj bookX
    obtain ⟨tagy, -⟩ := Lease.booked_inj bookY
    exact unique l k x' y' hx hy (tagx.trans (tags.trans tagy.symm))
  · rw [same.counts, same.liveOn]
    exact counted p
  · obtain ⟨x', hx, bookX⟩ := same.live hl
    obtain ⟨-, -, offers⟩ := Lease.booked_inj bookX
    rw [same.bound]
    exact bound l x' p hx (offers.trans offer)

theorem of_same (h : s.LeasesAgree) (refs : t.refs = s.refs) (ports : t.ports = s.ports) (leases : t.leases = s.leases) :
    t.LeasesAgree :=
  h.of_books
    ⟨fun l => by simp only [State.lease, State.slot, leases], fun p => by simp only [State.port, ports],
      fun i => by simp only [State.ref, refs]⟩

/-- Whatever leaves the reference entries, the leases' fields and the ports' states alone keeps the law. -/
theorem of_touches (h : s.LeasesAgree) (k : s.OnlyTouches Part.offBooks t) : t.LeasesAgree :=
  h.of_books
    ⟨k.booked (by decide), fun p => (Port.standing_inj (k.standing (by decide) p)).2.2.1,
      fun i => by rw [k.ref (by decide)]⟩

theorem forAll {n : Nat} {f : Fin n → State → State} (hf : ∀ i t, State.LeasesAgree t → (f i t).LeasesAgree)
    (h : s.LeasesAgree) : (Machine.forAll f s).LeasesAgree := forAll_keeps hf h

/-! #### Writers -/

theorem setClock {c : Clock} (h : s.LeasesAgree) : (s.setClock c).LeasesAgree := h.of_same rfl rfl rfl
theorem setTb {b : Timebase} (h : s.LeasesAgree) : (s.setTb b).LeasesAgree := h.of_same rfl rfl rfl
theorem updTb {f : Timebase → Timebase} (h : s.LeasesAgree) : (s.updTb f).LeasesAgree := h.setTb
theorem setAlarm {a : AlarmUnit} (h : s.LeasesAgree) : (s.setAlarm a).LeasesAgree := h.of_same rfl rfl rfl
theorem setMgmt {m : Mgmt} (h : s.LeasesAgree) : (s.setMgmt m).LeasesAgree := h.of_same rfl rfl rfl
theorem setLane {r : LaneReceiver} (h : s.LeasesAgree) : (s.setLane p r).LeasesAgree := h.of_same rfl rfl rfl
theorem setOut {j : OutIx} {o : Output} (h : s.LeasesAgree) : (s.setOut j o).LeasesAgree := h.of_same rfl rfl rfl
theorem updOut {j : OutIx} {f : Output → Output} (h : s.LeasesAgree) : (s.updOut j f).LeasesAgree := h.setOut
theorem setAdmission {j : AdmIx} {a : AdmissionSlot} (h : s.LeasesAgree) : (s.setAdmission j a).LeasesAgree :=
  h.of_same rfl rfl rfl
theorem raise {r : Raise} (h : s.LeasesAgree) : (s.raise r).LeasesAgree := h.setAlarm
theorem clearAlarm {a : AlarmKind} {n : Nat} (h : s.LeasesAgree) : (s.clearAlarm a n).LeasesAgree := h.setAlarm
theorem settle (h : s.LeasesAgree) : s.settle.LeasesAgree := h.setAlarm

/-- A change of an entry that keeps its binding. -/
theorem setRef {e : RefEntry} (h : s.LeasesAgree) (same : e.boundLease = (s.ref i).boundLease) :
    (s.setRef i e).LeasesAgree := by
  refine h.of_books ⟨fun _ => rfl, fun _ => rfl, fun j => ?_⟩
  rw [setRef_ref_if]
  split
  next here => exact here ▸ same
  next => rfl

theorem updRef {f : RefEntry → RefEntry} (h : s.LeasesAgree)
    (same : (f (s.ref i)).boundLease = (s.ref i).boundLease) : (s.updRef i f).LeasesAgree := h.setRef same

/-- A change of a port that keeps its count. -/
theorem setPort {r : Port} (h : s.LeasesAgree) (same : r.liveLeases = (s.port p).liveLeases) :
    (s.setPort p r).LeasesAgree := by
  refine h.of_books ⟨fun _ => rfl, fun q => ?_, fun _ => rfl⟩
  rw [setPort_port_if]
  split
  next here => exact here ▸ same
  next => rfl

theorem updPort {f : Port → Port} (h : s.LeasesAgree)
    (same : (f (s.port p)).liveLeases = (s.port p).liveLeases) : (s.updPort p f).LeasesAgree := h.setPort same

theorem updScanner {f : Scanner → Scanner} (h : s.LeasesAgree) : (s.updScanner p f).LeasesAgree := h.updPort rfl

/-- A change of a lease that keeps what the books say of it. -/
theorem setLeaseSlot {z : LeaseSlot} (h : s.LeasesAgree) (same : z.lease.map Lease.booked = (s.lease l).map Lease.booked) :
    (s.setLeaseSlot l z).LeasesAgree := by
  refine h.of_books ⟨fun k => ?_, fun _ => rfl, fun _ => rfl⟩
  rw [setLeaseSlot_lease_if]
  split
  next here => exact here ▸ same
  next => rfl

theorem updLease {f : Lease → Lease} (h : s.LeasesAgree) (same : ∀ x, (f x).booked = x.booked) :
    (s.updLease l f).LeasesAgree := by
  refine h.setLeaseSlot ?_
  rw [Option.map_map]
  exact congrArg (Option.map · (s.lease l)) (funext same)

theorem moveLease {f : Lease → Lease} (h : s.LeasesAgree) (same : ∀ x, (f x).booked = x.booked) :
    (s.moveLease l f).LeasesAgree := by
  refine h.setLeaseSlot ?_
  rw [Option.map_map]
  exact congrArg (Option.map · (s.lease l)) (funext same)

/-- A live lease that another of the same tag, port and offer replaces. -/
theorem moveLease_to (h : s.LeasesAgree) (live : s.lease l = some x) (same : y.booked = x.booked) :
    (s.moveLease l fun _ => y).LeasesAgree := by
  refine h.setLeaseSlot ?_
  change ((s.lease l).map fun _ => y).map Lease.booked = _
  rw [live]
  exact congrArg some same

end State.LeasesAgree
end Sys2Proof.Machine

/-! ### The books through queues, scanners and the timebase (01, 04, 06) -/
namespace Sys2Proof.Machine
open Sys2Proof

namespace State.LeasesAgree

variable {s : State} {l : LeaseIx} {x : Lease} {p : PortIx} {i : RefIx}

theorem offer {f : Frame} (h : s.LeasesAgree) : (s.offer p f).LeasesAgree :=
  h.of_touches (offer_touches (by decide) .rfl')

theorem putNotice {a : NoticeKind} {v : Int} (h : s.LeasesAgree) : (s.putNotice l a v).LeasesAgree :=
  h.of_touches (putNotice_touches (by decide) (by decide) .rfl')

theorem removeFrames {d : Frame → Bool} (h : s.LeasesAgree) : (s.removeFrames p d).LeasesAgree :=
  h.of_touches (removeFrames_touches (by decide) (by decide) .rfl')

theorem dropSchedule (h : s.LeasesAgree) : (s.dropSchedule p l).LeasesAgree :=
  h.of_touches (dropSchedule_touches (by decide) .rfl')

theorem stopMarks (h : s.LeasesAgree) : (s.stopMarks l).LeasesAgree := by
  unfold State.stopMarks
  split
  · exact h
  · exact h.removeFrames.dropSchedule.updLease fun _ => rfl

theorem startBatch {o : Origin} (h : s.LeasesAgree) : (s.startBatch p l o).LeasesAgree :=
  h.of_touches (startBatch_touches (by decide) .rfl')

theorem choose (h : s.LeasesAgree) : (s.choose p).LeasesAgree := h.of_touches (choose_touches (by decide) .rfl')
theorem chooseFor (h : s.LeasesAgree) : (s.chooseFor l).LeasesAgree := h.of_touches (chooseFor_touches (by decide) .rfl')

theorem abandonBatch (h : s.LeasesAgree) : (s.abandonBatch l).LeasesAgree :=
  h.of_touches (abandonBatch_touches (by decide) .rfl')

theorem dropInjection (h : s.LeasesAgree) : (s.dropInjection l).LeasesAgree :=
  h.of_touches (dropInjection_touches (by decide) .rfl')

theorem endBatch (h : s.LeasesAgree) : (s.endBatch p).LeasesAgree := h.updScanner
theorem silencePort (h : s.LeasesAgree) : (s.silencePort p).LeasesAgree := h.of_touches (silencePort_touches (by decide) .rfl')

theorem nextEcho {b : Batch} (h : s.LeasesAgree) : (s.nextEcho p b).LeasesAgree :=
  h.of_touches (nextEcho_touches (by decide) .rfl')

theorem echoDeparted {n : BitVec 2} {c : Capture} (h : s.LeasesAgree) : (s.echoDeparted p l n c).LeasesAgree :=
  h.of_touches (echoDeparted_touches (by decide) .rfl')

theorem routineFallsDue (h : s.LeasesAgree) : (s.routineFallsDue p).LeasesAgree :=
  h.of_touches (routineFallsDue_touches (by decide) .rfl')

theorem frameDeparts (h : s.LeasesAgree) : (s.frameDeparts p).LeasesAgree :=
  h.of_touches (frameDeparts_touches (by decide) (by decide) .rfl')

theorem queueMarks {n : Nat} (h : s.LeasesAgree) : (s.queueMarks n).LeasesAgree :=
  h.of_touches (queueMarks_touches (by decide) .rfl')

theorem scheduleSymbols {n : Nat} (h : s.LeasesAgree) : (s.scheduleSymbols n).LeasesAgree :=
  h.of_touches (scheduleSymbols_touches (by decide) .rfl')

/-! #### Alarms and outputs -/

theorem raiseLease {a : AlarmKind} {d : Option Detail} (h : s.LeasesAgree) : (s.raiseLease l a d).LeasesAgree :=
  h.of_touches (raiseLease_touches (by decide) (by decide) .rfl')

theorem raiseRef {a : AlarmKind} (h : s.LeasesAgree) : (s.raiseRef a i).LeasesAgree := h.raise
theorem raisePort {a : AlarmKind} (h : s.LeasesAgree) : (s.raisePort p a).LeasesAgree := h.raise

theorem raiseFault (h : s.LeasesAgree) : (s.raiseFault i).LeasesAgree :=
  h.of_touches (raiseFault_touches (by decide) (by decide) .rfl')

theorem raiseFreeRun (h : s.LeasesAgree) : s.raiseFreeRun.LeasesAgree :=
  h.of_touches (raiseFreeRun_touches (by decide) (by decide) .rfl')

theorem raiseSome {r : Option Raise} (h : s.LeasesAgree) : (s.raiseSome r).LeasesAgree :=
  h.of_touches (raiseSome_touches (by decide) (by decide) .rfl')

theorem reportAlarm (h : s.LeasesAgree) : (s.reportAlarm l x).LeasesAgree :=
  h.of_touches (reportAlarm_touches (by decide) (by decide) .rfl')

theorem clearPending (h : s.LeasesAgree) : (s.clearPending p).LeasesAgree :=
  h.of_touches (clearPending_touches (by decide) (by decide) .rfl')

theorem takeRoom {b : Block} (h : s.LeasesAgree) : (s.takeRoom b).LeasesAgree :=
  h.of_touches (takeRoom_touches (by decide) (by decide) .rfl')

theorem moveOutput {j : OutIx} {f : Output → SiteNs → SiteNs} (h : s.LeasesAgree) : (s.moveOutput j f).LeasesAgree :=
  h.of_touches (moveOutput_touches (by decide) (by decide) (by decide) .rfl')

/-! #### The timebase (01, 03) -/

theorem deriveClass (h : s.LeasesAgree) : s.deriveClass.LeasesAgree :=
  h.of_touches (deriveClass_touches (by decide) (by decide) (by decide) (by decide) (by decide) (by decide) .rfl')

theorem spentTest (h : s.LeasesAgree) : s.spentTest.LeasesAgree :=
  h.of_touches (spentTest_touches (by decide) (by decide) (by decide) .rfl')

theorem tableMoved (h : s.LeasesAgree) : s.tableMoved.LeasesAgree :=
  h.of_touches (tableMoved_touches (by decide) (by decide) (by decide) .rfl')

theorem selectEntry (h : s.LeasesAgree) : (s.selectEntry i).LeasesAgree :=
  h.of_touches (selectEntry_touches (by decide) (by decide) (by decide) .rfl')

theorem storeRestore (h : s.LeasesAgree) : s.storeRestore.LeasesAgree := h.updTb

theorem switchIfDue (h : s.LeasesAgree) : s.switchIfDue.LeasesAgree :=
  h.of_touches (switchIfDue_touches (by decide) (by decide) (by decide) .rfl')

theorem reworkRestore (h : s.LeasesAgree) : s.reworkRestore.LeasesAgree :=
  h.of_touches (reworkRestore_touches (by decide) (by decide) (by decide) .rfl')

theorem loseSelected (h : s.LeasesAgree) : (s.loseSelected i).LeasesAgree :=
  h.of_touches (loseSelected_touches (by decide) (by decide) (by decide) (by decide) (by decide) (by decide) .rfl')

theorem announceUsable (h : s.LeasesAgree) : (s.announceUsable i).LeasesAgree :=
  h.of_touches (announceUsable_touches (by decide) (by decide) (by decide) .rfl')

theorem announceLeft (h : s.LeasesAgree) : (s.announceLeft i).LeasesAgree :=
  h.of_touches (announceLeft_touches (by decide) (by decide) (by decide) (by decide) (by decide) (by decide) .rfl')

theorem deliverSample (h : s.LeasesAgree) : s.deliverSample.LeasesAgree :=
  h.of_touches
    (deliverSample_touches (by decide) (by decide) (by decide) (by decide) (by decide) (by decide) (by decide) .rfl')

theorem deliverMeasurement (h : s.LeasesAgree) : s.deliverMeasurement.LeasesAgree :=
  h.of_touches (deliverMeasurement_touches (by decide) (by decide) .rfl')

theorem runSecondIfDue (h : s.LeasesAgree) : s.runSecondIfDue.LeasesAgree := by
  unfold State.runSecondIfDue
  split
  · exact h.setClock.updTb.deriveClass.spentTest.forAll fun _ _ agree => agree.updRef rfl
  · exact h

theorem elapse {dt : Nat} (h : s.LeasesAgree) : (s.elapse dt).LeasesAgree := h.of_same rfl rfl rfl

end State.LeasesAgree
end Sys2Proof.Machine

/-! ### The books through the reference unit (02) -/
namespace Sys2Proof.Machine
open Sys2Proof

namespace State.LeasesAgree

variable {s : State} {l : LeaseIx} {x : Lease} {p : PortIx} {i : RefIx}

theorem startInputs (h : s.LeasesAgree) : (s.startInputs i).LeasesAgree := by
  unfold State.startInputs
  split
  · exact h.updRef rfl
  · exact (h.updRef rfl).raiseRef

/-! #### Suspension and faults (07:R128; 02:R38, R39) -/

theorem leaveService (h : s.LeasesAgree) : (s.leaveService l).LeasesAgree := h.clearAlarm.stopMarks

theorem suspendCore {cause : SuspendCause} (h : s.LeasesAgree) : (s.suspendCore l cause).LeasesAgree := by
  have moved := h.moveLease (l := l) (f := fun x => { x with state := .suspended, suspendCause := some cause }) fun _ => rfl
  unfold State.suspendCore
  dsimp only
  split
  · exact moved.leaveService.abandonBatch.dropInjection.putNotice.raiseLease
  · exact moved.abandonBatch.dropInjection.putNotice.raiseLease

theorem lockoutReport (h : s.LeasesAgree) : (s.lockoutReport i).LeasesAgree := by
  unfold State.lockoutReport
  split
  · exact h
  · exact h.suspendCore

theorem lockoutChoice {before : State} (h : s.LeasesAgree) : (s.lockoutChoice before i).LeasesAgree :=
  h.of_touches (lockoutChoice_touches (by decide) .rfl')

theorem faultRef {cause : FaultCause} (h : s.LeasesAgree) : (s.faultRef i cause).LeasesAgree := by
  unfold State.faultRef
  split
  · have faulted := h.updRef (i := i) (f := fun e => e.faulted cause) rfl
    dsimp only
    split
    · exact faulted.lockoutReport.raiseFault.announceLeft.lockoutChoice
    · exact faulted.lockoutReport.raiseFault.lockoutChoice
  · exact h

/-! #### Good samples (02:R36, R37) -/

theorem becomeUsable (h : s.LeasesAgree) : (s.becomeUsable i).LeasesAgree := (h.updRef rfl).announceUsable

theorem qualify {w : Bool} (h : s.LeasesAgree) : (s.qualify i w).LeasesAgree := by
  unfold State.qualify
  dsimp only
  split
  · split_ifs
    · exact h.updRef rfl
    · exact h.updRef rfl
    · exact h.updRef rfl
    · exact h.becomeUsable
  · exact h

theorem offerSample {o : Int} {m : BitVec 8} (h : s.LeasesAgree) : (s.offerSample i o m).LeasesAgree :=
  h.of_touches (offerSample_touches (by decide) .rfl')

theorem offerMeasurement {j : LineInput} {f : Int} (h : s.LeasesAgree) : (s.offerMeasurement j f).LeasesAgree :=
  h.of_touches (offerMeasurement_touches (by decide) .rfl')

theorem goodOffset {o : Int} {m : BitVec 8} (h : s.LeasesAgree) : (s.goodOffset i o m).LeasesAgree :=
  (h.updRef rfl).offerSample.qualify

/-! #### Pulse entries and labels (02:R28 to R31) -/

theorem edgeUnlabelled (h : s.LeasesAgree) : (s.edgeUnlabelled i).LeasesAgree := by
  have counted := h.updRef (i := i) (f := fun e => { e with labelLess := e.labelLess + 1 }) rfl
  unfold State.edgeUnlabelled
  dsimp only
  split
  · exact counted
  · exact counted.faultRef

theorem edgeLabelled {b : Label} (h : s.LeasesAgree) : (s.edgeLabelled i b).LeasesAgree := by
  have counted := h.updRef (i := i) (f := fun e => { e with labelLess := 0 }) rfl
  unfold State.edgeLabelled
  dsimp only
  split
  · exact counted.faultRef
  · exact counted.goodOffset

theorem edgeTaken (h : s.LeasesAgree) : (s.edgeTaken i).LeasesAgree := by
  have accepted := h.updRef (i := i) (f := fun e => e.acceptEdge s.clock.osc) rfl
  unfold State.edgeTaken
  cases (s.ref i).prevEdge <;> cases (s.ref i).pendingLabel <;> dsimp only
  case none.none => exact accepted.edgeUnlabelled
  case none.some => exact accepted
  case some.none =>
    split
    · exact h.faultRef
    · exact accepted.edgeUnlabelled
  case some.some =>
    split
    · exact h.faultRef
    · exact accepted.edgeLabelled

theorem pulseEdge {edge : Edge} (h : s.LeasesAgree) : (s.pulseEdge i edge).LeasesAgree := by
  unfold State.pulseEdge
  dsimp only
  split_ifs
  · exact h.faultRef
  · exact h.edgeTaken
  · exact h

theorem takeLabel {valid : Bool} {n : BitVec 48} (h : s.LeasesAgree) : (s.takeLabel i valid n).LeasesAgree := by
  unfold State.takeLabel
  split_ifs
  · exact h.updRef rfl
  · exact h.faultRef
  · exact h

theorem labelEnds {f : LabelRun} (h : s.LeasesAgree) : (s.labelEnds i f).LeasesAgree := by
  unfold State.labelEnds
  repeat' split
  · exact h
  · exact h.takeLabel
  · exact h

theorem labelHeard {r : LabelReceiver} (h : s.LeasesAgree) : (s.labelHeard i r).LeasesAgree := by
  have heard {r' : LabelReceiver} : (s.setReceiver i r').LeasesAgree := h.updRef rfl
  unfold State.labelHeard
  split
  · exact heard
  · exact heard.labelEnds

theorem labelRest {n : Nat} {cs : List LineChar} (h : s.LeasesAgree) : (s.labelRest i n cs).LeasesAgree := by
  induction cs generalizing s n with
  | nil => exact h
  | cons c cs ih => exact ih (labelChar_eq s i _ _ ▸ h.labelHeard)

theorem labelFrame {c : LabelChar} {cs : List LineChar} (h : s.LeasesAgree) : (s.labelFrame i c cs).LeasesAgree :=
  labelRest (labelChar_eq s i _ _ ▸ h.labelHeard)

/-! #### LINE and PEER entries (02:R32 to R34, R45 to R47) -/

theorem measuredFreq {j : LineInput} {f : Int} (h : s.LeasesAgree) : (s.measuredFreq j f).LeasesAgree := by
  have stored := h.updRef (i := j.entry) (f := fun e => { e with lastFreq := some (clampInt Config.lastFreqMax f) }) rfl
  unfold State.measuredFreq
  dsimp only
  split
  · exact stored.faultRef
  · exact stored.offerMeasurement.qualify

theorem pulseTaken {j : LineInput} (h : s.LeasesAgree) : (s.pulseTaken j).LeasesAgree := by
  unfold State.pulseTaken
  dsimp only
  repeat' split
  · exact h.updRef rfl
  · exact h.updRef rfl
  · exact h.updRef rfl
  · exact (h.updRef rfl).measuredFreq

theorem linePulse {j : LineInput} (h : s.LeasesAgree) : (s.linePulse j).LeasesAgree := by
  unfold State.linePulse
  dsimp only
  split_ifs
  · exact h.faultRef
  · exact h.pulseTaken
  · exact h

theorem peerTaken {b : PeerMarkBody} {r : SymbolRecord} (h : s.LeasesAgree) : (s.peerTaken i b r).LeasesAgree := by
  have restarted := h.updRef (i := i) (f := fun e => { e with missingSince := some s.clock.osc }) rfl
  unfold State.peerTaken
  dsimp only
  split_ifs
  · exact restarted.faultRef
  · exact restarted.faultRef
  · exact restarted.goodOffset

theorem peerMarked {b : PeerMarkBody} {r : Option SymbolRecord} (h : s.LeasesAgree) : (s.peerMarked i b r).LeasesAgree := by
  unfold State.peerMarked
  dsimp only
  repeat' split
  · exact h.faultRef
  · exact h
  · exact h.peerTaken
  · exact h

theorem sourceLost {f : Offer} (h : s.LeasesAgree) : (s.sourceLost f).LeasesAgree := by
  unfold State.sourceLost
  split
  · exact h
  · exact h.faultRef

theorem firstSymbol {f : Offer} (h : s.LeasesAgree) : (s.firstSymbol f).LeasesAgree := by
  unfold State.firstSymbol
  repeat' split
  · exact h
  · exact h.updRef rfl
  · exact h

theorem disableRef (h : s.LeasesAgree) : (s.disableRef i).LeasesAgree := (h.updRef rfl).clearAlarm.clearAlarm

/-! #### Timers and the consistency check (02:R40, R41, R44) -/

theorem missingExpires (h : s.LeasesAgree) : (s.missingExpires i).LeasesAgree := by
  unfold State.missingExpires
  split
  · exact h.faultRef
  · exact h

theorem holdOffExpires (h : s.LeasesAgree) : (s.holdOffExpires i).LeasesAgree := by
  unfold State.holdOffExpires
  dsimp only
  split
  · exact h.startInputs.clearAlarm
  · exact h

theorem scoreDecays (h : s.LeasesAgree) : (s.scoreDecays i).LeasesAgree := by
  unfold State.scoreDecays
  repeat' split
  · exact h.updRef rfl
  all_goals exact h

theorem faultDeviants {ds : List (RefIx × Int)} (h : s.LeasesAgree) :
    (ds.foldl (fun t d => t.faultRef d.1 .wander) s).LeasesAgree := by
  induction ds generalizing s with
  | nil => exact h
  | cons d ds ih => exact ih h.faultRef

theorem checkConsistency (h : s.LeasesAgree) : s.checkConsistency.LeasesAgree := by
  unfold State.checkConsistency
  repeat' split
  · exact h.faultRef
  · exact h.faultDeviants
  all_goals exact h

end State.LeasesAgree
end Sys2Proof.Machine

/-! ### Retirement strikes a lease from the books (07:R133) -/
namespace Sys2Proof.Machine
open Sys2Proof

variable {s t : State} {l k : LeaseIx} {x y : Lease} {p q : PortIx}

theorem leaseOn_free (free : s.lease l = none) (p : PortIx) : s.leaseOn l p = false := by
  rw [leaseOn_booked, free]
  rfl

theorem leaseOn_live (live : s.lease l = some x) (p : PortIx) : s.leaseOn l p = decide (x.port = p) := by
  rw [leaseOn_booked, live]
  rfl

/-- One live lease more in slot `l`, the other slots booked alike: its port has one lease more, and the other ports have as many. -/
theorem liveOn_one_more (live : s.lease l = some x) (free : t.lease l = none)
    (others : ∀ k, k ≠ l → (t.lease k).map Lease.booked = (s.lease k).map Lease.booked) (p : PortIx) :
    s.liveOn p = t.liveOn p + if x.port = p then 1 else 0 := by
  have on (k : LeaseIx) (apart : k ≠ l) : s.leaseOn k p = t.leaseOn k p := by
    rw [leaseOn_booked, leaseOn_booked, others k apart]
  have before := leaseOn_live live p
  have after := leaseOn_free free p
  split
  next here => exact countIx_one_more (j := l) (by rw [before, decide_eq_true here]) after on
  next away =>
    refine (congrArg countIx (funext fun k => ?_) : s.liveOn p = t.liveOn p)
    by_cases same : k = l
    · rw [same, before, after, decide_eq_false away]
    · exact on k same

theorem retireQuiet_lease (live : s.lease l = some x) (f : Option Frame) : (s.retireQuiet l f).lease l = none :=
  congrArg LeaseSlot.lease (retireQuiet_retired live f)

theorem retireQuiet_liveLeases (live : s.lease l = some x) (f : Option Frame) (p : PortIx) :
    ((s.retireQuiet l f).port p).liveLeases = (s.port p).liveLeases - if x.port = p then 1 else 0 := by
  split
  next here => exact here ▸ congrArg (fun r => r.2.2.1) (retireQuiet_standing live f)
  next away => rw [retireQuiet_port_ne live (Ne.symm away), Nat.sub_zero]

namespace State.LeasesAgree

/-- Two live leases of different slots are not bound to one entry. -/
theorem bound_apart {a b : Peer} (h : s.LeasesAgree) (hx : s.lease l = some x) (hy : s.lease k = some y) (apart : k ≠ l)
    (bookX : x.offer = .bound a) (bookY : y.offer = .bound b) : b.entry ≠ a.entry := by
  obtain ⟨-, -, bound⟩ := h
  intro same
  have named := bound k y b hy bookY
  rw [same, bound l x a hx bookX] at named
  exact apart (Option.some.inj named).symm

theorem retireQuiet {f : Option Frame} (h : s.LeasesAgree) : (s.retireQuiet l f).LeasesAgree := by
  cases live : s.lease l with
  | none => rwa [retireQuiet_free live]
  | some x =>
    obtain ⟨unique, counted, bound⟩ := id h
    have gone := retireQuiet_lease live f
    have others (k : LeaseIx) (apart : k ≠ l) := (retireQuiet_others (s := s) apart f).booked
    have was {k : LeaseIx} {y : Lease} (alive : (s.retireQuiet l f).lease k = some y) :
        k ≠ l ∧ ∃ z, s.lease k = some z ∧ z.booked = y.booked := by
      have apart : k ≠ l := by
        rintro rfl
        exact absurd (gone.symm.trans alive) nofun
      exact ⟨apart, live_of_booked (others k apart) alive⟩
    refine ⟨fun j k y z hj hk tags => ?_, fun p => ?_, fun k y b hk offer => ?_⟩
    · obtain ⟨-, y', hy, bookY⟩ := was hj
      obtain ⟨-, z', hz, bookZ⟩ := was hk
      obtain ⟨tagy, -⟩ := Lease.booked_inj bookY
      obtain ⟨tagz, -⟩ := Lease.booked_inj bookZ
      exact unique j k y' z' hy hz (tagy.trans (tags.trans tagz.symm))
    · obtain ⟨count, few⟩ := counted p
      have counts := retireQuiet_liveLeases live f p
      have leases := liveOn_one_more live gone others p
      omega
    · obtain ⟨apart, y', hy, bookY⟩ := was hk
      obtain ⟨-, -, offers⟩ := Lease.booked_inj bookY
      have own := offers.trans offer
      rw [retireQuiet_ref live f fun a ha => h.bound_apart live hy apart ha own]
      exact bound k y' b hy own

theorem retireLoss {before : State} (h : s.LeasesAgree) : (s.retireLoss before l).LeasesAgree :=
  h.of_touches (retireLoss_touches (by decide) (by decide) (by decide) (by decide) (by decide) (by decide) .rfl')

theorem portLosses {before : State} (h : s.LeasesAgree) : (s.portLosses before p).LeasesAgree :=
  h.of_touches (portLosses_touches (by decide) (by decide) (by decide) (by decide) (by decide) (by decide) .rfl')

theorem retire {f : Option Frame} {m : Option Raise} (h : s.LeasesAgree) : (s.retire l f m).LeasesAgree := by
  unfold State.retire
  dsimp only
  repeat' split
  · exact h
  · exact h.retireQuiet.retireLoss.raiseSome.choose
  · exact h.retireQuiet.retireLoss.raiseSome

theorem retireNotice {v : Int} {m : Option Raise} (h : s.LeasesAgree) : (s.retireNotice l v m).LeasesAgree := h.retire

theorem retireRefuse {r : RefuseReason} {m : Option Raise} (h : s.LeasesAgree) : (s.retireRefuse l r m).LeasesAgree := by
  unfold State.retireRefuse
  split
  · exact h
  · exact h.retire

theorem retirePort (h : s.LeasesAgree) : (s.retirePort p).LeasesAgree :=
  (h.forAll fun _ _ agree => by
    split
    · exact agree.retireQuiet
    · exact agree).portLosses

end State.LeasesAgree
end Sys2Proof.Machine

/-! ### A JOIN that creates a lease enters it in the books (05:R90 to R96) -/
namespace Sys2Proof.Machine
open Sys2Proof

variable {s : State} {l k : LeaseIx} {x y : Lease} {p q : PortIx} {i : RefIx}

theorem lowest_holds {n : Nat} {f : Fin n → Bool} {j : Fin n} (h : lowest f = some j) : f j = true := List.find?_some h

theorem lowest_none {n : Nat} {f : Fin n → Bool} (h : lowest f = none) (j : Fin n) : f j = false :=
  Bool.eq_false_iff.mpr (List.find?_eq_none.mp h j (List.mem_finRange j))

/-! #### The tests of a JOIN -/

theorem tagHolder_none {tag : Tag} (h : s.tagHolder tag = none) (live : s.lease l = some x) : x.tag ≠ tag := by
  have other := lowest_none h l
  simpa only [live, decide_eq_false_iff_not] using other

theorem tagHolder_some {tag : Tag} (h : s.tagHolder tag = some l) : ∃ x, s.lease l = some x ∧ x.tag = tag := by
  have holds := lowest_holds h
  split at holds
  next => cases holds
  next x live => exact ⟨x, live, of_decide_eq_true holds⟩

theorem allocate_free (h : s.allocate = some l) : s.lease l = none := by
  rcases Option.or_eq_some_iff.mp h with first | ⟨-, first⟩
  · exact Option.isNone_iff_eq_none.mp (Bool.and_eq_true_iff.mp (lowest_holds first)).1
  · exact Option.isNone_iff_eq_none.mp (lowest_holds first)

theorem bindable_unbound {a : Peer} (h : s.bindable a = true) : (s.ref a.entry).boundLease = none := by
  unfold State.bindable at h
  simp only [Bool.and_eq_true, Option.isNone_iff_eq_none] at h
  exact h.1.2

theorem freePeer_unbound {a : Peer} (h : s.freePeer = some a) : (s.ref a.entry).boundLease = none := by
  unfold State.freePeer at h
  split at h
  next free =>
    cases h
    exact bindable_unbound free
  next =>
    split at h
    next free =>
      cases h
      exact bindable_unbound free
    next => cases h

theorem newOffer_unbound {body : JoinBody} {e : Admission} {a : Peer} (h : newOffer body e s.freePeer = .bound a) :
    (s.ref a.entry).boundLease = none := by
  unfold newOffer at h
  split at h
  · split at h
    next b free =>
      cases h
      exact freePeer_unbound free
    next => cases h
  · cases h

/-! #### The state after the creation of a lease -/

theorem startInputs_boundLease (i j : RefIx) : ((s.startInputs i).ref j).boundLease = (s.ref j).boundLease := by
  unfold State.startInputs
  split
  · rw [updRef_ref]
    split
    next same => rw [← same]; rfl
    next => rfl
  · rw [(raiseRef_touches (ps := [.slots, .rooms]) (by decide) (by decide) .rfl').ref (by decide), updRef_ref]
    split
    next same => rw [← same]
    next => rfl

theorem bindPeer_boundLease (a : Peer) (l : LeaseIx) (j : RefIx) :
    ((s.bindPeer a l).ref j).boundLease = if a.entry = j then some l else (s.ref j).boundLease := by
  unfold State.bindPeer
  rw [startInputs_boundLease, updRef_ref]
  split <;> rfl

theorem bindOffer_boundLease (l : LeaseIx) (f : Offer) (j : RefIx) (other : ∀ a, f = .bound a → a.entry ≠ j) :
    ((s.bindOffer l f).ref j).boundLease = (s.ref j).boundLease := by
  cases f with
  | none | refused => rfl
  | bound a => exact (bindPeer_boundLease a l j).trans (if_neg (other a rfl))

/-- The slot and the count written, before the offer and the answer. -/
def State.enterLease (s : State) (l : LeaseIx) (x : Lease) : State :=
  ((s.setAlarm (s.alarm.retireLeaseRecords s.siteSec l)).setLeaseSlot l ⟨(s.slot l).rev + 1, some x⟩).updPort x.port fun r =>
    { r with liveLeases := r.liveLeases + 1, rev := r.rev + 1 }

theorem enterLease_slot (s : State) (l k : LeaseIx) (x : Lease) :
    (s.enterLease l x).slot k = if l = k then ⟨(s.slot l).rev + 1, some x⟩ else s.slot k := by
  simp only [State.enterLease, State.updPort, setPort_slot, setLeaseSlot_slot_if, setAlarm_slot]

theorem enterLease_liveLeases (s : State) (l : LeaseIx) (x : Lease) (p : PortIx) :
    ((s.enterLease l x).port p).liveLeases = (s.port p).liveLeases + if x.port = p then 1 else 0 := by
  simp only [State.enterLease, State.updPort, setPort_port_if, setLeaseSlot_port, setAlarm_port]
  split
  next here => rw [here]
  next => rfl

theorem enterLease_ref (s : State) (l : LeaseIx) (x : Lease) (j : RefIx) : (s.enterLease l x).ref j = s.ref j := by
  simp only [State.enterLease, State.updPort, setPort_ref, setLeaseSlot_ref, setAlarm_ref]

theorem createLease_eq (s : State) (l : LeaseIx) (x : Lease) :
    s.createLease l x = ((s.enterLease l x).bindOffer l x.offer).answerCreated l x := rfl

theorem bindOffer_frame (s : State) (l : LeaseIx) (f : Offer) : s.OnlyTouches [.refs, .slots, .rooms] (s.bindOffer l f) :=
  bindOffer_touches (by decide) (by decide) (by decide) .rfl'

theorem answerCreated_frame (s : State) (l : LeaseIx) (x : Lease) : s.OnlyTouches [.ports, .slots, .rooms] (s.answerCreated l x) :=
  answerCreated_touches (by decide) (by decide) (by decide) .rfl'

theorem createLease_slot (s : State) (l k : LeaseIx) (x : Lease) :
    (s.createLease l x).slot k = if l = k then ⟨(s.slot l).rev + 1, some x⟩ else s.slot k := by
  rw [createLease_eq, (answerCreated_frame _ l x).slot (by decide), (bindOffer_frame _ l x.offer).slot (by decide),
    enterLease_slot]

theorem createLease_lease (s : State) (l k : LeaseIx) (x : Lease) :
    (s.createLease l x).lease k = if l = k then some x else s.lease k := by
  unfold State.lease
  rw [createLease_slot]
  split <;> rfl

theorem createLease_liveLeases (s : State) (l : LeaseIx) (x : Lease) (p : PortIx) :
    ((s.createLease l x).port p).liveLeases = (s.port p).liveLeases + if x.port = p then 1 else 0 := by
  rw [createLease_eq, (Port.standing_inj ((answerCreated_frame _ l x).standing (by decide) p)).2.2.1,
    (bindOffer_frame _ l x.offer).port (by decide), enterLease_liveLeases]

theorem createLease_boundLease (s : State) (l : LeaseIx) (x : Lease) (j : RefIx) :
    ((s.createLease l x).ref j).boundLease = (((s.enterLease l x).bindOffer l x.offer).ref j).boundLease := by
  rw [createLease_eq, (answerCreated_frame _ l x).ref (by decide)]

namespace State.LeasesAgree

/-- A new lease in a free slot, of a tag that no live lease holds, on a port with room, its offer's entry unbound before. -/
theorem createLease (free : s.lease l = none) (fresh : ∀ k y, s.lease k = some y → y.tag ≠ x.tag) (room : s.liveOn x.port < 4)
    (unbound : ∀ a, x.offer = .bound a → (s.ref a.entry).boundLease = none) (h : s.LeasesAgree) :
    (s.createLease l x).LeasesAgree := by
  obtain ⟨unique, counted, bound⟩ := id h
  have here : (s.createLease l x).lease l = some x := (createLease_lease s l l x).trans (if_pos rfl)
  have away {k : LeaseIx} (apart : k ≠ l) : (s.createLease l x).lease k = s.lease k :=
    (createLease_lease s l k x).trans (if_neg apart.symm)
  have only {y : Lease} (hy : (s.createLease l x).lease l = some y) : x = y := Option.some.inj (here.symm.trans hy)
  refine ⟨fun j k y z hj hk tags => ?_, fun p => ?_, fun k y a hk offer => ?_⟩
  · by_cases new : j = l <;> by_cases new' : k = l
    · exact new.trans new'.symm
    · subst new
      rw [away new'] at hk
      exact absurd (tags.symm.trans (congrArg Lease.tag (only hj)).symm) (fresh k z hk)
    · subst new'
      rw [away new] at hj
      exact absurd (tags.trans (congrArg Lease.tag (only hk)).symm) (fresh j y hj)
    · exact unique j k y z (away new ▸ hj) (away new' ▸ hk) tags
  · obtain ⟨count, few⟩ := counted p
    have counts := createLease_liveLeases s l x p
    have leases := liveOn_one_more here free (fun k apart => by rw [away apart]) p
    by_cases on : x.port = p
    · rw [if_pos on] at counts leases
      subst on
      omega
    · rw [if_neg on] at counts leases
      omega
  · rw [createLease_boundLease]
    by_cases new : k = l
    · subst new
      obtain rfl := only hk
      rw [offer]
      exact (bindPeer_boundLease a k a.entry).trans (if_pos rfl)
    · rw [away new] at hk
      have named := bound k y a hk offer
      rw [bindOffer_boundLease l x.offer a.entry fun b hb same => ?_, enterLease_ref]
      · exact named
      · rw [← same, unbound b hb] at named
        cases named

theorem refuseJoin {tag : Tag} {r : RefuseReason} (h : s.LeasesAgree) : (s.refuseJoin p tag r).LeasesAgree := h.offer.raise
theorem refuseDuplicate {tag : Tag} (h : s.LeasesAgree) : (s.refuseDuplicate p tag).LeasesAgree := h.offer.raise

theorem joinAdmitted {body : JoinBody} {wanted : Grade} {j : AdmIx} {e : Admission}
    (fresh : ∀ k y, s.lease k = some y → y.tag ≠ body.tag) (h : s.LeasesAgree) :
    (s.joinAdmitted p body wanted j e).LeasesAgree := by
  unfold State.joinAdmitted
  split
  · exact h.refuseJoin.raise
  · split
    · exact h.refuseJoin
    next room =>
      split
      next => exact h
      next l free => exact h.createLease (allocate_free free) fresh (Nat.lt_of_not_le room) fun _ => newOffer_unbound

theorem joinNew {body : JoinBody} {wanted : Grade} (fresh : ∀ k y, s.lease k = some y → y.tag ≠ body.tag)
    (h : s.LeasesAgree) : (s.joinNew p body wanted).LeasesAgree := by
  unfold State.joinNew
  repeat' split
  · exact h.refuseJoin
  · exact h.refuseJoin
  · exact h.refuseJoin
  · exact h.joinAdmitted fresh

/-- A re-join keeps the lease's tag, port and offer (05:R91). -/
theorem rejoinBack {body : JoinBody} {wanted : Grade} (live : s.lease l = some x) (h : s.LeasesAgree) :
    (s.rejoinBack l x body wanted).LeasesAgree := by
  have moved := (h.moveLease_to (y := x.rejoined body (s.rejoinClass x wanted)) live rfl).clearAlarm (a := .delayJump)
    (n := l.val)
  unfold State.rejoinBack
  cases x.state <;> simp only [reduceCtorEq, if_true, if_false]
  case pending | measuring => exact moved.abandonBatch.offer.choose
  case inService => exact moved.leaveService.abandonBatch.offer.sourceLost.choose
  case suspended => exact moved.clearAlarm.abandonBatch.offer.choose

theorem rejoin {body : JoinBody} {wanted : Grade} (live : s.lease l = some x) (h : s.LeasesAgree) :
    (s.rejoin l x body wanted).LeasesAgree := by
  unfold State.rejoin
  split
  · exact h.offer
  · exact h.refuseJoin
  · exact h.rejoinBack live

theorem takeJoin {body : JoinBody} {wanted : Grade} (h : s.LeasesAgree) : (s.takeJoin p body wanted).LeasesAgree := by
  unfold State.takeJoin
  split
  next nobody => exact h.joinNew fun _ _ live => tagHolder_none nobody live
  next l holder =>
    obtain ⟨x, live, -⟩ := tagHolder_some holder
    rw [live]
    dsimp only
    split
    · exact h.rejoin live
    · exact h.refuseDuplicate

theorem joinReceived {body : JoinBody} (h : s.LeasesAgree) : (s.joinReceived p body).LeasesAgree := by
  unfold State.joinReceived
  repeat' split
  · exact h
  · exact h.takeJoin
  · exact h

end State.LeasesAgree
end Sys2Proof.Machine

/-! ### The books through the lease controller and the scanners (05 to 07) -/
namespace Sys2Proof.Machine
open Sys2Proof

namespace State.LeasesAgree

variable {s : State} {l : LeaseIx} {x : Lease} {p : PortIx} {i : RefIx}

/-! #### Suspension (07:R128) -/

theorem suspendFully {cause : SuspendCause} (h : s.LeasesAgree) : (s.suspendFully l cause).LeasesAgree := by
  unfold State.suspendFully
  dsimp only
  repeat' split
  · exact h
  · exact h.suspendCore.sourceLost
  · exact h.suspendCore

theorem suspendMarked {cause : SuspendCause} {before : Rev} (h : s.LeasesAgree) : (s.suspendMarked l cause before).LeasesAgree :=
  h.suspendFully.updLease fun _ => rfl

theorem suspend {cause : SuspendCause} (h : s.LeasesAgree) : (s.suspend l cause).LeasesAgree := by
  unfold State.suspend
  dsimp only
  split
  · exact h.suspendFully.chooseFor
  · exact h.suspendFully

theorem resumeLease (h : s.LeasesAgree) : (s.resumeLease l).LeasesAgree := (h.moveLease (by intro _; rfl)).clearAlarm

/-! #### Outcomes of a batch (06:R106 to R113) -/

theorem enterService {n : Nat} (h : s.LeasesAgree) : (s.enterService l n).LeasesAgree :=
  (h.moveLease (by intro _; rfl)).clearAlarm.of_touches
    (takeStanding_touches (by decide) (by decide) (by decide) (by decide) .rfl')

theorem refine {n : Nat} (live : s.lease l = some x) (h : s.LeasesAgree) : (s.refine l x n).LeasesAgree :=
  h.setLeaseSlot (by rw [live]; rfl)

theorem delayJump (h : s.LeasesAgree) : (s.delayJump l x).LeasesAgree :=
  (h.moveLease (by intro _; rfl)).leaveService.raiseLease.sourceLost

theorem goodBatch {n : Nat} (h : s.LeasesAgree) : (s.goodBatch l n).LeasesAgree := by
  unfold State.goodBatch
  split
  next => exact h
  next x live =>
    repeat' split
    · exact h.refine live
    · exact h.delayJump
    · exact h.enterService

theorem rejectBatch {b : Batch} (h : s.LeasesAgree) : (s.rejectBatch p b).LeasesAgree := by
  have counted := h.moveLease (l := b.lease) (f := fun x => { x with rejected := x.rejected + 1 }) fun _ => rfl
  unfold State.rejectBatch
  dsimp only
  repeat' split
  · exact h
  · exact counted.startBatch
  · exact counted.endBatch.suspendMarked.choose

theorem judge {b : Batch} (h : s.LeasesAgree) : (s.judge p b).LeasesAgree := by
  unfold State.judge
  dsimp only
  split
  · exact h.endBatch.goodBatch.choose
  · exact h.rejectBatch

theorem takeEchoSample {b : Batch} {v : Int} (h : s.LeasesAgree) : (s.takeEchoSample p b v).LeasesAgree := by
  unfold State.takeEchoSample
  dsimp only
  split
  · exact h.nextEcho
  · exact h.judge

theorem takeEchoBack {b : Batch} {t₁ : SiteNs} {mark : BitVec 8} {c : Capture} (h : s.LeasesAgree) :
    (s.takeEchoBack p b t₁ mark c).LeasesAgree := by
  unfold State.takeEchoBack
  repeat' split
  · exact h
  · exact h.takeEchoSample
  · exact h.nextEcho

theorem echoTimeout {b : Batch} (h : s.LeasesAgree) : (s.echoTimeout p b).LeasesAgree := by
  unfold State.echoTimeout
  split
  · exact h.nextEcho
  · exact h.endBatch.suspendMarked.choose

theorem echoTimerExpires (h : s.LeasesAgree) : (s.echoTimerExpires p).LeasesAgree := by
  unfold State.echoTimerExpires
  repeat' split
  · exact h
  · exact h.echoTimeout
  · exact h

theorem echoBack {n : Nat} {c : Capture} (h : s.LeasesAgree) : (s.echoBack p l n c).LeasesAgree := by
  unfold State.echoBack
  repeat' split
  · exact h
  · exact h.echoTimeout
  · exact h.takeEchoBack
  all_goals exact h

/-! #### Credit, deadlines, reports and addressed frames (04:R68 to R70; 05; 07:R123) -/

theorem spendCredit (h : s.LeasesAgree) : (s.spendCredit l).LeasesAgree := by
  have spent {c : Nat} := h.updLease (l := l) (f := fun y => { y with credit := some (c - 1) }) fun _ => rfl
  unfold State.spendCredit
  dsimp only
  repeat' split
  · exact h
  · exact spent.retireNotice
  · exact spent.putNotice
  · exact spent
  · exact h

theorem deadlineExpires (h : s.LeasesAgree) : (s.deadlineExpires l).LeasesAgree := by
  unfold State.deadlineExpires
  repeat' split
  · exact h
  · exact h.retireRefuse
  all_goals exact h

theorem forAddressed {id : Byte} {f : LeaseIx → State → State} (hf : ∀ l, (f l s).LeasesAgree) (h : s.LeasesAgree) :
    (s.forAddressed p id f).LeasesAgree := by
  unfold State.forAddressed
  split
  · exact h
  · exact hf _

theorem takeReport {b : ReportBody} (h : s.LeasesAgree) : (s.takeReport b l).LeasesAgree := by
  unfold State.takeReport
  split
  next => exact h
  next x live =>
    split
    · exact h
    · exact (h.moveLease_to (y := x.reported b) live rfl).reportAlarm

theorem takePeerMark {b : PeerMarkBody} (h : s.LeasesAgree) : (s.takePeerMark b l).LeasesAgree := by
  unfold State.takePeerMark
  repeat' split
  · exact h
  · exact h
  · exact h.peerMarked

theorem deliverReport {m : Bool} (h : s.LeasesAgree) : (s.deliverReport p m).LeasesAgree := by
  unfold State.deliverReport
  split
  next => exact h
  next d _ =>
    have taken := h.updPort (p := p) (f := fun r => { r with reports := r.reports.erase d }) rfl
    cases d with
    | mark => exact taken.spendCredit
    | echo => exact taken.echoDeparted

end State.LeasesAgree
end Sys2Proof.Machine

/-! ### The books through the ports and their lanes (04) -/
namespace Sys2Proof.Machine
open Sys2Proof

theorem Lease.renewed_booked (x : Lease) : x.renewed.booked = x.booked := by
  unfold Lease.renewed
  repeat' split
  all_goals rfl

namespace State.LeasesAgree

variable {s : State} {l : LeaseIx} {x : Lease} {p : PortIx} {i : RefIx}

theorem movePort {st : PortState} (h : s.LeasesAgree) : (s.movePort p st).LeasesAgree := h.updPort rfl

theorem openPort (h : s.LeasesAgree) : (s.openPort p).LeasesAgree := by
  unfold State.openPort
  split
  · exact h.movePort
  · exact h.movePort.raisePort

theorem openAllPorts (h : s.LeasesAgree) : s.openAllPorts.LeasesAgree := h.forAll fun _ _ agree => agree.openPort.choose

/-! #### Conflict, reopening and closing (04:R79 to R81) -/

theorem conflictLease (h : s.LeasesAgree) : (s.conflictLease l x).LeasesAgree := by
  unfold State.conflictLease
  split
  · exact h.retireRefuse
  · exact h.suspendMarked
  · exact h.suspendMarked
  · exact (h.moveLease (by intro _; rfl)).raiseLease

theorem conflictLeases (h : s.LeasesAgree) : (s.conflictLeases p).LeasesAgree :=
  h.clearPending.forAll fun _ _ agree => by
    repeat' split
    · exact agree
    · exact agree.conflictLease
    · exact agree

theorem hubFrame (h : s.LeasesAgree) : (s.hubFrame p).LeasesAgree := by
  unfold State.hubFrame
  split
  · exact h.movePort.silencePort.conflictLeases.raisePort
  · exact h

theorem resumeLeases (h : s.LeasesAgree) :
    (Machine.forAll (fun l t => if t.leaseOn l p then t.resumeLease l else t) s).LeasesAgree :=
  h.forAll fun _ _ agree => by
    split
    · exact agree.resumeLease
    · exact agree

theorem reopenConflict (h : s.LeasesAgree) : (s.reopenConflict p).LeasesAgree := by
  unfold State.reopenConflict
  split
  · exact h.movePort.resumeLeases.clearAlarm.choose
  · exact h.movePort.retirePort.clearAlarm.raisePort

theorem closePort (h : s.LeasesAgree) : (s.closePort p).LeasesAgree := by
  unfold State.closePort
  dsimp only
  split
  · exact h.movePort.silencePort.retirePort.clearAlarm.clearAlarm
  · exact h.movePort.retirePort.clearAlarm.clearAlarm

/-! #### Symbols heard (04:R67, R77, R78) -/

theorem lockGained (h : s.LeasesAgree) : (s.lockGained p).LeasesAgree := by
  have linked := h.updPort (p := p) (f := fun r => r.setLink true) rfl
  unfold State.lockGained
  dsimp only
  split
  · exact linked.movePort.clearAlarm.choose
  · exact linked

theorem lockLost (h : s.LeasesAgree) : (s.lockLost p).LeasesAgree := by
  have unlinked := h.updPort (p := p) (f := fun r => r.setLink false) rfl
  unfold State.lockLost
  dsimp only
  split
  · exact unlinked.movePort.silencePort.retirePort.raisePort
  · exact unlinked

theorem deliver {c : Capture} {f : LaneFrame} (h : s.LeasesAgree) : (s.deliver p c f).LeasesAgree := by
  unfold State.deliver
  split
  · exact h.joinReceived
  · exact h.forAddressed fun _ => h.updLease Lease.renewed_booked
  · exact h.forAddressed fun _ => h.retireNotice
  · split
    · exact h.forAddressed fun _ => h.takeReport
    · exact h
  · split
    · exact h.forAddressed fun _ => h.takePeerMark
    · exact h
  · split
    · exact h.forAddressed fun _ => h.echoBack
    · exact h
  · exact h.hubFrame

theorem actLane {e : LaneEvent} (h : s.LeasesAgree) : (s.actLane p e).LeasesAgree := by
  cases e with
  | quiet => exact h
  | gained => exact h.lockGained
  | lost => exact h.lockLost
  | frame f c => exact h.deliver

theorem hear {capture : Nat → Capture} {xs : List RxSymbol} (h : s.LeasesAgree) : (State.hear p capture xs s).LeasesAgree := by
  induction xs generalizing s with
  | nil => exact h
  | cons x xs ih => exact ih h.setLane.actLane

/-! #### Boundary symbols and the boundary (04:R70 to R72, 01:R3) -/

theorem emitSymbol {e : SymbolEntry} (h : s.LeasesAgree) : (s.emitSymbol p e).LeasesAgree := by
  have emitted := h.updPort (p := p)
    (f := fun r => { r with schedule := r.schedule.erase e, tx := some ⟨.symbol e.lease, s.clock.osc + Config.symbolNs⟩ }) rfl
  have noted := emitted.updLease (l := e.lease) (f := fun y => { y with symbol := some ⟨e.seconds, e.step⟩ }) fun _ => rfl
  unfold State.emitSymbol
  dsimp only
  repeat' split
  · exact emitted
  · exact noted.firstSymbol
  · exact noted

theorem symbolDue (h : s.LeasesAgree) : (s.symbolDue p).LeasesAgree := by
  unfold State.symbolDue
  repeat' split
  · exact h
  · exact h.emitSymbol
  · exact h

theorem boundaryIfDue (h : s.LeasesAgree) : s.boundaryIfDue.LeasesAgree := by
  unfold State.boundaryIfDue State.reachSecond
  split
  · exact h.updTb.queueMarks.scheduleSymbols.checkConsistency
  · exact h

end State.LeasesAgree
end Sys2Proof.Machine

/-! ### The books through the requests of the management port (10) -/
namespace Sys2Proof.Machine
open Sys2Proof

/-- No named field of a reference entry is its binding (02:R26). -/
theorem putReference_boundLease {i : RefIx} {e e' : RefEntry} {f : Field} (h : putReference i e f = some e') :
    e'.boundLease = e.boundLease := by
  unfold putReference at h
  split at h
  case h_9 => cases h
  case h_1 | h_2 | h_6 | h_7 =>
    obtain ⟨v, -, rfl⟩ := Option.map_eq_some_iff.mp h
    rfl
  case h_3 | h_4 | h_5 =>
    obtain ⟨v, -, rfl⟩ := Option.map_eq_some_iff.mp (Option.ite_none_right_eq_some.mp h).2
    rfl
  case h_8 =>
    obtain ⟨v, -, rfl⟩ := Option.map_eq_some_iff.mp (Option.ite_none_left_eq_some.mp h).2
    rfl

/-- No named field of a port is its count of leases (04:R75). -/
theorem putPort_liveLeases {r r' : Port} {f : Field} (h : putPort r f = some r') : r'.liveLeases = r.liveLeases := by
  unfold putPort at h
  split at h
  case h_4 => cases h
  all_goals
    obtain ⟨v, -, rfl⟩ := Option.map_eq_some_iff.mp h
    rfl

namespace State.LeasesAgree

variable {s : State} {l : LeaseIx} {y : Lease} {p : PortIx} {i : RefIx} {x : Executing}

/-- The state after reset keeps the law (10:R177). -/
theorem reset : State.reset.LeasesAgree := by
  obtain ⟨-, -, -, -, -, -, leases, -⟩ := reachableInvariantsHoldAtReset
  exact leases

theorem restarted : s.restarted.LeasesAgree := reset.of_same rfl rfl rfl

/-! #### Answers and checks (10:R166 to R169) -/

theorem reply {f : State → Answer} (h : s.LeasesAgree) : (s.reply f).LeasesAgree := h.settle.setMgmt
theorem refuse {code : AnswerCode} (h : s.LeasesAgree) : (s.refuse x code).LeasesAgree := h.reply
theorem doneForm {a : Table} {k : Nat} {form : Byte} (h : s.LeasesAgree) : (s.doneForm x a k form).LeasesAgree := h.reply
theorem done {a : Table} {k : Nat} (h : s.LeasesAgree) : (s.done x a k).LeasesAgree := h.reply
theorem doneSlot {a : Table} {k : Nat} (h : s.LeasesAgree) : (s.doneSlot x a k).LeasesAgree := h.reply
theorem doneStatus (h : s.LeasesAgree) : (s.doneStatus x).LeasesAgree := h.reply
theorem showMiso {bs : List Byte} {n : Nat} (h : s.LeasesAgree) : (s.showMiso bs n).LeasesAgree := h.setMgmt

theorem statusPoll {first : Byte} {n : Nat} (h : s.LeasesAgree) : (s.statusPoll first n).LeasesAgree := by
  unfold State.statusPoll
  split
  · exact h
  · exact h.showMiso

theorem takeRequest (h : s.LeasesAgree) : (s.takeRequest x).LeasesAgree := by
  unfold State.takeRequest
  dsimp only
  split
  · exact h.showMiso.setMgmt
  · exact h.showMiso

theorem carryRequest {stage : Stage} {act : Executing → State → State}
    (hact : ∀ u : State, u.LeasesAgree → (act x u).LeasesAgree) (h : s.LeasesAgree) : (s.carryRequest x stage act).LeasesAgree := by
  cases stage
  case taken => exact h.takeRequest
  case acts =>
    unfold State.carryRequest State.actRequest
    dsimp only
    split
    · exact hact s h
    · exact h
  case whole =>
    unfold State.carryRequest
    dsimp only
    split
    · exact hact _ h.takeRequest
    · exact h.takeRequest

theorem checked {f : State → State} (h : s.LeasesAgree) (hf : (f s).LeasesAgree) : (s.checked x f).LeasesAgree := by
  unfold State.checked
  split_ifs
  · exact h.refuse
  · exact hf
  · exact h.refuse

theorem atRecord {a : Table} {fenced : Bool} {f : Nat → State → State} (hf : ∀ n, (f n s).LeasesAgree) (h : s.LeasesAgree) :
    (s.atRecord x a fenced f).LeasesAgree := by
  unfold State.atRecord
  repeat' split
  · exact h.refuse
  · exact h.refuse
  · exact hf _
  · exact h.refuse

theorem atIx {n m : Nat} {f : Fin n → State → State} (hf : ∀ j, (f j s).LeasesAgree) (h : s.LeasesAgree) :
    (s.atIx n m f).LeasesAgree := by
  unfold State.atIx
  split
  · exact h
  · exact hf _

theorem atLease {m : Nat} {f : LeaseIx → Lease → State → State} (hf : ∀ l y, s.lease l = some y → (f l y s).LeasesAgree)
    (h : s.LeasesAgree) : (s.atLease m f).LeasesAgree := h.atIx fun l => by
  split
  next => exact h
  next y live => exact hf l y live

theorem changing {a : Table} {apply : Nat → State → State} (hf : ∀ n, (apply n s).LeasesAgree) (h : s.LeasesAgree) :
    (s.changing x a apply).LeasesAgree :=
  h.checked <| atRecord (fun n => by
    unfold State.changeAt
    split
    · exact h.done
    · exact hf n) h

/-! #### CHANGE and CREATE -/

theorem timebaseChanged {fs : List Field} (h : s.LeasesAgree) : (s.timebaseChanged fs).LeasesAgree := by
  have tabled : (if namedSome fs [14, 15, 16, 17] then s.deriveClass.tableMoved else s).LeasesAgree := by
    split
    · exact h.deriveClass.tableMoved
    · exact h
  unfold State.timebaseChanged
  dsimp only
  split
  · exact tabled.reworkRestore
  · exact tabled

theorem applyTimebase (h : s.LeasesAgree) : (s.applyTimebase x).LeasesAgree := by
  unfold State.applyTimebase
  split
  · exact h.refuse
  · split_ifs
    · exact h.refuse
    · exact h.refuse
    · exact h.setTb.timebaseChanged.done

theorem enabledChanged {was : Bool} (h : s.LeasesAgree) : (s.enabledChanged i was).LeasesAgree := by
  unfold State.enabledChanged
  repeat' split
  · exact h.startInputs
  · exact h
  · exact h.disableRef.announceLeft
  · exact h.disableRef
  all_goals exact h

theorem targetChanged (h : s.LeasesAgree) : (s.targetChanged i).LeasesAgree := by
  unfold State.targetChanged
  dsimp only
  split
  · exact h.updRef rfl
  · split_ifs
    · exact h
    · exact h.updRef rfl
    · exact h.becomeUsable
  all_goals exact h

theorem rankChanged (h : s.LeasesAgree) : (s.rankChanged i).LeasesAgree := by
  unfold State.rankChanged
  split_ifs
  · exact h.loseSelected
  · exact h.selectEntry.reworkRestore
  · exact h.reworkRestore
  · exact h

theorem referenceChanged {was : Bool} {fs : List Field} (h : s.LeasesAgree) : (s.referenceChanged i was fs).LeasesAgree := by
  have edge : (if named fs 6 then s.updRef i fun e => e.edgeChanged s.clock.osc else s).LeasesAgree := by
    split
    · exact h.updRef rfl
    · exact h
  have enabled {t : State} (ht : t.LeasesAgree) : (if named fs 2 then t.enabledChanged i was else t).LeasesAgree := by
    split
    · exact ht.enabledChanged
    · exact ht
  have target {t : State} (ht : t.LeasesAgree) : (if named fs 7 then t.targetChanged i else t).LeasesAgree := by
    split
    · exact ht.targetChanged
    · exact ht
  unfold State.referenceChanged
  dsimp only
  split
  · exact (target (enabled edge)).rankChanged
  · exact target (enabled edge)

theorem applyReference (h : s.LeasesAgree) : (s.applyReference x i).LeasesAgree := by
  unfold State.applyReference
  split
  next => exact h.refuse
  next e put =>
    have same : e.boundLease = (s.ref i).boundLease :=
      putFields_keeps (P := fun e => e.boundLease = (s.ref i).boundLease)
        (fun _ _ _ put kept => (putReference_boundLease put).trans kept) put rfl
    have entered := h.setRef (e := { e with rev := e.rev + 1 }) same
    split
    · exact h.refuse
    · exact entered.referenceChanged.done

theorem applyAdmission {j : AdmIx} (h : s.LeasesAgree) : (s.applyAdmission x j).LeasesAgree := by
  unfold State.applyAdmission
  split
  · exact h.refuse
  · exact h.setAdmission.done

theorem createAt {j : AdmIx} (h : s.LeasesAgree) : (s.createAt x j).LeasesAgree := by
  unfold State.createAt
  repeat' split
  · exact h.refuse
  · exact h.refuse
  · exact h.setAdmission.done

theorem standingChanged {z : Lease} (h : s.LeasesAgree) : (s.standingChanged l y z).LeasesAgree := by
  unfold State.standingChanged
  dsimp only
  split
  · exact h.putNotice.raiseLease
  · exact h.putNotice.clearAlarm
  · exact h

theorem editLease (live : s.lease l = some y) (h : s.LeasesAgree) : (s.editLease x l y).LeasesAgree := by
  unfold State.editLease
  split
  next => exact h.refuse
  next e _ =>
    split
    · exact (h.moveLease_to (y := y.edited e) live rfl).standingChanged.done
    · exact h.refuse

theorem applyPort (h : s.LeasesAgree) : (s.applyPort x p).LeasesAgree := by
  unfold State.applyPort
  split
  next => exact h.refuse
  next r put =>
    have same : r.liveLeases = (s.port p).liveLeases :=
      putFields_keeps (P := fun r => r.liveLeases = (s.port p).liveLeases)
        (fun _ _ _ put kept => (putPort_liveLeases put).trans kept) put rfl
    exact (h.setPort (r := { r with rev := r.rev + 1 }) same).done

theorem applyOutput {j : OutIx} (h : s.LeasesAgree) : (s.applyOutput x j).LeasesAgree := by
  unfold State.applyOutput State.outputChanged
  dsimp only
  repeat' split
  · exact h.refuse
  · exact h.setOut.moveOutput.updOut.done
  · exact h.setOut.moveOutput.done
  · exact h.refuse

theorem applyKind {j : Fin 20} (h : s.LeasesAgree) : (s.applyKind x j).LeasesAgree := by
  unfold State.applyKind
  split
  · exact h.refuse
  · exact h.setAlarm.done

theorem applyUnit (h : s.LeasesAgree) : (s.applyUnit x).LeasesAgree := by
  unfold State.applyUnit
  split
  · exact h.refuse
  · exact h.setAlarm.done

theorem applyLine {j : LineIx} (h : s.LeasesAgree) : (s.applyLine x j).LeasesAgree := by
  unfold State.applyLine
  repeat' split
  · exact h.refuse
  · exact h.setAlarm.done
  · exact h.refuse

/-! #### The named commands -/

theorem approve (h : s.LeasesAgree) : (s.approve l y).LeasesAgree := (h.moveLease (by intro _; rfl)).clearAlarm.offer.choose

theorem ackAt {j : SlotIx} {r : AlarmRecord} (h : s.LeasesAgree) : (s.ackAt x j r).LeasesAgree := by
  unfold State.ackAt
  split
  · exact h.refuse
  · exact h.setAlarm.doneForm
  · exact h.setAlarm.doneSlot

theorem clearLockout (h : s.LeasesAgree) : (s.clearLockout x i).LeasesAgree := by
  unfold State.clearLockout
  dsimp only
  split_ifs
  · exact (h.clearAlarm.updRef (i := i) (f := fun e => { e with faultScore := 0 }) rfl).startInputs.done
  · exact (h.updRef rfl).done
  · exact h.refuse

theorem forceEntry (h : s.LeasesAgree) : (s.forceEntry i).LeasesAgree := by
  unfold State.forceEntry
  dsimp only
  split
  · exact h.updTb.storeRestore
  · exact h.updTb.selectEntry.storeRestore

theorem reopen (h : s.LeasesAgree) : (s.reopen x p).LeasesAgree := by
  unfold State.reopen
  split
  · exact h.reopenConflict.done
  · exact h.openPort.choose.done
  all_goals exact h.refuse

theorem closeAt (h : s.LeasesAgree) : (s.closeAt x p).LeasesAgree := by
  unfold State.closeAt
  split
  · exact h.done
  · exact h.closePort.done

theorem closeSetup (h : s.LeasesAgree) : s.closeSetup.LeasesAgree := by
  unfold State.closeSetup
  dsimp only
  split
  · exact h.setMgmt.raiseFreeRun.openAllPorts
  · exact h.setMgmt.openAllPorts

end State.LeasesAgree
end Sys2Proof.Machine

/-! ### Every step keeps the books (05:R90, R92, R95) -/
namespace Sys2Proof.Machine
open Sys2Proof

variable {s t : State}

/-- An outcome whose state, if it leads to one, keeps the law of the leases. -/
def LeasesAgreeIn (o : Host.Outcome State Fault Refusal) : Prop := ∀ t, o = .next t → t.LeasesAgree

theorem leasesAgreeIn_next (h : t.LeasesAgree) : LeasesAgreeIn (.next t) := fun _ same => by cases same; exact h

namespace State.LeasesAgree

theorem event {dt : Nat} {f : State → State} (hf : ∀ u : State, u.LeasesAgree → (f u).LeasesAgree) (h : s.LeasesAgree) :
    LeasesAgreeIn (event dt f s) := by
  refine leasesAgreeIn_next ?_
  split
  · exact h
  · exact (hf _ h.elapse).settle

theorem laneEvent {dt : Nat} {p : PortIx} {xs : List RxSymbol} (h : s.LeasesAgree) : LeasesAgreeIn (laneEvent dt p xs s) :=
  h.event fun _ agree => agree.hear

theorem frameEvent {dt : Nat} {lane : Lane} {f : LaneFrame} (h : s.LeasesAgree) : LeasesAgreeIn (frameEvent dt lane f s) :=
  h.laneEvent

theorem request {dt : Nat} {x : Executing} {stage : Stage} {act : Executing → State → State}
    (hact : ∀ u : State, u.LeasesAgree → (act x u).LeasesAgree) (h : s.LeasesAgree) :
    LeasesAgreeIn (request dt x stage act s) := h.event fun _ agree => agree.carryRequest hact

/-! #### What each request does (10:R170 to R176) -/

variable {x : Executing}

theorem actUnknown (h : s.LeasesAgree) : (actUnknown x s).LeasesAgree := h.refuse

theorem actLook {k : Table} (h : s.LeasesAgree) : (actLook k x s).LeasesAgree :=
  h.checked <| atRecord (fun _ => h.doneForm) h

theorem actNext {k : Table} (h : s.LeasesAgree) : (actNext k x s).LeasesAgree :=
  h.checked <| by
    split
    · exact h.refuse
    · exact h.doneForm

theorem actChangeTimebase (h : s.LeasesAgree) : (actChangeTimebase x s).LeasesAgree := changing (fun _ => h.applyTimebase) h

theorem actChangeReference (h : s.LeasesAgree) : (actChangeReference x s).LeasesAgree :=
  changing (fun _ => atIx (fun _ => h.applyReference) h) h

theorem actChangeAdmission (h : s.LeasesAgree) : (actChangeAdmission x s).LeasesAgree :=
  changing (fun _ => atIx (fun _ => h.applyAdmission) h) h

theorem actChangeLease (h : s.LeasesAgree) : (actChangeLease x s).LeasesAgree :=
  changing (fun _ => atLease (fun _ _ live => h.editLease live) h) h

theorem actChangePort (h : s.LeasesAgree) : (actChangePort x s).LeasesAgree :=
  changing (fun _ => atIx (fun _ => h.applyPort) h) h

theorem actChangeOutput (h : s.LeasesAgree) : (actChangeOutput x s).LeasesAgree :=
  changing (fun _ => atIx (fun _ => h.applyOutput) h) h

theorem actChangeAlarmKind (h : s.LeasesAgree) : (actChangeAlarmKind x s).LeasesAgree :=
  changing (fun _ => atIx (fun _ => h.applyKind) h) h

theorem actChangeAlarmUnit (h : s.LeasesAgree) : (actChangeAlarmUnit x s).LeasesAgree := changing (fun _ => h.applyUnit) h

theorem actChangeAlarmLine (h : s.LeasesAgree) : (actChangeAlarmLine x s).LeasesAgree :=
  changing (fun _ => atIx (fun _ => h.applyLine) h) h

theorem actCreate (h : s.LeasesAgree) : (actCreate x s).LeasesAgree :=
  h.checked <| by
    split
    · exact h.refuse
    · exact atIx (fun _ => h.createAt) h

theorem actRetireAdmission (h : s.LeasesAgree) : (actRetireAdmission x s).LeasesAgree :=
  h.checked <| atRecord (fun _ => atIx (fun _ => h.setAdmission.doneSlot) h) h

theorem actRetireLease (h : s.LeasesAgree) : (actRetireLease x s).LeasesAgree :=
  h.checked <| atRecord (fun _ => atIx (fun _ => h.retireNotice.doneSlot) h) h

theorem actApprove (h : s.LeasesAgree) : (actApprove x s).LeasesAgree :=
  h.checked <| atRecord (fun _ => atLease (fun _ _ _ => by
    split
    · exact h.approve.done
    · exact h.refuse) h) h

theorem actDeny (h : s.LeasesAgree) : (actDeny x s).LeasesAgree :=
  h.checked <| atRecord (fun _ => atLease (fun _ _ _ => by
    split
    · exact h.retireRefuse.doneSlot
    · exact h.refuse) h) h

theorem actSuspend (h : s.LeasesAgree) : (actSuspend x s).LeasesAgree :=
  h.checked <| atRecord (fun _ => atLease (fun _ _ _ => by
    split
    · exact h.suspend.done
    · exact h.refuse) h) h

theorem actResume (h : s.LeasesAgree) : (actResume x s).LeasesAgree :=
  h.checked <| atRecord (fun _ => atLease (fun _ _ _ => by
    split
    · exact h.resumeLease.choose.done
    · exact h.refuse) h) h

theorem actMeasure (h : s.LeasesAgree) : (actMeasure x s).LeasesAgree :=
  h.checked <| atRecord (fun _ => atLease (fun _ _ _ => by
    split_ifs
    · exact h.refuse
    · exact h.refuse
    · exact h.updScanner.choose.done) h) h

theorem actAck (h : s.LeasesAgree) : (actAck x s).LeasesAgree :=
  h.checked <| atRecord (fun _ => atIx (fun _ => by
    split
    · exact h
    · exact h.ackAt) h) h

theorem actAckAll (h : s.LeasesAgree) : (actAckAll x s).LeasesAgree := h.checked h.setAlarm.reply

theorem actClearLockout (h : s.LeasesAgree) : (actClearLockout x s).LeasesAgree :=
  h.checked <| atRecord (fun _ => atIx (fun _ => h.clearLockout) h) h

theorem actForce (h : s.LeasesAgree) : (actForce x s).LeasesAgree :=
  h.checked <| atRecord (fun _ => atIx (fun _ => by
    split
    · exact h.forceEntry.done
    · exact h.refuse) h) h

theorem actRelease (h : s.LeasesAgree) : (actRelease x s).LeasesAgree :=
  h.checked <| by
    split
    · exact h.updTb.reworkRestore.done
    · exact h.refuse

theorem actReopen (h : s.LeasesAgree) : (actReopen x s).LeasesAgree :=
  h.checked <| atRecord (fun _ => atIx (fun _ => by
    split
    · exact h.reopen
    · exact h.refuse) h) h

theorem actClose (h : s.LeasesAgree) : (actClose x s).LeasesAgree :=
  h.checked <| atRecord (fun _ => atIx (fun _ => by
    split
    · exact h.closeAt
    · exact h.refuse) h) h

theorem actCloseSetup (h : s.LeasesAgree) : (actCloseSetup x s).LeasesAgree :=
  h.checked <| by
    split
    · exact h.refuse
    · exact h.closeSetup.doneStatus

theorem actRestart (h : s.LeasesAgree) : (actRestart x s).LeasesAgree := h.checked restarted.setMgmt

theorem actStatus (h : s.LeasesAgree) : (actStatus x s).LeasesAgree := h.checked h.doneStatus

/-- Every command keeps the law. -/
theorem of_exec (i : Instr) (h : s.LeasesAgree) : LeasesAgreeIn (exec i s) := by
  cases i
  case resetN => exact leasesAgreeIn_next ((restarted (s := s)).of_same rfl rfl rfl)
  case resetNRelease dt =>
    rw [exec_resetNRelease]
    refine leasesAgreeIn_next ?_
    split
    · exact restarted
    · exact h.elapse.settle
  case runSecond => rw [exec_runSecond]; exact h.event fun _ agree => agree.runSecondIfDue
  case siteSecondBoundary => rw [exec_siteSecondBoundary]; exact h.event fun _ agree => agree.boundaryIfDue
  case referenceEdge => rw [exec_referenceEdge]; exact h.event fun _ agree => agree.pulseEdge
  case labelFrame => rw [exec_labelFrame]; exact h.event fun _ agree => agree.labelFrame
  case linePulse => rw [exec_linePulse]; exact h.event fun _ agree => agree.linePulse
  case assistMeasurement => rw [exec_assistMeasurement]; exact h.event fun _ agree => agree.deliverMeasurement
  case timebaseSample => rw [exec_timebaseSample]; exact h.event fun _ agree => agree.deliverSample
  case missingSampleTimerExpiry => rw [exec_missingSampleTimerExpiry]; exact h.event fun _ agree => agree.missingExpires
  case holdOffExpiry => rw [exec_holdOffExpiry]; exact h.event fun _ agree => agree.holdOffExpires
  case faultScoreDecay => rw [exec_faultScoreDecay]; exact h.event fun _ agree => agree.scoreDecays
  case revertiveSwitch => rw [exec_revertiveSwitch]; exact h.event fun _ agree => agree.switchIfDue
  case laneLockGained | laneLockLost => exact h.laneEvent
  case join | renew | leave | report | peerMark | echoBack | hubFrameReceived => exact h.frameEvent
  case frameDeparture => rw [exec_frameDeparture]; exact h.event fun _ agree => agree.frameDeparts
  case markDeparture => rw [exec_markDeparture]; exact h.event fun _ agree => agree.deliverReport
  case echoDeparture => rw [exec_echoDeparture]; exact h.event fun _ agree => agree.deliverReport
  case echoTimerExpiry => rw [exec_echoTimerExpiry]; exact h.event fun _ agree => agree.echoTimerExpires
  case boundarySymbolEmission => rw [exec_boundarySymbolEmission]; exact h.event fun _ agree => agree.symbolDue
  case routineBatchDue => rw [exec_routineBatchDue]; exact h.event fun _ agree => agree.routineFallsDue
  case approvalDeadlineExpiry => rw [exec_approvalDeadlineExpiry]; exact h.event fun _ agree => agree.deadlineExpires
  case outputRisingEdge => rw [exec_outputRisingEdge]; exact h.event fun _ agree => agree.updOut
  case outputFall => rw [exec_outputFall]; exact h.event fun _ agree => agree.updOut
  case roomAnnouncement => rw [exec_roomAnnouncement]; exact h.event fun _ agree => agree.takeRoom
  case statusPoll => rw [exec_statusPoll]; exact h.event fun _ agree => agree.statusPoll
  case answerTransaction => rw [exec_answerTransaction]; exact h.event fun _ agree => agree.showMiso.setMgmt
  case unknownRequest =>
    rw [exec_unknownRequest]
    split
    · exact h.event fun _ agree => agree
    · exact h.request fun _ agree => agree.actUnknown
  case look => exact h.request fun _ agree => agree.actLook
  case next => exact h.request fun _ agree => agree.actNext
  case changeTimebase => exact h.request fun _ agree => agree.actChangeTimebase
  case changeReference => exact h.request fun _ agree => agree.actChangeReference
  case changeAdmission => exact h.request fun _ agree => agree.actChangeAdmission
  case changeLease => exact h.request fun _ agree => agree.actChangeLease
  case changePort => exact h.request fun _ agree => agree.actChangePort
  case changeOutput => exact h.request fun _ agree => agree.actChangeOutput
  case changeAlarmKind => exact h.request fun _ agree => agree.actChangeAlarmKind
  case changeAlarmUnit => exact h.request fun _ agree => agree.actChangeAlarmUnit
  case changeAlarmLine => exact h.request fun _ agree => agree.actChangeAlarmLine
  case create => exact h.request fun _ agree => agree.actCreate
  case retireAdmission => exact h.request fun _ agree => agree.actRetireAdmission
  case retireLease => exact h.request fun _ agree => agree.actRetireLease
  case approve => exact h.request fun _ agree => agree.actApprove
  case deny => exact h.request fun _ agree => agree.actDeny
  case suspend => exact h.request fun _ agree => agree.actSuspend
  case resume => exact h.request fun _ agree => agree.actResume
  case measure => exact h.request fun _ agree => agree.actMeasure
  case ack => exact h.request fun _ agree => agree.actAck
  case ackAll => exact h.request fun _ agree => agree.actAckAll
  case clearLockout => exact h.request fun _ agree => agree.actClearLockout
  case force => exact h.request fun _ agree => agree.actForce
  case release => exact h.request fun _ agree => agree.actRelease
  case reopen => exact h.request fun _ agree => agree.actReopen
  case close => exact h.request fun _ agree => agree.actClose
  case closeSetup => exact h.request fun _ agree => agree.actCloseSetup
  case restart => exact h.request fun _ agree => agree.actRestart
  case status => exact h.request fun _ agree => agree.actStatus

end State.LeasesAgree

/-- Settles O58: no step breaks the law. Every operation that keeps the tags, ports and offers of the live leases, the ports'
counts and the bindings keeps it (`State.SameBooks`); a retirement strikes one lease and its count from the books, and a JOIN
that passes its tests adds one. -/
theorem leasesAgreeAfterEveryStep : Obligations.LeasesAgreeAfterEveryStep := by
  unfold Obligations.LeasesAgreeAfterEveryStep
  intro s t agree next
  unfold step at next
  split at next
  next =>
    cases next
    exact agree
  next i rest _ =>
    have popped : (s.withPending rest).LeasesAgree := agree.of_same rfl rfl rfl
    exact popped.of_exec i t next

end Sys2Proof.Machine

/-! ### Admission entries in index order (05:R89, R92) -/
namespace Sys2Proof.Machine
open Sys2Proof

variable {s t u : State} {l k : LeaseIx} {x y : Lease} {p : PortIx} {i : AdmIx} {a : Admission} {tag : Tag}

/-! #### What an entry admits -/

theorem masked_eq_iff (tag value mask : Tag) :
    (tag ^^^ value) &&& mask = 0 ↔ ∀ n, n < 32 → mask.getLsbD n = true → tag.getLsbD n = value.getLsbD n := by
  constructor
  · intro same n _ set
    have bit := congrArg (·.getLsbD n) same
    simpa [set] using bit
  · intro agree
    refine BitVec.eq_of_getLsbD_eq fun n low => ?_
    cases set : mask.getLsbD n with
    | false => simp [set]
    | true => simp [agree n low set]

theorem admits_iff : a.admits tag p = true ↔
    (∀ n, n < 32 → a.tagMask.getLsbD n = true → tag.getLsbD n = a.tagValue.getLsbD n) ∧ a.ports.getLsbD p.val = true := by
  unfold Admission.admits
  rw [Bool.and_eq_true, decide_eq_true_iff, masked_eq_iff]

/-! #### The first entry that matches -/

theorem lowest_eq_some_iff {n : Nat} {f : Fin n → Bool} {j : Fin n} :
    lowest f = some j ↔ f j = true ∧ ∀ i, i < j → f i = false := by
  unfold lowest
  rw [← Fin.find?_eq_find?_finRange, Fin.find?_eq_some_iff]

theorem lowest_eq_none_iff {n : Nat} {f : Fin n → Bool} : lowest f = none ↔ ∀ j, f j = false :=
  ⟨lowest_none, lowest_eq_none⟩

/-- Entry `i` is live and admits the tag on the port. -/
def State.Admitted (s : State) (tag : Tag) (p : PortIx) (i : AdmIx) : Prop :=
  ∃ a, (s.admissionSlot i).entry = some a ∧ a.admits tag p = true

theorem matching_eq (s : State) (tag : Tag) (p : PortIx) :
    s.matching tag p = lowest fun i => (s.admissionSlot i).entry.any fun a => a.admits tag p := by
  unfold State.matching
  congr
  funext i
  cases (s.admissionSlot i).entry <;> rfl

theorem entry_admits_iff : ((s.admissionSlot i).entry.any fun a => a.admits tag p) = true ↔ s.Admitted tag p i := by
  unfold State.Admitted
  cases (s.admissionSlot i).entry <;> simp

theorem entry_admits_not : ((s.admissionSlot i).entry.any fun a => a.admits tag p) = false ↔ ¬ s.Admitted tag p i := by
  rw [← entry_admits_iff, Bool.not_eq_true]

theorem matching_eq_some_iff : s.matching tag p = some i ↔ s.Admitted tag p i ∧ ∀ j, j < i → ¬ s.Admitted tag p j := by
  rw [matching_eq, lowest_eq_some_iff]
  simp only [entry_admits_iff, entry_admits_not]

theorem matching_eq_none_iff : s.matching tag p = none ↔ ∀ i, ¬ s.Admitted tag p i := by
  rw [matching_eq, lowest_eq_none_iff]
  simp only [entry_admits_not]

/-! #### The lease a JOIN creates -/

theorem refuseJoin_slot (s : State) (p : PortIx) (tag : Tag) (r : RefuseReason) (k : LeaseIx) :
    (s.refuseJoin p tag r).slot k = s.slot k :=
  (refuseJoin_touches (ps := [.ports, .slots, .rooms]) (by simp) (by simp) (by simp) .rfl').slot (by simp) k

/-- A JOIN whose tag no live lease holds moves no lease slot, or it creates a lease with the entry that it matched. -/
theorem joinNew_cases (s : State) (p : PortIx) (body : JoinBody) (wanted : Grade) :
    (∀ k, (s.joinNew p body wanted).slot k = s.slot k) ∨
      ∃ l x, s.matching body.tag p = some x.admission ∧ s.joinNew p body wanted = s.createLease l x := by
  unfold State.joinNew
  split
  next => exact .inl (refuseJoin_slot s p _ _)
  next i first =>
    split
    next => exact .inl (refuseJoin_slot s p _ _)
    next a _ =>
      split
      · exact .inl (refuseJoin_slot s p _ _)
      · unfold State.joinAdmitted
        split
        · exact .inl (refuseJoin_slot s p body.tag .full)
        · split
          · exact .inl (refuseJoin_slot s p _ _)
          · split
            next => exact .inl fun _ => rfl
            next l _ => exact .inr ⟨l, _, first, rfl⟩

/-- The same of a JOIN as received. -/
theorem joinReceived_cases {body : JoinBody} (nobody : s.tagHolder body.tag = none) (p : PortIx) :
    (∀ k, (s.joinReceived p body).slot k = s.slot k) ∨
      ∃ l x, s.matching body.tag p = some x.admission ∧ s.joinReceived p body = s.createLease l x := by
  unfold State.joinReceived State.takeJoin
  rw [nobody]
  split
  · exact .inl fun _ => rfl
  · split
    · exact joinNew_cases s p body _
    · exact .inl fun _ => rfl

/-- With no live lease of the tag before, a lease of the tag after its JOIN was admitted by the entry that the JOIN matched. -/
theorem joinReceived_admitted {body : JoinBody} (fresh : ∀ k x, s.lease k = some x → x.tag ≠ body.tag)
    (live : (s.joinReceived p body).lease l = some y) (same : y.tag = body.tag) :
    s.matching body.tag p = some y.admission := by
  have nobody : s.tagHolder body.tag = none := lowest_eq_none fun k => by
    cases held : s.lease k with
    | none => rfl
    | some x => exact decide_eq_false (fresh k x held)
  rcases joinReceived_cases nobody p with still | ⟨k, x, first, created⟩
  · exact absurd same (fresh l y ((congrArg LeaseSlot.lease (still l)).symm.trans live))
  · rw [created, createLease_lease] at live
    split at live
    next =>
      cases live
      exact first
    next => exact absurd same (fresh l y live)

/-- Settles O6: an entry admits by masked bits and port set, the first live entry that admits is the match, and the JOIN that
creates a lease stores that entry's index in it. -/
theorem joinIsMatchedInIndexOrder : Obligations.JoinIsMatchedInIndexOrder := by
  unfold Obligations.JoinIsMatchedInIndexOrder
  refine ⟨fun _ _ _ => admits_iff, fun _ _ _ => ⟨fun _ => matching_eq_some_iff, matching_eq_none_iff⟩, ?_⟩
  intro s u dt p heard body frame fresh
  have ran := (exec_join (s := s) dt ⟨p, heard⟩ body).trans (frameEvent_at frame rfl)
  exact ⟨_, ran, fun l y live same => joinReceived_admitted fresh live same⟩

end Sys2Proof.Machine

/-! ### Admission slots through their requests (05:R85, R86; 10:R171 to R174) -/
namespace Sys2Proof.Machine
open Sys2Proof

variable {s u : State} {dt : Nat} {x : Executing} {stage : Stage} {act : Executing → State → State} {i : AdmIx}
  {e : Option Admission}

/-- A request that acts and ends in a DONE without a record: the state is what the command's work leaves of the state at the
instant, the management port and the pins apart. -/
theorem request_doneSlot {work : State → State} {tab : Table} {k : Nat} {ps : List Part} (h : s.At dt u)
    (acts : s.RequestActs x stage) (hmgmt : Part.mgmt ∈ ps) (hpins : Part.pins ∈ ps)
    (frame : ∀ m, m.setup = u.mgmt.setup → u.OnlyTouches ps (work (u.setMgmt m)))
    (ends : ∀ m, m.setup = u.mgmt.setup → act x (u.setMgmt m) = (work (u.setMgmt m)).doneSlot x tab k) :
    ∃ m t, request dt x stage act s = .next t ∧ u.OnlyTouches ps t ∧ t.AnsweredSlot x.kind tab k x.req.group ∧
      (work (u.setMgmt m)).OnlyTouches [.mgmt, .pins] t := by
  obtain ⟨-, rfl⟩ := h
  obtain ⟨m, setup, -, ran⟩ := request_acts (act := act) dt acts
  rw [ends m setup, doneSlot_settle] at ran
  exact ⟨m, _, ran, doneSlot_touches hmgmt hpins (frame m setup), doneSlot_answered _ x tab k,
    doneSlot_touches (by simp) (by simp) .rfl'⟩

/-! #### The checks of a request that names an admission entry (10:R169) -/

theorem recordAt_admission (s : State) (i : AdmIx) : s.recordAt .admission i.val = (s.admissionSlot i).entry.isSome := by
  simp [State.recordAt, State.recordFields, toIx]

theorem slotRevision_admission (s : State) (i : AdmIx) : s.slotRevision .admission i.val = (s.admissionSlot i).rev := by
  simp [State.slotRevision, toIx]

theorem keyNamed_admission (named : x.req.NamesIndex i.val) : s.keyNamed .admission x.req = some i.val :=
  keyNamed_index named (by simp [tableKeys])

/-! #### A slot moved -/

theorem moveAdmission_slot (s : State) (i : AdmIx) (e : Option Admission) :
    (s.moveAdmission i e).admissionSlot i = ⟨(s.admissionSlot i).rev + 1, e⟩ := setAdmission_admissionSlot ..

theorem moveAdmission_slot_ne {j : AdmIx} (apart : j ≠ i) (s : State) (e : Option Admission) :
    (s.moveAdmission i e).admissionSlot j = s.admissionSlot j := setAdmission_admissionSlot_ne s apart.symm _

theorem moveAdmission_frame {m : Mgmt} (setup : m.setup = u.mgmt.setup) (i : AdmIx) (e : Option Admission) :
    u.OnlyTouches [.mgmt, .admission, .pins] ((u.setMgmt m).moveAdmission i e) :=
  setAdmission_touches (by simp) <| setMgmt_touches (by simp) setup .rfl'

/-- The state in which slot `i` alone has moved, to `e`. -/
def State.AdmissionMoved (s : State) (i : AdmIx) (e : Option Admission) (t : State) : Prop :=
  t.admissionSlot i = ⟨(s.admissionSlot i).rev + 1, e⟩ ∧ ∀ j, j ≠ i → t.admissionSlot j = s.admissionSlot j

theorem admissionMoved {m : Mgmt} {t : State} (left : ((u.setMgmt m).moveAdmission i e).OnlyTouches [.mgmt, .pins] t) :
    u.AdmissionMoved i e t :=
  ⟨(left.admissionSlot (by simp) i).trans (moveAdmission_slot ..),
    fun j apart => (left.admissionSlot (by simp) j).trans (moveAdmission_slot_ne apart ..)⟩

/-! #### RETIRE (10:R174) -/

/-- What RETIRE does to the named slot: a free slot, a stale revision, or the slot freed. -/
theorem actRetireAdmission_index (named : x.req.NamesIndex i.val) (known : requestKnown x.kind x.table x.req = true) :
    actRetireAdmission x s =
      if (s.admissionSlot i).entry.isSome then
        if x.req.revision = (s.admissionSlot i).rev then (s.moveAdmission i none).doneSlot x .admission i.val
        else s.refuse x .stale
      else s.refuse x .noSuch := by
  obtain ⟨-, -, count, -⟩ := id named
  have key : s.keyNamed .admission x.req = some i.val := keyNamed_admission named
  have record := recordAt_admission s i
  have revision := slotRevision_admission s i
  unfold actRetireAdmission
  rw [checked_pass known count]
  split
  next live =>
    split
    next fresh => rw [atRecord_pass key (record.trans live) fun _ => fresh.trans revision.symm, atIx_fin]
    next other => exact atRecord_stale key (record.trans live) (by rwa [revision])
  next free => exact atRecord_free key (record.trans (Bool.eq_false_iff.mpr free))

/-- Settles O44: the three outcomes of RETIRE are the three branches of the checks. -/
theorem retireAdmissionFreesTheSlot : Obligations.RetireAdmissionFreesTheSlot := by
  unfold Obligations.RetireAdmissionFreesTheSlot
  intro s u dt req stage i h named acts
  have outcome (m : Mgmt) := actRetireAdmission_index (s := u.setMgmt m) (x := ⟨0x05, 0x03, req⟩) named
    (requestKnown_index named rfl rfl)
  rw [exec_retireAdmission]
  refine ⟨fun free => ?_, fun live other => ?_, fun live fresh => ?_⟩
  · exact request_refused h acts fun m _ => (outcome m).trans (if_neg (by simp [free]))
  · exact request_refused h acts fun m _ => (outcome m).trans ((if_pos live).trans (if_neg other))
  · obtain ⟨m, t, ran, frame, answered, left⟩ := request_doneSlot (act := actRetireAdmission)
      (work := fun v => v.moveAdmission i none) (ps := [.mgmt, .admission, .pins]) (tab := .admission) (k := i.val) h acts
      (by simp) (by simp) (fun m setup => moveAdmission_frame setup i none)
      (fun m _ => (outcome m).trans ((if_pos live).trans (if_pos fresh)))
    exact ⟨t, ran, frame, answered, admissionMoved left⟩

end Sys2Proof.Machine

/-! ### CREATE and CHANGE of an admission entry (05:R85, R86; 10:R171 to R173) -/
namespace Sys2Proof.Machine
open Sys2Proof

variable {s u : State} {dt : Nat} {x : Executing} {stage : Stage} {act : Executing → State → State} {i : AdmIx}
  {a b : Admission} {fs : List Field}

/-! #### The fields of an entry (05:R85) -/

/-- The values of an entry within their ranges (05:R85). -/
def Admission.InRange (a : Admission) : Prop :=
  a.ports ≠ 0 ∧ 1 ≤ a.grantedCredit ∧ a.grantedCredit ≤ 255 ∧ 1 ≤ a.approvalWait ∧ a.approvalWait ≤ 255

/-- The four fields that CREATE requires, with the entry's values. -/
def Admission.requiredFields (a : Admission) : List Field :=
  [⟨1, a.tagValue⟩, ⟨2, a.tagMask⟩, ⟨3, a.ports.setWidth 32⟩, ⟨4, BitVec.ofNat 32 a.decision.code⟩]

/-- The four fields that have a default, with the entry's values. -/
def Admission.otherFields (a : Admission) : List Field :=
  [⟨5, BitVec.ofNat 32 a.bestClass.code⟩, ⟨6, BitVec.ofNat 32 a.grantedCredit⟩, ⟨7, if a.offerAllowed then 1 else 0⟩,
    ⟨8, BitVec.ofNat 32 a.approvalWait⟩]

theorem within_ports {id : Byte} {ports : BitVec 8} (nonempty : ports ≠ 0) :
    within 1 255 ⟨id, ports.setWidth 32⟩ = some ports.toNat := by
  have value : (ports.setWidth 32).toNat = ports.toNat := by
    rw [BitVec.toNat_setWidth]
    exact Nat.mod_eq_of_lt (by omega)
  have low : 1 ≤ ports.toNat := Nat.one_le_iff_ne_zero.mpr fun none => nonempty (BitVec.eq_of_toNat_eq none)
  have high : ports.toNat ≤ 255 := Nat.le_of_lt_succ ports.isLt
  unfold within
  simp [value, low, high]

theorem putAdmission_ports (nonempty : a.ports ≠ 0) :
    putAdmission b ⟨3, a.ports.setWidth 32⟩ = some { b with ports := a.ports } := by
  have put : putAdmission b ⟨3, a.ports.setWidth 32⟩ = some { b with ports := BitVec.ofNat 8 a.ports.toNat } :=
    congrArg (Option.map _) (within_ports nonempty)
  rw [put, BitVec.ofNat_toNat, BitVec.setWidth_eq]

theorem putAdmission_decision (d : Decision) :
    putAdmission b ⟨4, BitVec.ofNat 32 d.code⟩ = some { b with decision := d } := by cases d <;> rfl

theorem putAdmission_bestClass (g : Grade) :
    putAdmission b ⟨5, BitVec.ofNat 32 g.code⟩ = some { b with bestClass := g } := by cases g <;> rfl

/-- The required fields give the entry's first four values. -/
theorem foldlM_requiredFields (range : a.InRange) (b : Admission) : a.requiredFields.foldlM putAdmission b =
    some { b with tagValue := a.tagValue, tagMask := a.tagMask, ports := a.ports, decision := a.decision } := by
  obtain ⟨ports, -⟩ := range
  have one (b : Admission) : putAdmission b ⟨1, a.tagValue⟩ = some { b with tagValue := a.tagValue } := rfl
  have two (b : Admission) : putAdmission b ⟨2, a.tagMask⟩ = some { b with tagMask := a.tagMask } := rfl
  simp only [Admission.requiredFields, List.foldlM_cons, List.foldlM_nil, one, two, putAdmission_ports ports,
    putAdmission_decision, Option.bind_eq_bind, Option.bind_some, Option.pure_def]

/-- The other fields give the entry's last four values. -/
theorem foldlM_otherFields (range : a.InRange) (b : Admission) : a.otherFields.foldlM putAdmission b =
    some { b with bestClass := a.bestClass, grantedCredit := a.grantedCredit, offerAllowed := a.offerAllowed,
                  approvalWait := a.approvalWait } := by
  obtain ⟨-, creditLow, creditHigh, waitLow, waitHigh⟩ := range
  have six (b : Admission) : putAdmission b ⟨6, BitVec.ofNat 32 a.grantedCredit⟩ =
      some { b with grantedCredit := a.grantedCredit } :=
    congrArg (Option.map _) (within_ofNat creditLow creditHigh (by decide))
  have seven (b : Admission) : putAdmission b ⟨7, if a.offerAllowed then 1 else 0⟩ =
      some { b with offerAllowed := a.offerAllowed } :=
    congrArg (Option.map _) (yesNo_bool a.offerAllowed)
  have eight (b : Admission) : putAdmission b ⟨8, BitVec.ofNat 32 a.approvalWait⟩ =
      some { b with approvalWait := a.approvalWait } :=
    congrArg (Option.map _) (within_ofNat waitLow waitHigh (by decide))
  simp only [Admission.otherFields, List.foldlM_cons, List.foldlM_nil, putAdmission_bestClass, six, seven, eight,
    Option.bind_eq_bind, Option.bind_some, Option.pure_def]

/-- All eight fields give the entry, whatever stood in the slot. -/
theorem putFields_whole (range : a.InRange) (b : Admission) :
    putFields putAdmission b (a.requiredFields ++ a.otherFields) = some a := by
  rw [putFields_once (by simp [Admission.requiredFields, Admission.otherFields]), List.foldlM_append,
    foldlM_requiredFields range]
  exact foldlM_otherFields range _

theorem createdEntry_whole (range : a.InRange) : createdEntry (a.requiredFields ++ a.otherFields) = some a :=
  (if_pos rfl).trans (putFields_whole range _)

/-- The required fields alone leave the other values at their defaults (05:R86). -/
theorem createdEntry_required (range : a.InRange) : createdEntry a.requiredFields =
    some { a with bestClass := .a, grantedCredit := 60, offerAllowed := false, approvalWait := 10 } := by
  refine (if_pos rfl).trans ?_
  rw [putFields_once (by simp [Admission.requiredFields]), foldlM_requiredFields range]
  rfl

theorem createdEntry_lacking {k : Nat} (required : k ∈ [1, 2, 3, 4]) (lacks : ∀ f ∈ fs, f.id.toNat ≠ k) :
    createdEntry fs = none := by
  have unnamed : named fs k = false := by simpa [named] using lacks
  refine if_neg fun all => ?_
  exact absurd (List.all_eq_true.mp all k required) (by simp [unnamed])

/-! #### The two requests -/

theorem actCreate_index (named : x.req.NamesIndex i.val) (known : requestKnown x.kind x.table x.req = true) :
    actCreate x s = s.createAt x i := by
  obtain ⟨-, -, count, -⟩ := id named
  unfold actCreate
  rw [checked_pass known count, keyNamed_admission named]
  exact atIx_fin i _

theorem createAt_live (live : (s.admissionSlot i).entry.isSome) : s.createAt x i = s.refuse x .wrongState := if_pos live

theorem createAt_free (free : (s.admissionSlot i).entry = none) (made : createdEntry x.req.fields = some b) :
    s.createAt x i = (s.moveAdmission i (some b)).done x .admission i.val := by
  unfold State.createAt
  rw [if_neg (by simp [free]), made]

theorem createAt_lacking (free : (s.admissionSlot i).entry = none) (made : createdEntry x.req.fields = none) :
    s.createAt x i = s.refuse x .badField := by
  unfold State.createAt
  rw [if_neg (by simp [free]), made]

theorem actChangeAdmission_index (named : x.req.NamesIndex i.val) (known : requestKnown x.kind x.table x.req = true)
    (live : (s.admissionSlot i).entry = some b) (fresh : x.req.revision = (s.admissionSlot i).rev) (asked : x.req.fields ≠ [])
    (put : putFields putAdmission b x.req.fields = some a) :
    actChangeAdmission x s = (s.moveAdmission i (some a)).done x .admission i.val := by
  unfold actChangeAdmission
  rw [changing_pass named known (by simp [tableKeys]) ((recordAt_admission s i).trans (by simp [live]))
    (fresh.trans (slotRevision_admission s i).symm) asked, atIx_fin]
  unfold State.applyAdmission
  rw [live, Option.bind_some, put]

/-- A request that moves slot `i` to `b` and answers with its record. -/
theorem request_movesAdmission (h : s.At dt u) (acts : s.RequestActs x stage)
    (ends : ∀ m : Mgmt, act x (u.setMgmt m) = ((u.setMgmt m).moveAdmission i (some b)).done x .admission i.val) :
    ∃ t, request dt x stage act s = .next t ∧ u.OnlyTouches [.mgmt, .admission, .pins] t ∧
      t.AnsweredDone x.kind .admission i.val x.req.group ∧ u.AdmissionMoved i (some b) t := by
  obtain ⟨m, t, ran, frame, answered, left⟩ := request_done (act := act) (work := fun v => v.moveAdmission i (some b))
    (ps := [.mgmt, .admission, .pins]) (tab := .admission) (k := i.val) h acts (by decide) (by simp) (by simp)
    (fun m setup => moveAdmission_frame setup i (some b)) (fun m _ => ends m)
  exact ⟨t, ran, frame, answered, admissionMoved left⟩

/-- Settles O45: the named fields put into the defaults, or into the live entry, and the slot moved to what they give. -/
theorem createAndChangeAdmission : Obligations.CreateAndChangeAdmission := by
  unfold Obligations.CreateAndChangeAdmission
  intro s u dt req stage i a h named
  refine ⟨fun acts => ?_, fun acts live fresh range fields => ?_⟩
  · have asked (m : Mgmt) := actCreate_index (s := u.setMgmt m) (x := ⟨0x04, 0x03, req⟩) named
      (requestKnown_index named rfl rfl)
    refine ⟨fun live => ?_, fun free range fields => ?_, fun free range fields => ?_, fun free lacking => ?_⟩
    · exact request_refused h acts fun m _ => (asked m).trans (createAt_live live)
    · have made : createdEntry req.fields = some a := fields ▸ createdEntry_whole range
      exact request_movesAdmission h acts fun m => (asked m).trans (createAt_free free made)
    · have made := (congrArg createdEntry fields).trans (createdEntry_required range)
      exact request_movesAdmission h acts fun m => (asked m).trans (createAt_free free made)
    · obtain ⟨k, required, lacks⟩ := lacking
      exact request_refused h acts fun m _ => (asked m).trans (createAt_lacking free (createdEntry_lacking required lacks))
  · obtain ⟨b, entry⟩ := Option.isSome_iff_exists.mp live
    have put : putFields putAdmission b req.fields = some a := fields ▸ putFields_whole range b
    exact request_movesAdmission h acts fun m =>
      actChangeAdmission_index named (requestKnown_change named rfl) entry fresh (by simp [fields]) put

end Sys2Proof.Machine

/-! ### The checks of a request, in order (10:R168 to R171, R174; 07:R135) -/
namespace Sys2Proof.Machine
open Sys2Proof

variable {s u : State} {dt : Nat} {x : Executing} {stage : Stage} {act : Executing → State → State} {i : Instr} {tab : Table}
  {k : Nat} {l : LeaseIx}

/-! #### The first check -/

theorem checked_unknown {rest : State → State} (unknown : requestKnown x.kind x.table x.req = false) :
    s.checked x rest = s.refuse x .unknownRequest := if_neg (by simp [unknown])

/-! #### The fourth check of a SUSPEND (07:R135) -/

theorem metSuspension_iff : s.metSuspension x l = true ↔ s.SuspensionMet l s.mgmt.takenAt x.req.revision := by
  constructor
  · intro met
    unfold State.metSuspension at met
    split at met
    next => cases met
    next m marked =>
      obtain ⟨y, live, mark⟩ := Option.bind_eq_some_iff.mp marked
      simp only [Bool.and_eq_true, decide_eq_true_eq, leaseIn_iff live] at met
      obtain ⟨⟨⟨state, before⟩, after⟩, taken⟩ := met
      exact ⟨y, m, live, state, mark, before.symm, after.symm, taken⟩
  · rintro ⟨y, m, live, state, mark, before, after, taken⟩
    unfold State.metSuspension
    rw [live]
    simp [mark, (leaseIn_iff live).mpr state, before, after, taken]

/-- A SUSPEND of a lease whose suspension it did not meet is fenced. -/
theorem suspendFenced_unmet (key : s.keyNamed .lease x.req = some k)
    (unmet : ∀ l : LeaseIx, k = l.val → ¬ s.SuspensionMet l s.mgmt.takenAt x.req.revision) : s.suspendFenced x = true := by
  unfold State.suspendFenced
  rw [key, Option.bind_some]
  split
  next => rfl
  next l index =>
    have same : k = l.val := by
      unfold toIx at index
      split at index
      · cases index; rfl
      · cases index
    rw [Bool.eq_false_iff.mpr fun met => unmet l same (metSuspension_iff.mp met)]
    rfl

/-- The fourth check is made of the request: its kind carries a revision, and it is no SUSPEND that is spared (07:R135). -/
def State.fences (s : State) (x : Executing) : Bool :=
  decide (x.kind ∈ [0x03, 0x05, 0x06, 0x07, 0x08, 0x09, 0x0B]) && (x.kind != 0x08 || s.suspendFenced x)

theorem fences_eq_true (known : requestKnown x.kind x.table x.req = true) (table : Table.ofCode x.table.toNat = some tab)
    (key : s.keyNamed tab x.req = some k) (carries : x.kind ∈ [0x03, 0x05, 0x06, 0x07, 0x08, 0x09, 0x0B])
    (unmet : ∀ l : LeaseIx, x.kind = 0x08 → k = l.val → ¬ s.SuspensionMet l s.mgmt.takenAt x.req.revision) :
    s.fences x = true := by
  unfold State.fences
  rw [decide_eq_true carries, Bool.true_and]
  by_cases suspends : x.kind = 0x08
  · have lease : tab = .lease := by
      unfold requestKnown at known
      simp only [suspends, table, Bool.and_eq_true] at known
      obtain ⟨⟨taken, -⟩, -⟩ := known
      exact of_decide_eq_true taken
    rw [suspendFenced_unmet (lease ▸ key) fun l => unmet l suspends, Bool.or_true]
  · rw [bne_iff_ne.mpr suspends, Bool.true_or]

/-! #### What each request does after the first two checks -/

/-- How request `x` goes on after the first two checks: to the third and the fourth on the record it names, or, where its kind
takes no key, is NEXT or CREATE, or the request is unknown, in a way of its own. -/
inductive Executing.GoesOn (x : Executing) : (State → State) → Prop
  | named (tab : Table) (own : Nat → State → State) (table : Table.ofCode x.table.toNat = some tab) :
      x.GoesOn fun v => v.atRecord x tab (v.fences x) own
  | keyless (rest : State → State) (kind : keyless x.kind = true) : x.GoesOn rest
  | next (rest : State → State) (kind : x.kind = 0x02) : x.GoesOn rest
  | create (rest : State → State) (kind : x.kind = 0x04) : x.GoesOn rest
  | unknown (rest : State → State) (unknown : requestKnown x.kind x.table x.req = false) : x.GoesOn rest

/-- The request `x` acts by `act`: through the first two checks, and then as its kind goes on. -/
def Executing.ChecksFirst (x : Executing) (act : Executing → State → State) : Prop :=
  ∃ rest, x.GoesOn rest ∧ ∀ v, act x v = v.checked x rest

theorem checksFirst_named {own : Nat → State → State} (table : Table.ofCode x.table.toNat = some tab)
    (opens : ∀ v, act x v = v.checked x fun w => w.atRecord x tab (w.fences x) own) : x.ChecksFirst act :=
  ⟨_, .named tab own table, opens⟩

theorem checksFirst_keyless {rest : State → State} (kind : keyless x.kind = true) (opens : ∀ v, act x v = v.checked x rest) :
    x.ChecksFirst act := ⟨rest, .keyless rest kind, opens⟩

theorem asRequest_unknownRequest {d : Nat} {kind table : Byte} {req : Request} {st : Stage}
    (carried : (Instr.unknownRequest d kind table req st).asRequest = some (dt, x, stage)) :
    requestKnown kind table req = false ∧ (d, ⟨kind, table, req⟩, st) = (dt, x, stage) := by
  have spelled : (if requestKnown kind table req then none else some (d, (⟨kind, table, req⟩ : Executing), st)) =
      some (dt, x, stage) := carried
  simpa using spelled

/-- Every command that carries a request runs it through the checks of 10:R169 in their order. -/
theorem exec_checksFirst (i : Instr) (carried : i.asRequest = some (dt, x, stage)) :
    ∃ act, x.ChecksFirst act ∧ ∀ s, exec i s = request dt x stage act s := by
  cases i
  case unknownRequest =>
    obtain ⟨unknown, same⟩ := asRequest_unknownRequest carried
    cases same
    exact ⟨actUnknown, ⟨id, .unknown id unknown, fun _ => (checked_unknown unknown).symm⟩,
      fun _ => (exec_unknownRequest ..).trans (if_neg (by simp [unknown]))⟩
  case look =>
    cases carried
    exact ⟨_, checksFirst_named (Laws.Fits.ofCode_code _) fun _ => rfl, fun _ => exec_look ..⟩
  case next => cases carried; exact ⟨_, ⟨_, .next _ rfl, fun _ => rfl⟩, fun _ => exec_next ..⟩
  case create => cases carried; exact ⟨_, ⟨_, .create _ rfl, fun _ => rfl⟩, fun _ => exec_create ..⟩
  case ackAll | release | closeSetup | restart | status =>
    cases carried
    exact ⟨_, checksFirst_keyless rfl fun _ => rfl, fun _ => rfl⟩
  case changeTimebase | changeReference | changeAdmission | changeLease | changePort | changeOutput | changeAlarmKind |
      changeAlarmUnit | changeAlarmLine | retireAdmission | retireLease | approve | deny | suspend | resume | measure | ack |
      clearLockout | force | reopen | close =>
    cases carried
    exact ⟨_, checksFirst_named rfl fun _ => rfl, fun _ => rfl⟩
  -- The other commands carry no request.
  all_goals nomatch carried

/-- A known request with at most 12 fields, of a kind that names a record, acts on the record its key names. -/
theorem Executing.ChecksFirst.atRecord (checks : x.ChecksFirst act) (known : requestKnown x.kind x.table x.req = true)
    (count : x.req.count.toNat ≤ 12) (keyed : keyless x.kind = false) (next : x.kind ≠ 0x02) (create : x.kind ≠ 0x04)
    (table : Table.ofCode x.table.toNat = some tab) : ∃ own, ∀ v, act x v = v.atRecord x tab (v.fences x) own := by
  obtain ⟨rest, goes, opens⟩ := checks
  cases goes with
  | named other own code =>
    cases table.symm.trans code
    exact ⟨own, fun v => (opens v).trans (checked_pass known count)⟩
  | keyless _ kind => exact absurd (kind.symm.trans keyed) nofun
  | next _ kind => exact absurd kind next
  | create _ kind => exact absurd kind create
  | unknown _ unknown => exact absurd (unknown.symm.trans known) nofun

/-- A request that acts and fails the fourth check is answered with the revision of the record. -/
theorem request_stale {own : Nat → State → State} (h : s.At dt u) (acts : s.RequestActs x stage)
    (opens : ∀ v, act x v = v.atRecord x tab (v.fences x) own) (known : requestKnown x.kind x.table x.req = true)
    (keyed : keyless x.kind = false) (table : Table.ofCode x.table.toNat = some tab) (key : u.keyNamed tab x.req = some k)
    (record : u.recordAt tab k = true) (carries : x.kind ∈ [0x03, 0x05, 0x06, 0x07, 0x08, 0x09, 0x0B])
    (other : x.req.revision ≠ u.slotRevision tab k)
    (unmet : ∀ l : LeaseIx, x.kind = 0x08 → k = l.val → ¬ u.SuspensionMet l (u.requestTaken stage) x.req.revision) :
    ∃ t, request dt x stage act s = .next t ∧ u.OnlyTouches [.mgmt, .pins] t ∧
      t.AnsweredRefusal x .stale (u.slotRevision tab k) := by
  obtain ⟨m, setup, taken, ran⟩ := request_at (act := act) h acts
  have fenced : (u.setMgmt m).fences x = true := fences_eq_true known table key carries fun l suspends same met =>
    unmet l suspends same (taken ▸ met)
  rw [opens, fenced, atRecord_stale (s := u.setMgmt m) key record other, refuse_settle] at ran
  have revision : (u.setMgmt m).refusalRevision x .stale = u.slotRevision tab k := stale_refusalRevision table keyed key record
  exact ⟨_, ran, refuse_touches (by simp) (by simp) (setMgmt_frame setup), revision ▸ refuse_answered ..⟩

/-- Settles O8: every request runs through the checks in their order, and each check that fails is the answer. -/
theorem checksAreMadeInOrder : Obligations.ChecksAreMadeInOrder := by
  unfold Obligations.ChecksAreMadeInOrder
  intro s u i dt x stage h carried acts
  obtain ⟨act, checks, ran⟩ := exec_checksFirst i carried
  obtain ⟨rest, -, opens⟩ := id checks
  simp only [ran]
  refine ⟨fun unknown => ?_, fun known many => ?_, fun tab known count keyed next create table => ?_⟩
  · exact request_refused h acts fun m _ => (opens _).trans (checked_unknown unknown)
  · exact request_refused h acts fun m _ => (opens _).trans (checked_count known many)
  · obtain ⟨own, opens⟩ := checks.atRecord known count keyed next create table
    refine ⟨fun key => ?_, fun k key free => ?_, fun k key record carries other unmet => ?_⟩
    · exact request_refused h acts fun m _ => (opens _).trans (atRecord_none key)
    · exact request_refused h acts fun m _ => (opens _).trans (atRecord_free key free)
    · exact request_stale h acts opens known keyed table key record carries other unmet

end Sys2Proof.Machine

/-! ### RENEW (07:R124) -/
namespace Sys2Proof.Machine
open Sys2Proof

variable {s : State} {l : LeaseIx} {x : Lease} {id : Byte}

/-! #### The lease after a RENEW -/

/-- A SUSPENDED or IN-SERVICE lease that has spent credit has it restored. -/
theorem Lease.renewed_spent (serving : x.state = .inService ∨ x.state = .suspended)
    (spent : x.credit ≠ creditOf x.grantedCredit) : x.renewed = { x with
      credit := creditOf x.grantedCredit
      notice := x.notice.filter fun n => n.kind ≠ .renewDue } := by
  unfold renewed
  rw [if_pos (by simpa using serving), if_neg spent]

/-- Before service, and with nothing spent, a RENEW leaves the lease as it is. -/
theorem Lease.renewed_idle (idle : x.state = .pending ∨ x.state = .measuring ∨ x.credit = creditOf x.grantedCredit) :
    x.renewed = x := by
  unfold renewed
  rcases idle with pending | measuring | whole
  · rw [pending]
    rfl
  · rw [measuring]
    rfl
  · rw [if_pos whole, ite_self]

/-! #### Its delivery (04:R69) -/

theorem deliver_renew (s : State) (p : PortIx) (c : Capture) (id : Byte) :
    s.deliver p c (.renew id) = s.forAddressed p id fun l v => v.updLease l Lease.renewed := rfl

theorem deliver_renew_live {c : Capture} (named : id.toNat = l.val) (live : s.lease l = some x)
    (opened : (s.port x.port).state = .opened) : s.deliver x.port c (.renew id) = s.updLease l Lease.renewed :=
  (deliver_renew ..).trans (forAddressed_live named live opened)

theorem updLease_fixed {f : Lease → Lease} (live : s.lease l = some x) (fixed : f x = x) : s.updLease l f = s := by
  have held : (s.slot l).lease = some x := live
  have same : (⟨(s.slot l).rev, (s.slot l).lease.map f⟩ : LeaseSlot) = s.slot l := by
    rw [held, Option.map_some, fixed, ← held]
  unfold State.updLease
  rw [same]
  simp [State.setLeaseSlot, State.slot]

/-- Settles O39: the lease that the frame names is renewed, is left as it is, or there is none. -/
theorem renewRestoresTheCredit : Obligations.RenewRestoresTheCredit := by
  unfold Obligations.RenewRestoresTheCredit
  intro s u dt p heard lease h
  rw [exec_renew]
  refine ⟨?_, fun discards => frameEvent_idle h rfl fun _ => (deliver_renew ..).trans (forAddressed_none discards)⟩
  rintro l x named live rfl opened granted
  refine ⟨fun serving spent => ?_, fun idle => ?_⟩
  · have ran := frameEvent_at h rfl
    rw [deliver_renew_live named live opened] at ran
    refine ⟨_, ran, ?_, fun k apart => ?_, ?_⟩
    · exact settle_touches (by simp) <| updLease_touches (by simp) (.inl (by simp)) .rfl'
    · rw [settle_slot, updLease_slot, if_neg apart.symm]
    · have held : (u.slot l).lease = some x := live
      rw [settle_slot, updLease_slot, if_pos rfl, held, Option.map_some, Lease.renewed_spent serving spent]
      rfl
  · exact frameEvent_idle h rfl fun _ =>
      (deliver_renew_live named live opened).trans (updLease_fixed live (Lease.renewed_idle idle))

end Sys2Proof.Machine

/-! ### CHANGE of a lease (07:R137; 10:R173) -/
namespace Sys2Proof.Machine
open Sys2Proof

variable {s : State} {p : PortIx} {l k : LeaseIx} {x : Executing} {y z : Lease} {e : LeaseEdit} {required : Grade}
  {granted : Nat} {credit : Option Nat}

/-! #### The named fields (07:R117, R137) -/

theorem foldlM_refused {α : Type} {put : α → Field → Option α} {f : Field} (refused : ∀ r, put r f = none) :
    ∀ {fs : List Field}, f ∈ fs → ∀ r, fs.foldlM put r = none
  | g :: fs, here, r => by
    rw [List.foldlM_cons]
    rcases List.mem_cons.mp here with rfl | later
    · rw [refused]
      rfl
    · cases put r g with
      | none => rfl
      | some r' => exact foldlM_refused refused later r'

/-- A field that no record takes refuses its list. -/
theorem putFields_refused {α : Type} {put : α → Field → Option α} {f : Field} {fs : List Field}
    (refused : ∀ r, put r f = none) (here : f ∈ fs) (r : α) : putFields put r fs = none := by
  unfold putFields
  rw [foldlM_refused refused here, ite_self]

theorem putLease_other {f : Field} (other : f.id.toNat ≠ 4 ∧ f.id.toNat ≠ 5 ∧ f.id.toNat ≠ 25) (e : LeaseEdit) :
    putLease e f = none := by
  obtain ⟨four, five, twentyFive⟩ := other
  unfold putLease
  split
  next same => exact absurd same four
  next same => exact absurd same five
  next same => exact absurd same twentyFive
  next => rfl

theorem putLease_required (e : LeaseEdit) (g : Grade) :
    putLease e ⟨4, BitVec.ofNat 32 g.code⟩ = some { e with required := some g } := by cases g <;> rfl

theorem putLease_granted (e : LeaseEdit) (low : 1 ≤ granted) (high : granted ≤ 255) :
    putLease e ⟨5, BitVec.ofNat 32 granted⟩ = some { e with granted := some granted } :=
  congrArg (Option.map _) (within_ofNat low high (by decide))

theorem putLease_credit (e : LeaseEdit) {c : Nat} (word : c < 4294967296) :
    putLease e ⟨25, BitVec.ofNat 32 c⟩ = some { e with credit := some c } := by
  have value : (BitVec.ofNat 32 c).toNat = c := by
    rw [BitVec.toNat_ofNat]
    exact Nat.mod_eq_of_lt word
  have put : putLease e ⟨25, BitVec.ofNat 32 c⟩ = some { e with credit := some (BitVec.ofNat 32 c).toNat } := rfl
  rw [put, value]

/-- The fields that name required class, granted credit and, or not, credit. -/
def leaseFields (required : Grade) (granted : Nat) (credit : Option Nat) : List Field :=
  [⟨4, BitVec.ofNat 32 required.code⟩, ⟨5, BitVec.ofNat 32 granted⟩] ++ credit.toList.map fun c => ⟨25, BitVec.ofNat 32 c⟩

/-- Each in its range, they give the edit of the values that they name. -/
theorem putFields_leaseFields (low : 1 ≤ granted) (high : granted ≤ 255) (word : ∀ c, credit = some c → c < 4294967296) :
    putFields putLease {} (leaseFields required granted credit) = some ⟨some required, some granted, credit⟩ := by
  have classAndGrant : ([⟨4, BitVec.ofNat 32 required.code⟩, ⟨5, BitVec.ofNat 32 granted⟩] : List Field).foldlM putLease {} =
      some ⟨some required, some granted, none⟩ := by
    simp only [List.foldlM_cons, List.foldlM_nil, putLease_required, putLease_granted _ low high, Option.bind_eq_bind,
      Option.bind_some, Option.pure_def]
  rw [putFields_once (by cases credit <;> simp [leaseFields]), leaseFields, List.foldlM_append, classAndGrant]
  cases credit with
  | none => rfl
  | some c => exact putLease_credit _ (word c rfl)

/-! #### The checks and the values (07:R137) -/

theorem Lease.editFits_iff : y.editFits ⟨some required, some granted, credit⟩ = true ↔
    (∀ c, credit = some c → granted ≠ 255 ∧ c ≤ granted ∧ ∀ p, y.credit = some p → p ≤ c) ∧
    (credit = none → granted ≠ 255 → ∀ p, y.credit = some p → p ≤ granted) := by
  have within (n : Nat) : (y.credit.all fun p => p ≤ n) = true ↔ ∀ p, y.credit = some p → p ≤ n := by
    simp [Option.all_eq_true]
  cases credit with
  | none =>
    have checks : y.editFits ⟨some required, some granted, none⟩ = (granted = 255 || y.credit.all fun p => p ≤ granted) := rfl
    simp only [checks, Bool.or_eq_true, decide_eq_true_eq, within, or_iff_not_imp_left]
    simp
  | some c =>
    have checks : y.editFits ⟨some required, some granted, some c⟩ =
        (granted ≠ 255 && (y.credit.all fun p => p ≤ c) && c ≤ granted) := rfl
    simp only [checks, Bool.and_eq_true, decide_eq_true_eq, within]
    simp [and_assoc, and_comm (a := c ≤ granted)]

theorem Lease.edited_named : y.edited ⟨some required, some granted, credit⟩ = { y with
    required := required, grantedCredit := granted
    credit := if granted = 255 then none else credit.or (y.credit.or (some granted)) } := by
  unfold edited editedCredit
  cases credit <;> cases y.credit <;> rfl

/-! #### A change of standing (07:R119, R137) -/

theorem standingChanged_touches {s₀ : State} {ps : List Part} (hports : Part.ports ∈ ps) (hleases : Part.leases ∈ ps)
    (hslots : Part.slots ∈ ps) (hrooms : Part.rooms ∈ ps) (h : s₀.OnlyTouches ps s) :
    s₀.OnlyTouches ps (s.standingChanged l y z) := by
  unfold State.standingChanged
  dsimp only
  split
  · exact raiseLease_touches hslots hrooms <| putNotice_touches hports hleases h
  · exact clearAlarm_touches hslots hrooms <| putNotice_touches hports hleases h
  · exact h

/-- Its notice and its alarm concern the lease's port alone. -/
theorem State.OnPort.standingChanged (home : s.Home l p) (y z : Lease) : s.OnPort p (s.standingChanged l y z) := by
  unfold State.standingChanged
  dsimp only
  split
  · exact (State.OnPort.putNotice home _ _).trans (.raiseLease _ _)
  · exact (State.OnPort.putNotice home _ _).trans (.clearAlarm _ _)
  · exact .refl s

theorem standingChanged_slot_ne (apart : k ≠ l) (y z : Lease) : (s.standingChanged l y z).slot k = s.slot k := by
  unfold State.standingChanged
  dsimp only
  split
  · exact ((raiseLease_touches (ps := [.slots, .rooms]) (by simp) (by simp) .rfl').slot (by simp) k).trans
      (putNotice_slot_ne apart)
  · exact ((clearAlarm_touches (ps := [.slots, .rooms]) (by simp) (by simp) .rfl').slot (by simp) k).trans
      (putNotice_slot_ne apart)
  · rfl

/-! #### The edit -/

/-- The part with the edit of lease `y` in slot `l` made: its fields, then what a change of standing brings. -/
def State.withEdit (s : State) (l : LeaseIx) (y : Lease) (e : LeaseEdit) : State :=
  (s.moveLease l fun _ => y.edited e).standingChanged l y (y.edited e)

theorem withEdit_touches {s₀ : State} {ps : List Part} (hports : Part.ports ∈ ps) (hleases : Part.leases ∈ ps)
    (hcore : Part.leaseCore ∈ ps) (hslots : Part.slots ∈ ps) (hrooms : Part.rooms ∈ ps) (h : s₀.OnlyTouches ps s) :
    s₀.OnlyTouches ps (s.withEdit l y e) :=
  standingChanged_touches hports hleases hslots hrooms <| moveLease_touches hleases hcore h

theorem withEdit_moved (live : s.lease l = some y) (e : LeaseEdit) : s.LeaseMoved (s.withEdit l y e) l (y.edited e) := by
  have moves : s.MovesLease l y.port (y.edited e) (s.moveLease l fun _ => y.edited e) :=
    .moveLease (f := fun _ => y.edited e) live
  exact (moves.onPort (.standingChanged (moves.home rfl) y (y.edited e))).moved

theorem withEdit_slot_ne (apart : k ≠ l) (y : Lease) (e : LeaseEdit) : (s.withEdit l y e).slot k = s.slot k := by
  unfold State.withEdit
  rw [standingChanged_slot_ne apart, moveLease_slot, if_neg apart.symm]

theorem editLease_taken (put : putFields putLease {} x.req.fields = some e) (fits : y.editFits e = true) :
    s.editLease x l y = (s.withEdit l y e).done x .lease l.val := by
  unfold State.editLease
  rw [put]
  exact if_pos fits

theorem editLease_unfit (put : putFields putLease {} x.req.fields = some e) (unfit : ¬ y.editFits e = true) :
    s.editLease x l y = s.refuse x .badField := by
  unfold State.editLease
  rw [put]
  exact if_neg unfit

theorem editLease_refused (put : putFields putLease {} x.req.fields = none) : s.editLease x l y = s.refuse x .badField := by
  unfold State.editLease
  rw [put]

/-! #### The request -/

theorem actChangeLease_named (named : x.req.NamesIndex l.val) (known : requestKnown x.kind x.table x.req = true)
    (live : s.lease l = some y) (fresh : x.req.revision = (s.slot l).rev) : actChangeLease x s =
      if x.req.fields.isEmpty then s.done x .lease l.val else s.editLease x l y := by
  obtain ⟨-, -, count, -⟩ := id named
  unfold actChangeLease State.changing
  rw [checked_pass known count, atRecord_lease named live fun _ => fresh]
  unfold State.changeAt
  exact congrArg (ite _ _) (atLease_live live)

/-- Settles O43: the edit that the fields give made or refused, a field of another id refused, and no fields at all. -/
theorem changeLeaseTakesItsFields : Obligations.ChangeLeaseTakesItsFields := by
  unfold Obligations.ChangeLeaseTakesItsFields
  intro s u dt req stage l x required granted credit h named live fresh acts
  have decided (m : Mgmt) := actChangeLease_named (s := u.setMgmt m) (x := ⟨0x03, 0x04, req⟩) named
    (requestKnown_change named rfl) live fresh
  have edits (m : Mgmt) (asked : req.fields ≠ []) :
      actChangeLease ⟨0x03, 0x04, req⟩ (u.setMgmt m) = (u.setMgmt m).editLease ⟨0x03, 0x04, req⟩ l x :=
    (decided m).trans (if_neg (by simpa using asked))
  rw [exec_changeLease]
  refine ⟨fun fields low high word => ?_, fun ⟨f, here, other⟩ => ?_, fun empty => ?_⟩
  · have asked : req.fields ≠ [] := by simp [fields]
    have put : putFields putLease {} req.fields = some ⟨some required, some granted, credit⟩ :=
      fields ▸ putFields_leaseFields low high word
    refine ⟨fun fits => ?_, fun unfit => ?_⟩
    · obtain ⟨m, t, ran, frame, answered, left⟩ := request_done (act := actChangeLease)
        (work := fun v => v.withEdit l x ⟨some required, some granted, credit⟩)
        (ps := [.mgmt, .leases, .leaseCore, .ports, .slots, .rooms, .pins]) (tab := .lease) (k := l.val) h acts (by decide)
        (by simp) (by simp)
        (fun m setup => withEdit_touches (by simp) (by simp) (by simp) (by simp) (by simp) <| setMgmt_touches (by simp) setup .rfl')
        fun m _ => (edits m asked).trans (editLease_taken put (Lease.editFits_iff.mpr fits))
      refine ⟨t, ran, frame, answered, fun k apart => ?_, ?_⟩
      · exact (left.slot (by simp) k).trans (withEdit_slot_ne apart x _)
      · rw [← Lease.edited_named]
        exact (withEdit_moved (s := u.setMgmt m) live _).held (left.held (by simp) l)
    · exact request_refused h acts fun m _ =>
        (edits m asked).trans (editLease_unfit put (mt Lease.editFits_iff.mp unfit))
  · exact request_refused h acts fun m _ =>
      (edits m (List.ne_nil_of_mem here)).trans (editLease_refused (putFields_refused (putLease_other other) here {}))
  · obtain ⟨m, t, ran, frame, answered, -⟩ := request_done (act := actChangeLease) (work := id) (ps := [.mgmt, .pins])
      (tab := .lease) (k := l.val) h acts (by decide) (by simp) (by simp) (fun m setup => setMgmt_frame setup)
      fun m _ => (decided m).trans (if_pos (by simp [empty]))
    exact ⟨t, ran, frame, answered⟩

end Sys2Proof.Machine

/-! ### One output: the state due, and what a move to it does (08:R141) -/
namespace Sys2Proof.Machine
open Sys2Proof

namespace Output

variable {o o' : Output} {cls : SiteClass} {first now : SiteNs}

theorem dueState_eq (o : Output) (cls : SiteClass) :
    o.dueState cls = if o.enabled then (if cls.rank ≤ o.minClass.rank then .running else .squelched) else .off := by
  simp only [dueState, SiteClass.meets, decide_eq_true_eq]

theorem dueState_congr (same : o'.settings = o.settings) (cls : SiteClass) : o'.dueState cls = o.dueState cls := by
  simp only [settings, Prod.mk.injEq] at same
  obtain ⟨enabled, -, -, -, minClass⟩ := same
  simp only [dueState, enabled, minClass]

theorem moved_of_due (due : o.state = o.dueState cls) : o.moved cls first = o := if_pos due

theorem moved_to_running (away : o.state ≠ .running) (due : o.dueState cls = .running) :
    o.moved cls first = o.toRunning first := by
  simp only [moved, due, away, if_false]

theorem moved_to_stopped (away : o.state ≠ o.dueState cls) (due : o.dueState cls ≠ .running) :
    o.moved cls first = o.toStopped (o.dueState cls) := by
  unfold moved
  rw [if_neg away]
  split
  next running => exact absurd running due
  next squelched => rw [squelched]
  next off => rw [off]

/-- Outside RUNNING the line is LOW and there is no edge, fall or plan; in RUNNING there are an edge and a plan (08:R141). -/
structure Shaped (o : Output) : Prop where
  running : o.state = .running → o.nextEdge.isSome ∧ o.plan.isSome
  stopped : o.state ≠ .running →
    o.line = .low ∧ o.nextEdge = none ∧ o.fallRemaining = none ∧ o.plan = none ∧ o.changeWaiting = false

/-- The output is in the state that site class `cls` gives it, and is shaped as that state wants it. -/
structure Agrees (o : Output) (cls : SiteClass) : Prop where
  due : o.state = o.dueState cls
  shaped : o.Shaped

theorem toRunning_shaped (o : Output) (first : SiteNs) : (o.toRunning first).Shaped :=
  ⟨fun _ => ⟨rfl, rfl⟩, fun away => absurd rfl away⟩

theorem toStopped_shaped {st : OutState} (h : st ≠ .running) : (o.toStopped st).Shaped :=
  ⟨fun running => absurd running h, fun _ => ⟨rfl, rfl, rfl, rfl, rfl⟩⟩

/-- An output shaped as its state wants it, a change of values that is not yet acted on apart, agrees once it is moved. -/
theorem Shaped.moved (h : o.Shaped) : (o.moved cls first).Agrees cls := by
  refine ⟨?_, ?_⟩
  · rw [dueState_congr (moved_settings o cls first)]
    by_cases due : o.state = o.dueState cls
    · rw [moved_of_due due, due]
    · by_cases running : o.dueState cls = .running
      · rw [moved_to_running (running ▸ due) running, running]
        rfl
      · rw [moved_to_stopped due running]
        rfl
  · by_cases due : o.state = o.dueState cls
    · rwa [moved_of_due due]
    · by_cases running : o.dueState cls = .running
      · rw [moved_to_running (running ▸ due) running]
        exact toRunning_shaped o first
      · rw [moved_to_stopped due running]
        exact toStopped_shaped running

/-! #### Edges, falls, re-plans and the passing of time keep the agreement -/

theorem fallen_cases (o : Output) :
    o.fallRemaining = some 0 ∧ o.fallen = { o with line := .low, fallRemaining := none } ∨
      o.fallRemaining ≠ some 0 ∧ o.fallen = o := by
  by_cases due : o.fallRemaining = some 0
  · exact .inl ⟨due, if_pos due⟩
  · exact .inr ⟨due, if_neg due⟩

theorem fallen_plan (o : Output) : (o.fallen).plan = o.plan := by
  rcases o.fallen_cases with ⟨-, same⟩ | ⟨-, same⟩ <;> rw [same]

theorem edgeAt_state (o : Output) (e : SiteNs) (p : Plan) : (o.edgeAt e p).state = o.state := by
  unfold edgeAt
  split <;> rfl

theorem edgeAt_running {e : SiteNs} {p : Plan} (plan : o.plan.isSome) :
    (o.edgeAt e p).nextEdge.isSome ∧ (o.edgeAt e p).plan.isSome := by
  unfold edgeAt
  split
  · exact ⟨rfl, plan⟩
  · exact ⟨rfl, plan⟩
  · exact ⟨rfl, rfl⟩

/-- A change that leaves state and settings alone. -/
theorem Agrees.of_same (h : o.Agrees cls) (state : o'.state = o.state) (settings : o'.settings = o.settings) (shaped : o'.Shaped) :
    o'.Agrees cls :=
  ⟨by rw [state, dueState_congr settings]; exact h.due, shaped⟩

/-- A change of a RUNNING output that leaves it an edge and a plan. -/
theorem Agrees.of_running (h : o.Agrees cls) (running : o.state = .running) (state : o'.state = o.state)
    (settings : o'.settings = o.settings) (kept : o'.nextEdge.isSome ∧ o'.plan.isSome) : o'.Agrees cls :=
  h.of_same state settings ⟨fun _ => kept, fun away => absurd (state.trans running) away⟩

theorem Agrees.fallen (h : o.Agrees cls) : o.fallen.Agrees cls := by
  rcases o.fallen_cases with ⟨-, same⟩ | ⟨-, same⟩
  · rw [same]
    obtain ⟨running, stopped⟩ := h.shaped
    refine h.of_same rfl rfl ⟨running, fun away => ?_⟩
    obtain ⟨-, edge, -, rest⟩ := stopped away
    exact ⟨rfl, edge, rfl, rest⟩
  · rwa [same]

theorem Agrees.edgeIfDue (h : o.Agrees cls) (running : o.state = .running) : (o.edgeIfDue now).Agrees cls := by
  unfold Output.edgeIfDue
  split
  next e p _ plan =>
    split
    · have fell := h.fallen
      have still : o.fallen.state = .running := by
        rcases o.fallen_cases with ⟨-, same⟩ | ⟨-, same⟩ <;> rw [same] <;> exact running
      exact fell.of_running still (edgeAt_state _ e p) (edgeAt_settings _ e p)
        (edgeAt_running (by rw [fallen_plan, plan]; rfl))
    · exact h
  next => exact h

theorem Agrees.passIfInstant (h : o.Agrees cls) : (o.passIfInstant now).Agrees cls := by
  unfold Output.passIfInstant
  split
  · exact h.of_same rfl rfl ⟨h.shaped.running, h.shaped.stopped⟩
  · exact h

theorem Agrees.rising (h : o.Agrees cls) : (o.rising now).Agrees cls := by
  unfold Output.rising
  split
  next running => exact h.edgeIfDue running
  next => exact h.passIfInstant
  next => exact h

theorem Agrees.replan (h : o.Agrees cls) : (o.replan now).Agrees cls := by
  unfold Output.replan
  split
  next p running plan => exact h.of_running running rfl rfl ⟨rfl, by rw [plan]; rfl⟩
  next => exact h

theorem Agrees.elapse {adv : Nat} (h : o.Agrees cls) : (o.elapse adv).Agrees cls := by
  obtain ⟨running, stopped⟩ := h.shaped
  refine h.of_same rfl rfl ⟨running, fun away => ?_⟩
  obtain ⟨line, edge, fall, rest⟩ := stopped away
  exact ⟨line, edge, congrArg (Option.map (· - adv)) fall, rest⟩

end Output

/-! #### The outputs of a state -/

variable {s : State}

theorem outputsAgree_iff (s : State) : s.OutputsAgree ↔ ∀ i, (s.out i).Agrees s.tb.siteClass := by
  refine forall_congr' fun i => ⟨fun h => ?_, fun h => ?_⟩
  · obtain ⟨due, running, stopped⟩ := h
    exact ⟨due.trans (Output.dueState_eq _ _).symm, running, stopped⟩
  · exact ⟨h.due.trans (Output.dueState_eq _ _), h.shaped.running, h.shaped.stopped⟩

theorem updOut_out (i j : OutIx) (f : Output → Output) : (s.updOut i f).out j = if i = j then f (s.out j) else s.out j := by
  unfold State.updOut
  rw [setOut_out_if]
  split
  next same => rw [same]
  next => rfl

theorem clearAlarm_out (k : AlarmKind) (n : Nat) (i : OutIx) : (s.clearAlarm k n).out i = s.out i := rfl

theorem moveOutput_out (i j : OutIx) (f : Output → SiteNs → SiteNs) :
    (s.moveOutput i f).out j =
      if i = j then (s.out j).moved s.tb.siteClass (f (s.out j) s.tb.siteTime) else s.out j := by
  unfold State.moveOutput
  dsimp only
  rw [apply_ite (fun t : State => t.out j), apply_ite (fun t : State => t.out j), raise_out, clearAlarm_out, ite_self, ite_self,
    updOut_out]

theorem leaseAtClass_out (before after : SiteClass) (l : LeaseIx) (j : OutIx) :
    (State.leaseAtClass before after l s).out j = s.out j :=
  (leaseAtClass_touches (ps := [.ports, .leases, .slots, .rooms]) (by decide) (by decide) (by decide) (by decide)
    .rfl').out (by decide) j

/-- A class change event moves every output to the state the new class gives it (08:R145). -/
theorem crossClass_out (x : SiteClass) (j : OutIx) :
    (s.crossClass x).out j = (s.out j).moved x ((s.out j).releaseEdge s.tb.siteTime) := by
  have leases := forAll_keeps (f := State.leaseAtClass s.tb.siteClass x)
    (P := fun t => (t.tb, t.out j) = ({ s.tb with siteClass := x, rev := s.tb.rev + 1 }, s.out j))
    (fun l t h => by rw [leaseAtClass_tb, leaseAtClass_out]; exact h)
    (s := s.updTb fun b => { b with siteClass := x, rev := b.rev + 1 }) rfl
  have turns := forAll_at (f := fun i u => State.moveOutput u i Output.releaseEdge) (get := fun t => (t.tb, t.out j))
    (g := fun y => (y.1, y.2.moved y.1.siteClass (y.2.releaseEdge y.1.siteTime))) j
    (fun t => by rw [moveOutput_tb, moveOutput_out, if_pos rfl])
    (fun i t apart => by rw [moveOutput_tb, moveOutput_out, if_neg apart])
    (forAll (State.leaseAtClass s.tb.siteClass x) (s.updTb fun b => { b with siteClass := x, rev := b.rev + 1 }))
  rw [leases] at turns
  dsimp only at turns
  exact (Prod.mk.inj turns).2

end Sys2Proof.Machine

/-! ### The outputs agree with the site class: writers, queues and scanners (08:R141) -/
namespace Sys2Proof.Machine
open Sys2Proof

variable {s t : State} {l : LeaseIx} {p : PortIx} {i : RefIx} {j : OutIx}

/-- The parts of the state beside the outputs and the timebase. -/
def Part.offOutputs : List Part :=
  [.clock, .tbSettings, .wires, .refs, .refSettings, .ports, .portSettings, .portStates, .lanes, .leases, .leaseCore, .admission,
    .slots, .kinds, .threshold, .lines, .pins, .rooms, .mgmt, .setup, .resetLow, .pending]

namespace State.OutputsAgree

theorem at_out (h : s.OutputsAgree) (k : OutIx) : (s.out k).Agrees s.tb.siteClass := (outputsAgree_iff s).mp h k

theorem of_same (h : s.OutputsAgree) (cls : t.tb.siteClass = s.tb.siteClass) (outs : t.outs = s.outs) : t.OutputsAgree := by
  refine (outputsAgree_iff t).mpr fun k => ?_
  have same : t.out k = s.out k := by simp only [State.out, outs]
  rw [cls, same]
  exact h.at_out k

/-- Whatever leaves the outputs and the timebase alone keeps the law. -/
theorem of_touches (h : s.OutputsAgree) (k : s.OnlyTouches Part.offOutputs t) : t.OutputsAgree :=
  h.of_same (congrArg Timebase.siteClass (k.tb (by decide))) (k .outs (by decide))

theorem forAll {n : Nat} {f : Fin n → State → State} (hf : ∀ k t, State.OutputsAgree t → (f k t).OutputsAgree)
    (h : s.OutputsAgree) : (Machine.forAll f s).OutputsAgree := forAll_keeps hf h

/-! #### Writers -/

theorem setClock {c : Clock} (h : s.OutputsAgree) : (s.setClock c).OutputsAgree := h.of_same rfl rfl
theorem setWires {w : Wires} (h : s.OutputsAgree) : (s.setWires w).OutputsAgree := h.of_same rfl rfl
theorem setAlarm {a : AlarmUnit} (h : s.OutputsAgree) : (s.setAlarm a).OutputsAgree := h.of_same rfl rfl
theorem setMgmt {m : Mgmt} (h : s.OutputsAgree) : (s.setMgmt m).OutputsAgree := h.of_same rfl rfl
theorem setRef {e : RefEntry} (h : s.OutputsAgree) : (s.setRef i e).OutputsAgree := h.of_same rfl rfl
theorem updRef {f : RefEntry → RefEntry} (h : s.OutputsAgree) : (s.updRef i f).OutputsAgree := h.setRef
theorem setPort {r : Port} (h : s.OutputsAgree) : (s.setPort p r).OutputsAgree := h.of_same rfl rfl
theorem updPort {f : Port → Port} (h : s.OutputsAgree) : (s.updPort p f).OutputsAgree := h.setPort
theorem updScanner {f : Scanner → Scanner} (h : s.OutputsAgree) : (s.updScanner p f).OutputsAgree := h.updPort
theorem setLane {r : LaneReceiver} (h : s.OutputsAgree) : (s.setLane p r).OutputsAgree := h.of_same rfl rfl
theorem setLeaseSlot {z : LeaseSlot} (h : s.OutputsAgree) : (s.setLeaseSlot l z).OutputsAgree := h.of_same rfl rfl
theorem updLease {f : Lease → Lease} (h : s.OutputsAgree) : (s.updLease l f).OutputsAgree := h.setLeaseSlot
theorem moveLease {f : Lease → Lease} (h : s.OutputsAgree) : (s.moveLease l f).OutputsAgree := h.setLeaseSlot
theorem setAdmission {k : AdmIx} {a : AdmissionSlot} (h : s.OutputsAgree) : (s.setAdmission k a).OutputsAgree :=
  h.of_same rfl rfl
theorem raise {r : Raise} (h : s.OutputsAgree) : (s.raise r).OutputsAgree := h.setAlarm
theorem clearAlarm {a : AlarmKind} {n : Nat} (h : s.OutputsAgree) : (s.clearAlarm a n).OutputsAgree := h.setAlarm
theorem settle (h : s.OutputsAgree) : s.settle.OutputsAgree := h.setAlarm

/-- A change of the timebase record that keeps the site class. -/
theorem setTb {b : Timebase} (same : b.siteClass = s.tb.siteClass) (h : s.OutputsAgree) : (s.setTb b).OutputsAgree :=
  h.of_same same rfl

theorem updTb {f : Timebase → Timebase} (same : (f s.tb).siteClass = s.tb.siteClass) (h : s.OutputsAgree) :
    (s.updTb f).OutputsAgree := h.setTb same

/-- A change of an output that keeps its own agreement with the site class. -/
theorem updOut {f : Output → Output} (own : ∀ {o : Output} {cls : SiteClass}, o.Agrees cls → (f o).Agrees cls)
    (h : s.OutputsAgree) : (s.updOut j f).OutputsAgree := by
  refine (outputsAgree_iff _).mpr fun k => ?_
  rw [updOut_out, updOut_tb]
  split
  · exact own (h.at_out k)
  · exact h.at_out k

/-- An output moved to the state due agrees, whatever values it was given before; the others are left as they were. -/
theorem moveOutput_of {f : Output → SiteNs → SiteNs} (shaped : (s.out j).Shaped)
    (others : ∀ k, k ≠ j → (s.out k).Agrees s.tb.siteClass) : (s.moveOutput j f).OutputsAgree := by
  refine (outputsAgree_iff _).mpr fun k => ?_
  rw [moveOutput_out, moveOutput_tb]
  split
  next here => exact (here ▸ shaped).moved
  next away => exact others k (Ne.symm away)

theorem elapse {dt : Nat} (h : s.OutputsAgree) : (s.elapse dt).OutputsAgree := by
  refine (outputsAgree_iff _).mpr fun k => ?_
  rw [elapse_out]
  exact (h.at_out k).elapse

/-! #### Queues, scanners, leases and ports whose part this is not (04 to 07) -/

theorem offer {f : Frame} (h : s.OutputsAgree) : (s.offer p f).OutputsAgree := h.of_touches (offer_touches (by decide) .rfl')
theorem choose (h : s.OutputsAgree) : (s.choose p).OutputsAgree := h.of_touches (choose_touches (by decide) .rfl')
theorem chooseFor (h : s.OutputsAgree) : (s.chooseFor l).OutputsAgree := h.of_touches (chooseFor_touches (by decide) .rfl')
theorem endBatch (h : s.OutputsAgree) : (s.endBatch p).OutputsAgree := h.updScanner
theorem movePort {st : PortState} (h : s.OutputsAgree) : (s.movePort p st).OutputsAgree := h.updPort
theorem raisePort {a : AlarmKind} (h : s.OutputsAgree) : (s.raisePort p a).OutputsAgree := h.raise

theorem putNotice {a : NoticeKind} {v : Int} (h : s.OutputsAgree) : (s.putNotice l a v).OutputsAgree :=
  h.of_touches (putNotice_touches (by decide) (by decide) .rfl')

theorem startBatch {o : Origin} (h : s.OutputsAgree) : (s.startBatch p l o).OutputsAgree :=
  h.of_touches (startBatch_touches (by decide) .rfl')

theorem nextEcho {b : Batch} (h : s.OutputsAgree) : (s.nextEcho p b).OutputsAgree :=
  h.of_touches (nextEcho_touches (by decide) .rfl')

theorem abandonBatch (h : s.OutputsAgree) : (s.abandonBatch l).OutputsAgree :=
  h.of_touches (abandonBatch_touches (by decide) .rfl')

theorem raiseLease {a : AlarmKind} {d : Option Detail} (h : s.OutputsAgree) : (s.raiseLease l a d).OutputsAgree :=
  h.of_touches (raiseLease_touches (by decide) (by decide) .rfl')

theorem raiseSome {r : Option Raise} (h : s.OutputsAgree) : (s.raiseSome r).OutputsAgree :=
  h.of_touches (raiseSome_touches (by decide) (by decide) .rfl')

theorem leaveService (h : s.OutputsAgree) : (s.leaveService l).OutputsAgree :=
  h.of_touches (leaveService_touches (by decide) (by decide) (by decide) (by decide) (by decide) .rfl')

theorem suspendCore {cause : SuspendCause} (h : s.OutputsAgree) : (s.suspendCore l cause).OutputsAgree :=
  h.of_touches (suspendCore_touches (by decide) (by decide) (by decide) (by decide) (by decide) .rfl')

theorem resumeLease (h : s.OutputsAgree) : (s.resumeLease l).OutputsAgree :=
  h.of_touches (resumeLease_touches (by decide) (by decide) (by decide) (by decide) .rfl')

theorem retireQuiet {f : Option Frame} (h : s.OutputsAgree) : (s.retireQuiet l f).OutputsAgree :=
  h.of_touches
    (retireQuiet_touches (by decide) (by decide) (by decide) (by decide) (by decide) (by decide) (by decide) .rfl')

theorem silencePort (h : s.OutputsAgree) : (s.silencePort p).OutputsAgree :=
  h.of_touches (silencePort_touches (by decide) .rfl')

theorem openPort (h : s.OutputsAgree) : (s.openPort p).OutputsAgree :=
  h.of_touches (openPort_touches (by decide) (by decide) (by decide) (by decide) .rfl')

/-! #### Entries whose timebase is not told (02) -/

theorem startInputs (h : s.OutputsAgree) : (s.startInputs i).OutputsAgree :=
  h.of_touches (startInputs_touches (by decide) (by decide) (by decide) .rfl')

theorem disableRef (h : s.OutputsAgree) : (s.disableRef i).OutputsAgree :=
  h.of_touches (disableRef_touches (by decide) (by decide) (by decide) .rfl')

theorem raiseFault (h : s.OutputsAgree) : (s.raiseFault i).OutputsAgree :=
  h.of_touches (raiseFault_touches (by decide) (by decide) .rfl')

theorem lockoutReport (h : s.OutputsAgree) : (s.lockoutReport i).OutputsAgree :=
  h.of_touches (lockoutReport_touches (by decide) (by decide) (by decide) (by decide) (by decide) .rfl')

theorem lockoutChoice {before : State} (h : s.OutputsAgree) : (s.lockoutChoice before i).OutputsAgree :=
  h.of_touches (lockoutChoice_touches (by decide) .rfl')

end State.OutputsAgree
end Sys2Proof.Machine

/-! ### The outputs through the timebase (01, 03) -/
namespace Sys2Proof.Machine
open Sys2Proof

variable {s : State} {i : RefIx}

namespace Timebase

variable {t : Timebase}

theorem step_siteClass (o : Int) : (t.step o).siteClass = t.siteClass := by simp only [step, acquire]

theorem slew_siteClass (o : Int) : (t.slew o).siteClass = t.siteClass := by
  simp only [slew, apply_ite Timebase.siteClass, ite_self]

theorem runs_siteClass (o : Int) : (t.runs o).siteClass = t.siteClass := by
  simp only [runs, acquire, apply_ite Timebase.siteClass, ite_self]

theorem steer_siteClass (o : Int) : (t.steer o).siteClass = t.siteClass := rfl

theorem slewed_siteClass (o : Int) : (((t.slew o).steer o).runs o).siteClass = t.siteClass :=
  (runs_siteClass o).trans ((steer_siteClass o).trans (slew_siteClass o))

end Timebase

/-- A class change event brings every output into agreement, however the class stood before. -/
theorem crossClass_outputsAgree {x : SiteClass} (shaped : ∀ k, (s.out k).Shaped) : (s.crossClass x).OutputsAgree := by
  refine (outputsAgree_iff _).mpr fun k => ?_
  rw [crossClass_out, crossClass_tb]
  exact (shaped k).moved

namespace State.OutputsAgree

theorem crossings {n : Nat} (h : s.OutputsAgree) : (s.crossings n).OutputsAgree := by
  induction n generalizing s with
  | zero => exact h
  | succ n ih =>
    unfold State.crossings
    split
    · exact h
    · exact ih (crossClass_outputsAgree fun k => (h.at_out k).shaped)

theorem deriveClass (h : s.OutputsAgree) : s.deriveClass.OutputsAgree := h.crossings

/-! #### Selection, its loss and holdover -/

theorem raiseSelection {k : Option RefIx} (h : s.OutputsAgree) : (s.raiseSelection k).OutputsAgree := h.raise

theorem clearStateAlarm {st : TbState} (h : s.OutputsAgree) : (s.clearStateAlarm st).OutputsAgree :=
  h.of_touches (clearStateAlarm_touches (by decide) (by decide) .rfl')

theorem raiseHoldover {st : TbState} (h : s.OutputsAgree) : (s.raiseHoldover st).OutputsAgree :=
  h.of_touches (raiseHoldover_touches (by decide) (by decide) .rfl')

theorem raiseFreeRun (h : s.OutputsAgree) : s.raiseFreeRun.OutputsAgree :=
  h.of_touches (raiseFreeRun_touches (by decide) (by decide) .rfl')

theorem selectEntry (h : s.OutputsAgree) : (s.selectEntry i).OutputsAgree := (h.updTb rfl).raiseSelection.clearStateAlarm
theorem storeRestore (h : s.OutputsAgree) : s.storeRestore.OutputsAgree := h.updTb rfl

theorem switchIfDue (h : s.OutputsAgree) : s.switchIfDue.OutputsAgree := by
  unfold State.switchIfDue
  repeat' split
  · exact h
  · exact h.selectEntry.storeRestore
  · exact h

theorem reworkRestore (h : s.OutputsAgree) : s.reworkRestore.OutputsAgree := h.storeRestore.switchIfDue
theorem enterHoldover (h : s.OutputsAgree) : s.enterHoldover.OutputsAgree := (h.updTb rfl).raiseSelection.raiseHoldover

theorem enterFreeRun (h : s.OutputsAgree) : s.enterFreeRun.OutputsAgree :=
  (h.updTb rfl).raiseSelection.deriveClass.raiseFreeRun

theorem loseSelected (h : s.OutputsAgree) : (s.loseSelected i).OutputsAgree := by
  have unforced : (s.updTb fun b => b.unforce i).OutputsAgree := h.updTb (by unfold Timebase.unforce; split <;> rfl)
  unfold State.loseSelected
  dsimp only
  repeat' split
  · exact unforced.selectEntry.reworkRestore
  · exact unforced.enterHoldover
  · exact unforced.enterFreeRun

theorem announceUsable (h : s.OutputsAgree) : (s.announceUsable i).OutputsAgree := by
  unfold State.announceUsable
  refine reworkRestore ?_
  repeat' split
  · exact h.updTb (by unfold Timebase.lineUsable; split <;> rfl)
  · exact h
  · exact h.selectEntry
  · exact h

theorem announceLeft (h : s.OutputsAgree) : (s.announceLeft i).OutputsAgree := by
  unfold State.announceLeft
  dsimp only
  repeat' split
  · exact h.loseSelected
  · exact (h.updTb rfl).reworkRestore
  · exact h.reworkRestore

/-! #### Samples, measurements and run seconds -/

theorem replanOutputs (h : s.OutputsAgree) : s.replanOutputs.OutputsAgree :=
  h.forAll fun _ _ agree => agree.updOut Output.Agrees.replan

theorem stepNotices {o : Int} (h : s.OutputsAgree) : (s.stepNotices o).OutputsAgree :=
  h.of_touches (stepNotices_touches (by decide) (by decide) .rfl')

theorem dropAllSchedules (h : s.OutputsAgree) : s.dropAllSchedules.OutputsAgree :=
  h.of_touches (dropAllSchedules_touches (by decide) .rfl')

theorem stepped {o : Int} (h : s.OutputsAgree) : (s.updTb fun t => t.step o).OutputsAgree :=
  h.updTb (Timebase.step_siteClass o)

theorem applyStep {o : Int} (h : s.OutputsAgree) : (s.applyStep o).OutputsAgree :=
  h.stepped.stepNotices.dropAllSchedules.replanOutputs.raise

theorem slewed {o : Int} (h : s.OutputsAgree) : (s.updTb fun t => ((t.slew o).steer o).runs o).OutputsAgree :=
  h.setTb (b := ((s.tb.slew o).steer o).runs o) (Timebase.slewed_siteClass o)

theorem correct {o : Int} (h : s.OutputsAgree) : (s.correct o).OutputsAgree := by
  unfold State.correct
  split
  · exact h.applyStep
  · exact h.slewed

theorem deliverSample (h : s.OutputsAgree) : s.deliverSample.OutputsAgree := by
  unfold State.deliverSample State.takeSample
  repeat' split
  · exact h
  · exact (h.setWires.correct.updTb rfl).deriveClass
  · exact h.setWires

theorem deliverMeasurement (h : s.OutputsAgree) : s.deliverMeasurement.OutputsAgree := by
  unfold State.deliverMeasurement State.takeMeasurement
  repeat' split
  · exact h
  · exact h.setWires.updTb rfl
  · exact h.setWires

theorem spentTest (h : s.OutputsAgree) : s.spentTest.OutputsAgree := by
  unfold State.spentTest
  split
  · exact (h.updTb rfl).clearAlarm.raise
  · exact h

theorem tableMoved (h : s.OutputsAgree) : s.tableMoved.OutputsAgree := by
  unfold State.tableMoved
  split
  · exact (h.updTb rfl).clearAlarm.raise
  · exact h.spentTest

theorem runSecondIfDue (h : s.OutputsAgree) : s.runSecondIfDue.OutputsAgree := by
  unfold State.runSecondIfDue
  split
  · exact (h.setClock.updTb rfl).deriveClass.spentTest.forAll fun _ _ agree => agree.updRef
  · exact h

end State.OutputsAgree
end Sys2Proof.Machine

/-! ### The outputs through the reference unit (02) -/
namespace Sys2Proof.Machine
open Sys2Proof

namespace State.OutputsAgree

variable {s : State} {i : RefIx}

theorem faultRef {cause : FaultCause} (h : s.OutputsAgree) : (s.faultRef i cause).OutputsAgree := by
  unfold State.faultRef
  dsimp only
  repeat' split
  · exact h.updRef.lockoutReport.raiseFault.announceLeft.lockoutChoice
  · exact h.updRef.lockoutReport.raiseFault.lockoutChoice
  · exact h

theorem becomeUsable (h : s.OutputsAgree) : (s.becomeUsable i).OutputsAgree := h.updRef.announceUsable

theorem qualify {w : Bool} (h : s.OutputsAgree) : (s.qualify i w).OutputsAgree := by
  unfold State.qualify
  dsimp only
  split
  · split_ifs
    · exact h.updRef
    · exact h.updRef
    · exact h.updRef
    · exact h.becomeUsable
  · exact h

theorem offerSample {o : Int} {m : BitVec 8} (h : s.OutputsAgree) : (s.offerSample i o m).OutputsAgree :=
  h.of_touches (offerSample_touches (by decide) .rfl')

theorem offerMeasurement {k : LineInput} {f : Int} (h : s.OutputsAgree) : (s.offerMeasurement k f).OutputsAgree :=
  h.of_touches (offerMeasurement_touches (by decide) .rfl')

theorem goodOffset {o : Int} {m : BitVec 8} (h : s.OutputsAgree) : (s.goodOffset i o m).OutputsAgree :=
  h.updRef.offerSample.qualify

/-! #### Pulse entries and labels (02:R28 to R31) -/

theorem edgeUnlabelled (h : s.OutputsAgree) : (s.edgeUnlabelled i).OutputsAgree := by
  unfold State.edgeUnlabelled
  dsimp only
  split
  · exact h.updRef
  · exact h.updRef.faultRef

theorem edgeLabelled {b : Label} (h : s.OutputsAgree) : (s.edgeLabelled i b).OutputsAgree := by
  unfold State.edgeLabelled
  dsimp only
  split
  · exact h.updRef.faultRef
  · exact h.updRef.goodOffset

theorem edgeTaken (h : s.OutputsAgree) : (s.edgeTaken i).OutputsAgree := by
  have accepted := h.updRef (i := i) (f := fun e => e.acceptEdge s.clock.osc)
  unfold State.edgeTaken
  cases (s.ref i).prevEdge <;> cases (s.ref i).pendingLabel <;> dsimp only
  case none.none => exact accepted.edgeUnlabelled
  case none.some => exact accepted
  case some.none =>
    split
    · exact h.faultRef
    · exact accepted.edgeUnlabelled
  case some.some =>
    split
    · exact h.faultRef
    · exact accepted.edgeLabelled

theorem pulseEdge {edge : Edge} (h : s.OutputsAgree) : (s.pulseEdge i edge).OutputsAgree := by
  unfold State.pulseEdge
  dsimp only
  split_ifs
  · exact h.faultRef
  · exact h.edgeTaken
  · exact h

theorem takeLabel {valid : Bool} {n : BitVec 48} (h : s.OutputsAgree) : (s.takeLabel i valid n).OutputsAgree := by
  unfold State.takeLabel
  split_ifs
  · exact h.updRef
  · exact h.faultRef
  · exact h

theorem labelEnds {f : LabelRun} (h : s.OutputsAgree) : (s.labelEnds i f).OutputsAgree := by
  unfold State.labelEnds
  repeat' split
  · exact h
  · exact h.takeLabel
  · exact h

theorem labelHeard {r : LabelReceiver} (h : s.OutputsAgree) : (s.labelHeard i r).OutputsAgree := by
  unfold State.labelHeard State.setReceiver
  split
  · exact h.updRef
  · exact h.updRef.labelEnds

theorem labelRest {n : Nat} {cs : List LineChar} (h : s.OutputsAgree) : (s.labelRest i n cs).OutputsAgree := by
  induction cs generalizing s n with
  | nil => exact h
  | cons c cs ih => exact ih (labelChar_eq s i _ _ ▸ h.labelHeard)

theorem labelFrame {c : LabelChar} {cs : List LineChar} (h : s.OutputsAgree) : (s.labelFrame i c cs).OutputsAgree :=
  labelRest (labelChar_eq s i _ _ ▸ h.labelHeard)

/-! #### LINE and PEER entries (02:R32 to R34, R45 to R47) -/

theorem measuredFreq {k : LineInput} {f : Int} (h : s.OutputsAgree) : (s.measuredFreq k f).OutputsAgree := by
  unfold State.measuredFreq
  dsimp only
  split
  · exact h.updRef.faultRef
  · exact h.updRef.offerMeasurement.qualify

theorem pulseTaken {k : LineInput} (h : s.OutputsAgree) : (s.pulseTaken k).OutputsAgree := by
  unfold State.pulseTaken
  dsimp only
  repeat' split
  · exact h.updRef
  · exact h.updRef
  · exact h.updRef
  · exact h.updRef.measuredFreq

theorem linePulse {k : LineInput} (h : s.OutputsAgree) : (s.linePulse k).OutputsAgree := by
  unfold State.linePulse
  dsimp only
  split_ifs
  · exact h.faultRef
  · exact h.pulseTaken
  · exact h

theorem peerTaken {b : PeerMarkBody} {r : SymbolRecord} (h : s.OutputsAgree) : (s.peerTaken i b r).OutputsAgree := by
  unfold State.peerTaken
  dsimp only
  split_ifs
  · exact h.updRef.faultRef
  · exact h.updRef.faultRef
  · exact h.updRef.goodOffset

theorem peerMarked {b : PeerMarkBody} {r : Option SymbolRecord} (h : s.OutputsAgree) : (s.peerMarked i b r).OutputsAgree := by
  unfold State.peerMarked
  dsimp only
  repeat' split
  · exact h.faultRef
  · exact h
  · exact h.peerTaken
  · exact h

theorem sourceLost {f : Offer} (h : s.OutputsAgree) : (s.sourceLost f).OutputsAgree := by
  unfold State.sourceLost
  split
  · exact h
  · exact h.faultRef

/-! #### Timers and the consistency check (02:R40, R41, R44) -/

theorem missingExpires (h : s.OutputsAgree) : (s.missingExpires i).OutputsAgree := by
  unfold State.missingExpires
  split
  · exact h.faultRef
  · exact h

theorem holdOffExpires (h : s.OutputsAgree) : (s.holdOffExpires i).OutputsAgree :=
  h.of_touches (holdOffExpires_touches (by decide) (by decide) (by decide) .rfl')

theorem scoreDecays (h : s.OutputsAgree) : (s.scoreDecays i).OutputsAgree :=
  h.of_touches (scoreDecays_touches (by decide) .rfl')

theorem faultDeviants {ds : List (RefIx × Int)} (h : s.OutputsAgree) :
    (ds.foldl (fun t d => t.faultRef d.1 .wander) s).OutputsAgree := by
  induction ds generalizing s with
  | nil => exact h
  | cons d ds ih => exact ih h.faultRef

theorem checkConsistency (h : s.OutputsAgree) : s.checkConsistency.OutputsAgree := by
  unfold State.checkConsistency
  repeat' split
  · exact h.faultRef
  · exact h.faultDeviants
  all_goals exact h

end State.OutputsAgree
end Sys2Proof.Machine

/-! ### The outputs through the lease controller and the scanners (05 to 07) -/
namespace Sys2Proof.Machine
open Sys2Proof

namespace State.OutputsAgree

variable {s : State} {l : LeaseIx} {x : Lease} {p : PortIx}

/-! #### Retirement and suspension (07:R128, R133) -/

theorem retireLoss {before : State} (h : s.OutputsAgree) : (s.retireLoss before l).OutputsAgree := by
  unfold State.retireLoss State.announceOffer
  repeat' split
  · exact h
  · exact h
  · exact h.announceLeft
  · exact h

theorem retire {f : Option Frame} {m : Option Raise} (h : s.OutputsAgree) : (s.retire l f m).OutputsAgree := by
  unfold State.retire
  dsimp only
  repeat' split
  · exact h
  · exact h.retireQuiet.retireLoss.raiseSome.choose
  · exact h.retireQuiet.retireLoss.raiseSome

theorem retireNotice {v : Int} {m : Option Raise} (h : s.OutputsAgree) : (s.retireNotice l v m).OutputsAgree := h.retire

theorem retireRefuse {r : RefuseReason} {m : Option Raise} (h : s.OutputsAgree) : (s.retireRefuse l r m).OutputsAgree := by
  unfold State.retireRefuse
  split
  · exact h
  · exact h.retire

theorem portLosses {before : State} (h : s.OutputsAgree) : (s.portLosses before p).OutputsAgree :=
  h.forAll fun _ _ agree => by
    split
    · exact agree.retireLoss
    · exact agree

theorem retirePort (h : s.OutputsAgree) : (s.retirePort p).OutputsAgree :=
  (h.forAll fun _ _ agree => by
    split
    · exact agree.retireQuiet
    · exact agree).portLosses

theorem suspendFully {cause : SuspendCause} (h : s.OutputsAgree) : (s.suspendFully l cause).OutputsAgree := by
  unfold State.suspendFully
  dsimp only
  repeat' split
  · exact h
  · exact h.suspendCore.sourceLost
  · exact h.suspendCore

theorem suspendMarked {cause : SuspendCause} {before : Rev} (h : s.OutputsAgree) :
    (s.suspendMarked l cause before).OutputsAgree := h.suspendFully.updLease

theorem suspend {cause : SuspendCause} (h : s.OutputsAgree) : (s.suspend l cause).OutputsAgree := by
  unfold State.suspend
  dsimp only
  split
  · exact h.suspendFully.chooseFor
  · exact h.suspendFully

/-! #### Batches (06:R106 to R113) -/

theorem enterService {n : Nat} (h : s.OutputsAgree) : (s.enterService l n).OutputsAgree :=
  h.of_touches (enterService_touches (by decide) (by decide) (by decide) (by decide) (by decide) .rfl')

theorem goodBatch {n : Nat} (h : s.OutputsAgree) : (s.goodBatch l n).OutputsAgree := by
  unfold State.goodBatch
  repeat' split
  · exact h
  · exact h.setLeaseSlot
  · exact h.moveLease.leaveService.raiseLease.sourceLost
  · exact h.enterService

theorem rejectBatch {b : Batch} (h : s.OutputsAgree) : (s.rejectBatch p b).OutputsAgree := by
  unfold State.rejectBatch
  dsimp only
  repeat' split
  · exact h
  · exact h.moveLease.startBatch
  · exact h.moveLease.endBatch.suspendMarked.choose

theorem judge {b : Batch} (h : s.OutputsAgree) : (s.judge p b).OutputsAgree := by
  unfold State.judge
  dsimp only
  split
  · exact h.endBatch.goodBatch.choose
  · exact h.rejectBatch

theorem takeEchoBack {b : Batch} {t₁ : SiteNs} {mark : BitVec 8} {c : Capture} (h : s.OutputsAgree) :
    (s.takeEchoBack p b t₁ mark c).OutputsAgree := by
  unfold State.takeEchoBack State.takeEchoSample
  dsimp only
  repeat' split
  · exact h
  · exact h.nextEcho
  · exact h.judge
  · exact h.nextEcho

theorem echoTimeout {b : Batch} (h : s.OutputsAgree) : (s.echoTimeout p b).OutputsAgree := by
  unfold State.echoTimeout
  split
  · exact h.nextEcho
  · exact h.endBatch.suspendMarked.choose

theorem echoTimerExpires (h : s.OutputsAgree) : (s.echoTimerExpires p).OutputsAgree := by
  unfold State.echoTimerExpires
  repeat' split
  · exact h
  · exact h.echoTimeout
  · exact h

theorem echoBack {n : Nat} {c : Capture} (h : s.OutputsAgree) : (s.echoBack p l n c).OutputsAgree := by
  unfold State.echoBack
  repeat' split
  · exact h
  · exact h.echoTimeout
  · exact h.takeEchoBack
  all_goals exact h

/-! #### Joins, credit, deadlines and reports (04:R68 to R70; 05; 07:R123) -/

theorem joinNew {body : JoinBody} {wanted : Grade} (h : s.OutputsAgree) : (s.joinNew p body wanted).OutputsAgree :=
  h.of_touches
    (joinNew_touches (by decide) (by decide) (by decide) (by decide) (by decide) (by decide) (by decide) .rfl')

theorem refuseJoin {tag : Tag} {r : RefuseReason} (h : s.OutputsAgree) : (s.refuseJoin p tag r).OutputsAgree := h.offer.raise

theorem rejoinBack {body : JoinBody} {wanted : Grade} (h : s.OutputsAgree) : (s.rejoinBack l x body wanted).OutputsAgree := by
  unfold State.rejoinBack
  cases x.state <;> simp only [reduceCtorEq, if_true, if_false]
  case pending | measuring => exact h.moveLease.clearAlarm.abandonBatch.offer.choose
  case inService => exact h.moveLease.clearAlarm.leaveService.abandonBatch.offer.sourceLost.choose
  case suspended => exact h.moveLease.clearAlarm.clearAlarm.abandonBatch.offer.choose

theorem rejoin {body : JoinBody} {wanted : Grade} (h : s.OutputsAgree) : (s.rejoin l x body wanted).OutputsAgree := by
  unfold State.rejoin
  repeat' split
  · exact h.offer
  · exact h.refuseJoin
  · exact h.rejoinBack

theorem takeJoin {body : JoinBody} {wanted : Grade} (h : s.OutputsAgree) : (s.takeJoin p body wanted).OutputsAgree := by
  unfold State.takeJoin
  repeat' split
  · exact h.joinNew
  · exact h.joinNew
  · exact h.rejoin
  · exact h.offer.raise

theorem joinReceived {body : JoinBody} (h : s.OutputsAgree) : (s.joinReceived p body).OutputsAgree := by
  unfold State.joinReceived
  repeat' split
  · exact h
  · exact h.takeJoin
  · exact h

theorem spendCredit (h : s.OutputsAgree) : (s.spendCredit l).OutputsAgree := by
  unfold State.spendCredit
  dsimp only
  repeat' split
  · exact h
  · exact h.updLease.retireNotice
  · exact h.updLease.putNotice
  · exact h.updLease
  · exact h

theorem deadlineExpires (h : s.OutputsAgree) : (s.deadlineExpires l).OutputsAgree := by
  unfold State.deadlineExpires
  repeat' split
  · exact h
  · exact h.retireRefuse
  all_goals exact h

theorem takeReport {b : ReportBody} (h : s.OutputsAgree) : (s.takeReport b l).OutputsAgree :=
  h.of_touches (takeReport_touches (by decide) (by decide) (by decide) (by decide) .rfl')

theorem takePeerMark {b : PeerMarkBody} (h : s.OutputsAgree) : (s.takePeerMark b l).OutputsAgree := by
  unfold State.takePeerMark
  repeat' split
  · exact h
  · exact h
  · exact h.peerMarked

theorem echoDeparted {n : BitVec 2} {c : Capture} (h : s.OutputsAgree) : (s.echoDeparted p l n c).OutputsAgree :=
  h.of_touches (echoDeparted_touches (by decide) .rfl')

theorem deliverReport {m : Bool} (h : s.OutputsAgree) : (s.deliverReport p m).OutputsAgree := by
  unfold State.deliverReport
  split
  next => exact h
  next d _ =>
    cases d with
    | mark => exact h.updPort.spendCredit
    | echo => exact h.updPort.echoDeparted

theorem forAddressed {id : Byte} {f : LeaseIx → State → State} (hf : ∀ l, (f l s).OutputsAgree) (h : s.OutputsAgree) :
    (s.forAddressed p id f).OutputsAgree := by
  unfold State.forAddressed
  split
  · exact h
  · exact hf _

end State.OutputsAgree
end Sys2Proof.Machine

/-! ### The outputs through the ports and their lanes (04) -/
namespace Sys2Proof.Machine
open Sys2Proof

namespace State.OutputsAgree

variable {s : State} {l : LeaseIx} {x : Lease} {p : PortIx}

/-! #### Conflict, reopening and closing (04:R79 to R81) -/

theorem clearPending (h : s.OutputsAgree) : (s.clearPending p).OutputsAgree :=
  h.of_touches (clearPending_touches (by decide) (by decide) .rfl')

theorem conflictLease (h : s.OutputsAgree) : (s.conflictLease l x).OutputsAgree := by
  unfold State.conflictLease
  split
  · exact h.retireRefuse
  · exact h.suspendMarked
  · exact h.suspendMarked
  · exact h.moveLease.raiseLease

theorem conflictLeases (h : s.OutputsAgree) : (s.conflictLeases p).OutputsAgree :=
  h.clearPending.forAll fun _ _ agree => by
    repeat' split
    · exact agree
    · exact agree.conflictLease
    · exact agree

theorem hubFrame (h : s.OutputsAgree) : (s.hubFrame p).OutputsAgree := by
  unfold State.hubFrame
  split
  · exact h.movePort.silencePort.conflictLeases.raisePort
  · exact h

theorem resumeLeases (h : s.OutputsAgree) :
    (Machine.forAll (fun l t => if t.leaseOn l p then t.resumeLease l else t) s).OutputsAgree :=
  h.forAll fun _ _ agree => by
    split
    · exact agree.resumeLease
    · exact agree

theorem reopenConflict (h : s.OutputsAgree) : (s.reopenConflict p).OutputsAgree := by
  unfold State.reopenConflict
  split
  · exact h.movePort.resumeLeases.clearAlarm.choose
  · exact h.movePort.retirePort.clearAlarm.raisePort

theorem closePort (h : s.OutputsAgree) : (s.closePort p).OutputsAgree := by
  unfold State.closePort
  dsimp only
  split
  · exact h.movePort.silencePort.retirePort.clearAlarm.clearAlarm
  · exact h.movePort.retirePort.clearAlarm.clearAlarm

/-! #### Symbols heard (04:R67, R77, R78) -/

theorem lockGained (h : s.OutputsAgree) : (s.lockGained p).OutputsAgree :=
  h.of_touches (lockGained_touches (by decide) (by decide) (by decide) (by decide) .rfl')

theorem lockLost (h : s.OutputsAgree) : (s.lockLost p).OutputsAgree := by
  unfold State.lockLost
  dsimp only
  split
  · exact h.updPort.movePort.silencePort.retirePort.raisePort
  · exact h.updPort

theorem deliver {c : Capture} {f : LaneFrame} (h : s.OutputsAgree) : (s.deliver p c f).OutputsAgree := by
  unfold State.deliver
  split
  · exact h.joinReceived
  · exact h.forAddressed fun _ => h.updLease
  · exact h.forAddressed fun _ => h.retireNotice
  · split
    · exact h.forAddressed fun _ => h.takeReport
    · exact h
  · split
    · exact h.forAddressed fun _ => h.takePeerMark
    · exact h
  · split
    · exact h.forAddressed fun _ => h.echoBack
    · exact h
  · exact h.hubFrame

theorem actLane {e : LaneEvent} (h : s.OutputsAgree) : (s.actLane p e).OutputsAgree := by
  cases e with
  | quiet => exact h
  | gained => exact h.lockGained
  | lost => exact h.lockLost
  | frame f c => exact h.deliver

theorem hear {capture : Nat → Capture} {xs : List RxSymbol} (h : s.OutputsAgree) : (State.hear p capture xs s).OutputsAgree := by
  induction xs generalizing s with
  | nil => exact h
  | cons x xs ih => exact ih h.setLane.actLane

/-! #### Frames, symbols and the boundary (04:R70 to R72, 01:R3) -/

theorem frameDeparts (h : s.OutputsAgree) : (s.frameDeparts p).OutputsAgree :=
  h.of_touches (frameDeparts_touches (by decide) (by decide) .rfl')

theorem symbolDue (h : s.OutputsAgree) : (s.symbolDue p).OutputsAgree :=
  h.of_touches (symbolDue_touches (by decide) (by decide) (by decide) (by decide) .rfl')

theorem routineFallsDue (h : s.OutputsAgree) : (s.routineFallsDue p).OutputsAgree :=
  h.of_touches (routineFallsDue_touches (by decide) .rfl')

theorem queueMarks {n : Nat} (h : s.OutputsAgree) : (s.queueMarks n).OutputsAgree :=
  h.of_touches (queueMarks_touches (by decide) .rfl')

theorem scheduleSymbols {n : Nat} (h : s.OutputsAgree) : (s.scheduleSymbols n).OutputsAgree :=
  h.of_touches (scheduleSymbols_touches (by decide) .rfl')

theorem boundaryIfDue (h : s.OutputsAgree) : s.boundaryIfDue.OutputsAgree := by
  unfold State.boundaryIfDue State.reachSecond
  split
  · exact (h.updTb rfl).queueMarks.scheduleSymbols.checkConsistency
  · exact h

theorem takeRoom {b : Block} (h : s.OutputsAgree) : (s.takeRoom b).OutputsAgree :=
  h.of_touches (takeRoom_touches (by decide) (by decide) .rfl')

end State.OutputsAgree
end Sys2Proof.Machine

/-! ### The outputs through the requests of the management port (10) -/
namespace Sys2Proof.Machine
open Sys2Proof

/-- No named field of an output is its state, line, edge, fall or plan (08:R140). -/
theorem putOutput_shaped {o o' : Output} {f : Field} (h : putOutput o f = some o') (shaped : o.Shaped) : o'.Shaped := by
  have kept {e n ph w g} : ({ o with enabled := e, n := n, phase := ph, width := w, minClass := g } : Output).Shaped :=
    ⟨shaped.running, shaped.stopped⟩
  unfold putOutput at h
  split at h
  case h_6 => cases h
  case h_3 | h_4 =>
    cases h
    exact kept
  case h_1 | h_2 | h_5 =>
    obtain ⟨v, -, rfl⟩ := Option.map_eq_some_iff.mp h
    exact kept

theorem putFields_output_shaped {o o' : Output} {fs : List Field} (h : putFields putOutput o fs = some o')
    (shaped : o.Shaped) : o'.Shaped := putFields_keeps (fun _ _ _ put => putOutput_shaped put) h shaped

namespace State.OutputsAgree

variable {s t : State} {l : LeaseIx} {y : Lease} {p : PortIx} {i : RefIx} {x : Executing}

/-- The state after reset keeps the law (10:R177). -/
theorem reset : State.reset.OutputsAgree := by
  obtain ⟨-, -, -, -, -, outs, -⟩ := reachableInvariantsHoldAtReset
  exact outs

theorem restarted : s.restarted.OutputsAgree := reset.of_same rfl rfl

/-! #### Answers and checks (10:R166 to R169) -/

theorem reply {f : State → Answer} (h : s.OutputsAgree) : (s.reply f).OutputsAgree := h.settle.setMgmt
theorem refuse {code : AnswerCode} (h : s.OutputsAgree) : (s.refuse x code).OutputsAgree := h.reply
theorem doneForm {a : Table} {k : Nat} {form : Byte} (h : s.OutputsAgree) : (s.doneForm x a k form).OutputsAgree := h.reply
theorem done {a : Table} {k : Nat} (h : s.OutputsAgree) : (s.done x a k).OutputsAgree := h.reply
theorem doneSlot {a : Table} {k : Nat} (h : s.OutputsAgree) : (s.doneSlot x a k).OutputsAgree := h.reply
theorem doneStatus (h : s.OutputsAgree) : (s.doneStatus x).OutputsAgree := h.reply
theorem showMiso {bs : List Byte} {n : Nat} (h : s.OutputsAgree) : (s.showMiso bs n).OutputsAgree := h.setMgmt

theorem statusPoll {first : Byte} {n : Nat} (h : s.OutputsAgree) : (s.statusPoll first n).OutputsAgree := by
  unfold State.statusPoll
  split
  · exact h
  · exact h.showMiso

theorem takeRequest (h : s.OutputsAgree) : (s.takeRequest x).OutputsAgree := h.of_touches (takeRequest_touches (by decide) .rfl')

theorem carryRequest {stage : Stage} {act : Executing → State → State}
    (hact : ∀ u : State, u.OutputsAgree → (act x u).OutputsAgree) (h : s.OutputsAgree) :
    (s.carryRequest x stage act).OutputsAgree := by
  unfold State.carryRequest State.actRequest
  repeat' split
  · exact h.takeRequest
  · exact hact s h
  · exact h
  · exact hact _ h.takeRequest
  · exact h.takeRequest

theorem checked {f : State → State} (h : s.OutputsAgree) (hf : (f s).OutputsAgree) : (s.checked x f).OutputsAgree := by
  unfold State.checked
  split_ifs
  · exact h.refuse
  · exact hf
  · exact h.refuse

theorem atRecord {a : Table} {fenced : Bool} {f : Nat → State → State} (hf : ∀ n, (f n s).OutputsAgree) (h : s.OutputsAgree) :
    (s.atRecord x a fenced f).OutputsAgree := by
  unfold State.atRecord
  repeat' split
  · exact h.refuse
  · exact h.refuse
  · exact hf _
  · exact h.refuse

theorem atIx {n m : Nat} {f : Fin n → State → State} (hf : ∀ k, (f k s).OutputsAgree) (h : s.OutputsAgree) :
    (s.atIx n m f).OutputsAgree := by
  unfold State.atIx
  split
  · exact h
  · exact hf _

theorem atLease {m : Nat} {f : LeaseIx → Lease → State → State} (hf : ∀ l y, (f l y s).OutputsAgree) (h : s.OutputsAgree) :
    (s.atLease m f).OutputsAgree := h.atIx fun l => by
  split
  · exact h
  · exact hf l _

theorem changing {a : Table} {apply : Nat → State → State} (hf : ∀ n, (apply n s).OutputsAgree) (h : s.OutputsAgree) :
    (s.changing x a apply).OutputsAgree :=
  h.checked <| atRecord (fun n => by
    unfold State.changeAt
    split
    · exact h.done
    · exact hf n) h

/-! #### CHANGE and CREATE -/

theorem timebaseChanged {fs : List Field} (h : s.OutputsAgree) : (s.timebaseChanged fs).OutputsAgree := by
  have tabled : (if namedSome fs [14, 15, 16, 17] then s.deriveClass.tableMoved else s).OutputsAgree := by
    split
    · exact h.deriveClass.tableMoved
    · exact h
  unfold State.timebaseChanged
  dsimp only
  split
  · exact tabled.reworkRestore
  · exact tabled

/-- The site class is no named field of the timebase; a changed class table is followed through its thresholds (01:R23). -/
theorem applyTimebase (h : s.OutputsAgree) : (s.applyTimebase x).OutputsAgree := by
  unfold State.applyTimebase
  split
  next => exact h.refuse
  next u put =>
    obtain ⟨settings, -⟩ := putFields_timebase put
    have same : ({ u with rev := u.rev + 1 } : Timebase).siteClass = s.tb.siteClass := by rw [settings]; rfl
    split_ifs
    · exact h.refuse
    · exact h.refuse
    · exact (h.setTb same).timebaseChanged.done

theorem enabledChanged {was : Bool} (h : s.OutputsAgree) : (s.enabledChanged i was).OutputsAgree := by
  unfold State.enabledChanged
  repeat' split
  · exact h.startInputs
  · exact h
  · exact h.disableRef.announceLeft
  · exact h.disableRef
  all_goals exact h

theorem targetChanged (h : s.OutputsAgree) : (s.targetChanged i).OutputsAgree := by
  unfold State.targetChanged
  dsimp only
  split
  · exact h.updRef
  · split_ifs
    · exact h
    · exact h.updRef
    · exact h.becomeUsable
  all_goals exact h

theorem rankChanged (h : s.OutputsAgree) : (s.rankChanged i).OutputsAgree := by
  unfold State.rankChanged
  split_ifs
  · exact h.loseSelected
  · exact h.selectEntry.reworkRestore
  · exact h.reworkRestore
  · exact h

/-- A change made under a condition, from and to states that keep the law. -/
theorem ite_else {c : Prop} [Decidable c] (ht : t.OutputsAgree) (hs : s.OutputsAgree) : (if c then t else s).OutputsAgree := by
  split
  · exact ht
  · exact hs

theorem referenceChanged {was : Bool} {fs : List Field} (h : s.OutputsAgree) :
    (s.referenceChanged i was fs).OutputsAgree := by
  have edge := ite_else (c := named fs 6) (h.updRef (i := i) (f := fun e => e.edgeChanged s.clock.osc)) h
  have enabled := ite_else (c := named fs 2) (edge.enabledChanged (i := i) (was := was)) edge
  have target := ite_else (c := named fs 7) (enabled.targetChanged (i := i)) enabled
  unfold State.referenceChanged
  exact ite_else target.rankChanged target

theorem applyReference (h : s.OutputsAgree) : (s.applyReference x i).OutputsAgree := by
  unfold State.applyReference
  repeat' split
  · exact h.refuse
  · exact h.refuse
  · exact h.setRef.referenceChanged.done

theorem applyAdmission {k : AdmIx} (h : s.OutputsAgree) : (s.applyAdmission x k).OutputsAgree := by
  unfold State.applyAdmission
  split
  · exact h.refuse
  · exact h.setAdmission.done

theorem createAt {k : AdmIx} (h : s.OutputsAgree) : (s.createAt x k).OutputsAgree := by
  unfold State.createAt
  repeat' split
  · exact h.refuse
  · exact h.refuse
  · exact h.setAdmission.done

theorem standingChanged {z : Lease} (h : s.OutputsAgree) : (s.standingChanged l y z).OutputsAgree :=
  h.of_touches (standingChanged_touches (by decide) (by decide) (by decide) (by decide) .rfl')

theorem editLease (h : s.OutputsAgree) : (s.editLease x l y).OutputsAgree := by
  unfold State.editLease
  repeat' split
  · exact h.refuse
  · exact h.moveLease.standingChanged.done
  · exact h.refuse

theorem applyPort (h : s.OutputsAgree) : (s.applyPort x p).OutputsAgree := by
  unfold State.applyPort
  split
  · exact h.refuse
  · exact h.setPort.done

/-- A changed output is moved to the state its new values give it; the change may then wait in a RUNNING one (08:R146). -/
theorem outputChanged {j : OutIx} {o : Output} {was : OutState} {fs : List Field} (shaped : o.Shaped) (h : s.OutputsAgree) :
    ((s.setOut j o).outputChanged j was fs).OutputsAgree := by
  have moved : ((s.setOut j o).moveOutput j Output.entryEdge).OutputsAgree := by
    refine moveOutput_of (by rwa [setOut_out]) fun k apart => ?_
    rw [setOut_out_ne s (Ne.symm apart)]
    exact h.at_out k
  unfold State.outputChanged
  dsimp only
  split
  next waits =>
    simp only [Bool.and_eq_true, decide_eq_true_eq] at waits
    obtain ⟨⟨-, running⟩, -⟩ := waits
    refine (outputsAgree_iff _).mpr fun k => ?_
    rw [updOut_out, updOut_tb]
    split
    next here =>
      subst here
      exact (moved.at_out j).of_running running rfl rfl ((moved.at_out j).shaped.running running)
    next => exact moved.at_out k
  next => exact moved

theorem applyOutput {j : OutIx} (h : s.OutputsAgree) : (s.applyOutput x j).OutputsAgree := by
  unfold State.applyOutput
  split
  next => exact h.refuse
  next o put =>
    obtain ⟨running, stopped⟩ := putFields_output_shaped put (h.at_out j).shaped
    have shaped : ({ o with rev := o.rev + 1 } : Output).Shaped := ⟨running, stopped⟩
    split
    · exact (h.outputChanged shaped).done
    · exact h.refuse

theorem applyKind {k : Fin 20} (h : s.OutputsAgree) : (s.applyKind x k).OutputsAgree := by
  unfold State.applyKind
  split
  · exact h.refuse
  · exact h.setAlarm.done

theorem applyUnit (h : s.OutputsAgree) : (s.applyUnit x).OutputsAgree := by
  unfold State.applyUnit
  split
  · exact h.refuse
  · exact h.setAlarm.done

theorem applyLine {k : LineIx} (h : s.OutputsAgree) : (s.applyLine x k).OutputsAgree := by
  unfold State.applyLine
  repeat' split
  · exact h.refuse
  · exact h.setAlarm.done
  · exact h.refuse

/-! #### The named commands -/

theorem approve (h : s.OutputsAgree) : (s.approve l y).OutputsAgree :=
  h.of_touches (approve_touches (by decide) (by decide) (by decide) (by decide) (by decide) .rfl')

theorem ackAt {k : SlotIx} {r : AlarmRecord} (h : s.OutputsAgree) : (s.ackAt x k r).OutputsAgree := by
  unfold State.ackAt
  split
  · exact h.refuse
  · exact h.setAlarm.doneForm
  · exact h.setAlarm.doneSlot

theorem clearLockout (h : s.OutputsAgree) : (s.clearLockout x i).OutputsAgree := by
  unfold State.clearLockout
  dsimp only
  split_ifs
  · exact h.updRef.clearAlarm.startInputs.done
  · exact h.updRef.done
  · exact h.refuse

theorem forceEntry (h : s.OutputsAgree) : (s.forceEntry i).OutputsAgree := by
  unfold State.forceEntry
  dsimp only
  split
  · exact (h.updTb rfl).storeRestore
  · exact (h.updTb rfl).selectEntry.storeRestore

theorem reopen (h : s.OutputsAgree) : (s.reopen x p).OutputsAgree := by
  unfold State.reopen
  split
  · exact h.reopenConflict.done
  · exact h.openPort.choose.done
  all_goals exact h.refuse

theorem closeAt (h : s.OutputsAgree) : (s.closeAt x p).OutputsAgree := by
  unfold State.closeAt
  split
  · exact h.done
  · exact h.closePort.done

theorem closeSetup (h : s.OutputsAgree) : s.closeSetup.OutputsAgree :=
  h.of_touches (closeSetup_touches (by decide) (by decide) (by decide) (by decide) (by decide) (by decide) .rfl')

end State.OutputsAgree
end Sys2Proof.Machine

/-! ### Every step keeps the outputs in agreement with the site class (08:R141) -/
namespace Sys2Proof.Machine
open Sys2Proof

variable {s t : State}

/-- An outcome whose state, if it leads to one, keeps the law of the outputs. -/
def OutputsAgreeIn (o : Host.Outcome State Fault Refusal) : Prop := ∀ t, o = .next t → t.OutputsAgree

theorem outputsAgreeIn_next (h : t.OutputsAgree) : OutputsAgreeIn (.next t) := fun _ same => by cases same; exact h

namespace State.OutputsAgree

theorem event {dt : Nat} {f : State → State} (hf : ∀ u : State, u.OutputsAgree → (f u).OutputsAgree) (h : s.OutputsAgree) :
    OutputsAgreeIn (event dt f s) := by
  refine outputsAgreeIn_next ?_
  split
  · exact h
  · exact (hf _ h.elapse).settle

theorem laneEvent {dt : Nat} {p : PortIx} {xs : List RxSymbol} (h : s.OutputsAgree) : OutputsAgreeIn (laneEvent dt p xs s) :=
  h.event fun _ agree => agree.hear

theorem frameEvent {dt : Nat} {lane : Lane} {f : LaneFrame} (h : s.OutputsAgree) : OutputsAgreeIn (frameEvent dt lane f s) :=
  h.laneEvent

theorem request {dt : Nat} {x : Executing} {stage : Stage} {act : Executing → State → State}
    (hact : ∀ u : State, u.OutputsAgree → (act x u).OutputsAgree) (h : s.OutputsAgree) :
    OutputsAgreeIn (request dt x stage act s) := h.event fun _ agree => agree.carryRequest hact

/-! #### What each request does (10:R170 to R176) -/

variable {x : Executing}

theorem actUnknown (h : s.OutputsAgree) : (actUnknown x s).OutputsAgree := h.refuse

theorem actLook {k : Table} (h : s.OutputsAgree) : (actLook k x s).OutputsAgree :=
  h.checked <| atRecord (fun _ => h.doneForm) h

theorem actNext {k : Table} (h : s.OutputsAgree) : (actNext k x s).OutputsAgree :=
  h.checked <| by
    split
    · exact h.refuse
    · exact h.doneForm

theorem actChangeTimebase (h : s.OutputsAgree) : (actChangeTimebase x s).OutputsAgree := changing (fun _ => h.applyTimebase) h

theorem actChangeReference (h : s.OutputsAgree) : (actChangeReference x s).OutputsAgree :=
  changing (fun _ => atIx (fun _ => h.applyReference) h) h

theorem actChangeAdmission (h : s.OutputsAgree) : (actChangeAdmission x s).OutputsAgree :=
  changing (fun _ => atIx (fun _ => h.applyAdmission) h) h

theorem actChangeLease (h : s.OutputsAgree) : (actChangeLease x s).OutputsAgree :=
  changing (fun _ => atLease (fun _ _ => h.editLease) h) h

theorem actChangePort (h : s.OutputsAgree) : (actChangePort x s).OutputsAgree :=
  changing (fun _ => atIx (fun _ => h.applyPort) h) h

theorem actChangeOutput (h : s.OutputsAgree) : (actChangeOutput x s).OutputsAgree :=
  changing (fun _ => atIx (fun _ => h.applyOutput) h) h

theorem actChangeAlarmKind (h : s.OutputsAgree) : (actChangeAlarmKind x s).OutputsAgree :=
  changing (fun _ => atIx (fun _ => h.applyKind) h) h

theorem actChangeAlarmUnit (h : s.OutputsAgree) : (actChangeAlarmUnit x s).OutputsAgree := changing (fun _ => h.applyUnit) h

theorem actChangeAlarmLine (h : s.OutputsAgree) : (actChangeAlarmLine x s).OutputsAgree :=
  changing (fun _ => atIx (fun _ => h.applyLine) h) h

theorem actCreate (h : s.OutputsAgree) : (actCreate x s).OutputsAgree :=
  h.checked <| by
    split
    · exact h.refuse
    · exact atIx (fun _ => h.createAt) h

theorem actRetireAdmission (h : s.OutputsAgree) : (actRetireAdmission x s).OutputsAgree :=
  h.checked <| atRecord (fun _ => atIx (fun _ => h.setAdmission.doneSlot) h) h

theorem actRetireLease (h : s.OutputsAgree) : (actRetireLease x s).OutputsAgree :=
  h.checked <| atRecord (fun _ => atIx (fun _ => h.retireNotice.doneSlot) h) h

theorem actApprove (h : s.OutputsAgree) : (actApprove x s).OutputsAgree :=
  h.checked <| atRecord (fun _ => atLease (fun _ _ => by
    split
    · exact h.approve.done
    · exact h.refuse) h) h

theorem actDeny (h : s.OutputsAgree) : (actDeny x s).OutputsAgree :=
  h.checked <| atRecord (fun _ => atLease (fun _ _ => by
    split
    · exact h.retireRefuse.doneSlot
    · exact h.refuse) h) h

theorem actSuspend (h : s.OutputsAgree) : (actSuspend x s).OutputsAgree :=
  h.checked <| atRecord (fun _ => atLease (fun _ _ => by
    split
    · exact h.suspend.done
    · exact h.refuse) h) h

theorem actResume (h : s.OutputsAgree) : (actResume x s).OutputsAgree :=
  h.checked <| atRecord (fun _ => atLease (fun _ _ => by
    split
    · exact h.resumeLease.choose.done
    · exact h.refuse) h) h

theorem actMeasure (h : s.OutputsAgree) : (actMeasure x s).OutputsAgree :=
  h.checked <| atRecord (fun _ => atLease (fun _ _ => by
    split_ifs
    · exact h.refuse
    · exact h.refuse
    · exact h.updScanner.choose.done) h) h

theorem actAck (h : s.OutputsAgree) : (actAck x s).OutputsAgree :=
  h.checked <| atRecord (fun _ => atIx (fun _ => by
    split
    · exact h
    · exact h.ackAt) h) h

theorem actAckAll (h : s.OutputsAgree) : (actAckAll x s).OutputsAgree := h.checked h.setAlarm.reply

theorem actClearLockout (h : s.OutputsAgree) : (actClearLockout x s).OutputsAgree :=
  h.checked <| atRecord (fun _ => atIx (fun _ => h.clearLockout) h) h

theorem actForce (h : s.OutputsAgree) : (actForce x s).OutputsAgree :=
  h.checked <| atRecord (fun _ => atIx (fun _ => by
    split
    · exact h.forceEntry.done
    · exact h.refuse) h) h

theorem actRelease (h : s.OutputsAgree) : (actRelease x s).OutputsAgree :=
  h.checked <| by
    split
    · exact (h.updTb rfl).reworkRestore.done
    · exact h.refuse

theorem actReopen (h : s.OutputsAgree) : (actReopen x s).OutputsAgree :=
  h.checked <| atRecord (fun _ => atIx (fun _ => by
    split
    · exact h.reopen
    · exact h.refuse) h) h

theorem actClose (h : s.OutputsAgree) : (actClose x s).OutputsAgree :=
  h.checked <| atRecord (fun _ => atIx (fun _ => by
    split
    · exact h.closeAt
    · exact h.refuse) h) h

theorem actCloseSetup (h : s.OutputsAgree) : (actCloseSetup x s).OutputsAgree :=
  h.checked <| by
    split
    · exact h.refuse
    · exact h.closeSetup.doneStatus

theorem actRestart (h : s.OutputsAgree) : (actRestart x s).OutputsAgree := h.checked restarted.setMgmt

theorem actStatus (h : s.OutputsAgree) : (actStatus x s).OutputsAgree := h.checked h.doneStatus

/-- Every command keeps the law. -/
theorem of_exec (i : Instr) (h : s.OutputsAgree) : OutputsAgreeIn (exec i s) := by
  cases i
  case resetN => exact outputsAgreeIn_next ((restarted (s := s)).of_same rfl rfl)
  case resetNRelease dt =>
    rw [exec_resetNRelease]
    refine outputsAgreeIn_next ?_
    split
    · exact restarted
    · exact h.elapse.settle
  case runSecond => rw [exec_runSecond]; exact h.event fun _ agree => agree.runSecondIfDue
  case siteSecondBoundary => rw [exec_siteSecondBoundary]; exact h.event fun _ agree => agree.boundaryIfDue
  case referenceEdge => rw [exec_referenceEdge]; exact h.event fun _ agree => agree.pulseEdge
  case labelFrame => rw [exec_labelFrame]; exact h.event fun _ agree => agree.labelFrame
  case linePulse => rw [exec_linePulse]; exact h.event fun _ agree => agree.linePulse
  case assistMeasurement => rw [exec_assistMeasurement]; exact h.event fun _ agree => agree.deliverMeasurement
  case timebaseSample => rw [exec_timebaseSample]; exact h.event fun _ agree => agree.deliverSample
  case missingSampleTimerExpiry => rw [exec_missingSampleTimerExpiry]; exact h.event fun _ agree => agree.missingExpires
  case holdOffExpiry => rw [exec_holdOffExpiry]; exact h.event fun _ agree => agree.holdOffExpires
  case faultScoreDecay => rw [exec_faultScoreDecay]; exact h.event fun _ agree => agree.scoreDecays
  case revertiveSwitch => rw [exec_revertiveSwitch]; exact h.event fun _ agree => agree.switchIfDue
  case laneLockGained | laneLockLost => exact h.laneEvent
  case join | renew | leave | report | peerMark | echoBack | hubFrameReceived => exact h.frameEvent
  case frameDeparture => rw [exec_frameDeparture]; exact h.event fun _ agree => agree.frameDeparts
  case markDeparture => rw [exec_markDeparture]; exact h.event fun _ agree => agree.deliverReport
  case echoDeparture => rw [exec_echoDeparture]; exact h.event fun _ agree => agree.deliverReport
  case echoTimerExpiry => rw [exec_echoTimerExpiry]; exact h.event fun _ agree => agree.echoTimerExpires
  case boundarySymbolEmission => rw [exec_boundarySymbolEmission]; exact h.event fun _ agree => agree.symbolDue
  case routineBatchDue => rw [exec_routineBatchDue]; exact h.event fun _ agree => agree.routineFallsDue
  case approvalDeadlineExpiry => rw [exec_approvalDeadlineExpiry]; exact h.event fun _ agree => agree.deadlineExpires
  case outputRisingEdge => rw [exec_outputRisingEdge]; exact h.event fun _ agree => agree.updOut Output.Agrees.rising
  case outputFall => rw [exec_outputFall]; exact h.event fun _ agree => agree.updOut Output.Agrees.fallen
  case roomAnnouncement => rw [exec_roomAnnouncement]; exact h.event fun _ agree => agree.takeRoom
  case statusPoll => rw [exec_statusPoll]; exact h.event fun _ agree => agree.statusPoll
  case answerTransaction => rw [exec_answerTransaction]; exact h.event fun _ agree => agree.showMiso.setMgmt
  case unknownRequest =>
    rw [exec_unknownRequest]
    split
    · exact h.event fun _ agree => agree
    · exact h.request fun _ agree => agree.actUnknown
  case look => exact h.request fun _ agree => agree.actLook
  case next => exact h.request fun _ agree => agree.actNext
  case changeTimebase => exact h.request fun _ agree => agree.actChangeTimebase
  case changeReference => exact h.request fun _ agree => agree.actChangeReference
  case changeAdmission => exact h.request fun _ agree => agree.actChangeAdmission
  case changeLease => exact h.request fun _ agree => agree.actChangeLease
  case changePort => exact h.request fun _ agree => agree.actChangePort
  case changeOutput => exact h.request fun _ agree => agree.actChangeOutput
  case changeAlarmKind => exact h.request fun _ agree => agree.actChangeAlarmKind
  case changeAlarmUnit => exact h.request fun _ agree => agree.actChangeAlarmUnit
  case changeAlarmLine => exact h.request fun _ agree => agree.actChangeAlarmLine
  case create => exact h.request fun _ agree => agree.actCreate
  case retireAdmission => exact h.request fun _ agree => agree.actRetireAdmission
  case retireLease => exact h.request fun _ agree => agree.actRetireLease
  case approve => exact h.request fun _ agree => agree.actApprove
  case deny => exact h.request fun _ agree => agree.actDeny
  case suspend => exact h.request fun _ agree => agree.actSuspend
  case resume => exact h.request fun _ agree => agree.actResume
  case measure => exact h.request fun _ agree => agree.actMeasure
  case ack => exact h.request fun _ agree => agree.actAck
  case ackAll => exact h.request fun _ agree => agree.actAckAll
  case clearLockout => exact h.request fun _ agree => agree.actClearLockout
  case force => exact h.request fun _ agree => agree.actForce
  case release => exact h.request fun _ agree => agree.actRelease
  case reopen => exact h.request fun _ agree => agree.actReopen
  case close => exact h.request fun _ agree => agree.actClose
  case closeSetup => exact h.request fun _ agree => agree.actCloseSetup
  case restart => exact h.request fun _ agree => agree.actRestart
  case status => exact h.request fun _ agree => agree.actStatus

end State.OutputsAgree

/-- Settles O57: no step breaks the law. The outputs and the site class are written together, at a class change event, which
moves every output to the state due (`crossClass_out`); a change of an output moves that one; what else happens to an output keeps
its state and settings (`Output.Agrees`). -/
theorem outputsAgreeAfterEveryStep : Obligations.OutputsAgreeAfterEveryStep := by
  unfold Obligations.OutputsAgreeAfterEveryStep
  intro s t agree next
  unfold step at next
  split at next
  next =>
    cases next
    exact agree
  next i rest _ =>
    have popped : (s.withPending rest).OutputsAgree := agree.of_same rfl rfl
    exact popped.of_exec i t next

end Sys2Proof.Machine

/-! ### Instants of a plan (08:R142, R144) -/
namespace Sys2Proof.Machine
open Sys2Proof

namespace Plan

variable {p : Plan} {now x : SiteNs}

/-- Congruent numbers do not lie strictly between 0 and one period apart. -/
theorem le_of_mod_eq {m x y : Nat} (same : x % m = y % m) (near : x < y + m) : x ≤ y := by
  by_contra above
  have whole : (x - y) % m = 0 := Nat.sub_mod_eq_zero_of_mod_eq same
  rw [Nat.mod_eq_of_lt (by omega)] at whole
  omega

/-- Below the top of site time the instant found lies less than one period ahead. -/
theorem atOrAfter_eq (phase : p.phase < p.period) (room : now + p.period ≤ Config.siteMod) :
    p.atOrAfter now = now + (p.phase + p.period - now % p.period) % p.period :=
  Nat.mod_eq_of_lt (Nat.lt_of_lt_of_le (Nat.add_lt_add_left (Nat.mod_lt _ (Nat.zero_lt_of_lt phase)) now) room)

theorem atOrAfter_mod (phase : p.phase < p.period) (room : now + p.period ≤ Config.siteMod) :
    p.atOrAfter now % p.period = p.phase := by
  have rest : now % p.period < p.period := Nat.mod_lt _ (Nat.zero_lt_of_lt phase)
  have sum : now % p.period + (p.phase + p.period - now % p.period) = p.phase + p.period :=
    Nat.add_sub_of_le (Nat.le_add_left_of_le rest.le)
  calc p.atOrAfter now % p.period
      = (now + (p.phase + p.period - now % p.period) % p.period) % p.period := by rw [atOrAfter_eq phase room]
    _ = (now % p.period + (p.phase + p.period - now % p.period)) % p.period := by rw [Nat.add_mod_mod, Nat.mod_add_mod]
    _ = p.phase := by rw [sum, Nat.add_mod_right, Nat.mod_eq_of_lt phase]

theorem le_atOrAfter (phase : p.phase < p.period) (room : now + p.period ≤ Config.siteMod) : now ≤ p.atOrAfter now := by
  rw [atOrAfter_eq phase room]
  exact Nat.le_add_right _ _

/-- No instant at or after `now` comes before the one found. -/
theorem atOrAfter_le (phase : p.phase < p.period) (room : now + p.period ≤ Config.siteMod) (later : now ≤ x)
    (instant : x % p.period = p.phase) : p.atOrAfter now ≤ x := by
  refine le_of_mod_eq ((atOrAfter_mod phase room).trans instant.symm) ?_
  have near : (p.phase + p.period - now % p.period) % p.period < p.period := Nat.mod_lt _ (Nat.zero_lt_of_lt phase)
  rw [atOrAfter_eq phase room]
  exact Nat.add_lt_add_of_le_of_lt later near

end Plan
end Sys2Proof.Machine

/-! ### Rising edges and falls (08:R142 to R146) -/
namespace Sys2Proof.Machine
open Sys2Proof

variable {s u : State} {dt : Nat} {i : OutIx}

namespace Output

variable {o : Output} {now e : SiteNs} {p : Plan}

theorem rising_due (running : o.state = .running) (edge : o.nextEdge = some e) (plan : o.plan = some p)
    (due : reached now e = true) : o.rising now = o.fallen.edgeAt e p := by
  simp only [rising, running, edgeIfDue, edge, plan, due, if_true]

/-- An output that is OFF, SQUELCHED between instants or RUNNING before its next edge is left as it is. -/
theorem rising_idle (idle : o.state = .off ∨ (o.state = .squelched ∧ o.stored.atOrAfter now ≠ now) ∨
    (o.state = .running ∧ ∀ e, o.nextEdge = some e → reached now e = false)) : o.rising now = o := by
  unfold rising
  rcases idle with off | ⟨squelched, apart⟩ | ⟨running, early⟩
  · rw [off]
  · rw [squelched]
    exact if_neg apart
  · rw [running]
    dsimp only [edgeIfDue]
    split
    next e p edge _ => rw [early e edge, if_neg Bool.false_ne_true]
    next => rfl

theorem rising_instant (squelched : o.state = .squelched) (instant : o.stored.atOrAfter now = now) :
    o.rising now = { o with passed := some (o.stored, now) } := by
  have taken : o.rising now = o.passIfInstant now := by simp only [rising, squelched]
  exact taken.trans (if_pos instant)

/-- The line stays HIGH through the edge: no fall comes before it (08:R143). -/
def Standing (o : Output) : Prop := o.line = .high ∧ o.fallRemaining ≠ some 0

/-- An edge while the line is HIGH is passed over. -/
theorem edgeAt_standing (h : o.Standing) :
    o.fallen.edgeAt e p = { o with nextEdge := some ((e + p.period) % Config.siteMod) } := by
  obtain ⟨line, up⟩ := h
  unfold fallen
  rw [if_neg up]
  unfold edgeAt
  rw [line]

/-- At an edge that is not passed over the line is LOW, and a fall due is out of the way. -/
theorem fallen_low (h : ¬ o.Standing) : ∃ r, o.fallen = { o with line := .low, fallRemaining := r } := by
  rcases o.fallen_cases with ⟨-, same⟩ | ⟨up, same⟩
  · exact ⟨none, same⟩
  · refine ⟨o.fallRemaining, ?_⟩
    have low : o.line = .low := by
      cases line : o.line with
      | low => rfl
      | high => exact absurd ⟨line, up⟩ h
    rw [same, ← low]

theorem edgeAt_rises (h : ¬ o.Standing) (settled : o.changeWaiting = false) :
    o.fallen.edgeAt e p =
      { o with line := .high, fallRemaining := some p.width, nextEdge := some ((e + p.period) % Config.siteMod) } := by
  obtain ⟨r, same⟩ := fallen_low h
  rw [same]
  unfold edgeAt
  rw [settled]

theorem edgeAt_replans (h : ¬ o.Standing) (waits : o.changeWaiting = true) :
    o.fallen.edgeAt e p =
      { o with
        line := .high, fallRemaining := some o.width, nextEdge := some (o.stored.after e), plan := some o.stored
        changeWaiting := false } := by
  obtain ⟨r, same⟩ := fallen_low h
  rw [same]
  unfold edgeAt
  rw [waits]
  rfl

end Output

/-! #### The two commands -/

/-- A command that changes output `i` alone, by values beside its settings. -/
theorem event_updOut {f : State → Output → Output} {after : Output} (h : s.At dt u) (settings : ∀ o, (f u o).settings = o.settings)
    (result : f u (u.out i) = after) :
    ∃ t, event dt (fun t => t.updOut i (f t)) s = .next t ∧ u.OnlyTouches [.outs, .pins] t ∧
      (∀ j, j ≠ i → t.out j = u.out j) ∧ t.out i = after := by
  refine ⟨_, event_at h, settle_touches (by decide) (updOut_touches (by decide) settings .rfl'), fun j apart => ?_, ?_⟩
  · rw [settle_out, updOut_out, if_neg apart.symm]
  · rw [settle_out, updOut_out, if_pos rfl, result]

theorem updOut_self {f : Output → Output} (same : f (s.out i) = s.out i) : s.updOut i f = s := by
  unfold State.updOut
  rw [same]
  simp only [State.setOut, State.out, Fin.getElem_fin, Vector.set_getElem_self]

theorem event_updOut_idle {f : State → Output → Output} (h : s.At dt u) (same : f u (u.out i) = u.out i) :
    ∃ t, event dt (fun t => t.updOut i (f t)) s = .next t ∧ u.OnlyTouches [.pins] t :=
  ⟨_, event_at h, by rw [updOut_self same]; exact settle_touches (by decide) .rfl'⟩

/-! #### Squelch and release (08:R145) -/

namespace Output

variable {o : Output} {cls : SiteClass}

theorem dueState_running (on : o.enabled = true) (meets : cls.rank ≤ o.minClass.rank) : o.dueState cls = .running := by
  rw [dueState_eq, if_pos on, if_pos meets]

theorem dueState_squelched (on : o.enabled = true) (short : ¬ cls.rank ≤ o.minClass.rank) : o.dueState cls = .squelched := by
  rw [dueState_eq, if_pos on, if_neg short]

theorem dueState_off (off : o.enabled = false) : o.dueState cls = .off := by
  rw [dueState_eq, if_neg (by rw [off]; exact Bool.false_ne_true)]

end Output

/-- Settles O46: the branches of a rising edge and of a fall, the moves of a class change (`crossClass_out`), and the least instant
of a plan at or after a time. -/
theorem outputsFollowTheirPlan : Obligations.OutputsFollowTheirPlan := by
  unfold Obligations.OutputsFollowTheirPlan
  refine ⟨fun s u dt i h => ?_, fun s cls i => ?_, fun p now n _ phase room => ?_⟩
  · have rises {after : Output} (result : (u.out i).rising u.tb.siteTime = after) :=
      event_updOut (f := fun t o => o.rising t.tb.siteTime) h (fun o => o.rising_settings _) result
    refine ⟨fun e p running edge plan due => ?_, fun squelched instant => ?_, fun idle => ?_, fun due => ?_, fun up => ?_⟩
    · have result := Output.rising_due running edge plan due
      exact ⟨fun standing => rises (result.trans (Output.edgeAt_standing standing)),
        fun falls settled => rises (result.trans (Output.edgeAt_rises falls settled)),
        fun falls waits => rises (result.trans (Output.edgeAt_replans falls waits))⟩
    · exact rises (Output.rising_instant squelched instant)
    · exact event_updOut_idle (f := fun t o => o.rising t.tb.siteTime) h (Output.rising_idle idle)
    · exact event_updOut (f := fun _ => Output.fallen) h Output.fallen_settings (if_pos due)
    · exact event_updOut_idle (f := fun _ => Output.fallen) h (if_neg up)
  · rw [crossClass_out]
    refine ⟨fun on running short => ?_, fun on squelched meets => ?_, fun stays => Output.moved_of_due ?_⟩
    · have due := Output.dueState_squelched on short
      rw [Output.moved_to_stopped (by rw [running, due]; decide) (by rw [due]; decide), due]
      rfl
    · rw [Output.moved_to_running (by rw [squelched]; decide) (Output.dueState_running on meets)]
      rfl
    · rcases stays with ⟨on, running, meets⟩ | ⟨on, squelched, short⟩ | ⟨disabled, off⟩
      · rw [running, Output.dueState_running on meets]
      · rw [squelched, Output.dueState_squelched on short]
      · rw [off, Output.dueState_off disabled]
  · have short : p.period ≤ 1000000000 := Nat.div_le_self _ _
    have top : Config.siteMod = 281474976710656 * 1000000000 := rfl
    have here : now + p.period ≤ Config.siteMod := by omega
    have next : now + 1 + p.period ≤ Config.siteMod := by omega
    exact ⟨Plan.le_atOrAfter phase here, Plan.atOrAfter_mod phase here, Plan.le_atOrAfter phase next,
      Plan.atOrAfter_mod phase next, fun _ => Plan.atOrAfter_le phase here, fun _ => Plan.atOrAfter_le phase next⟩

end Sys2Proof.Machine

/-! ### CHANGE of an output (08:R140, R146; 10:R171) -/
namespace Sys2Proof.Machine
open Sys2Proof

variable {s s₀ : State} {ps : List Part} {x : Executing} {i j : OutIx}

/-! #### The five fields -/

theorem word_toNat {v : Nat} (word : v < 4294967296) : (BitVec.ofNat 32 v).toNat = v := by
  rw [BitVec.toNat_ofNat]
  exact Nat.mod_eq_of_lt word

/-- The fields of an output as a CHANGE names them (08:R140). -/
def outputFields (enabled : Bool) (n phase width : Nat) (cls : Grade) : List Field :=
  [⟨2, if enabled then 1 else 0⟩, ⟨3, BitVec.ofNat 32 n⟩, ⟨4, BitVec.ofNat 32 phase⟩, ⟨5, BitVec.ofNat 32 width⟩,
    ⟨6, BitVec.ofNat 32 cls.code⟩]

/-- An output with the values of a CHANGE. -/
def Output.withSettings (o : Output) (enabled : Bool) (n phase width : Nat) (cls : Grade) : Output :=
  { o with enabled := enabled, n := n, phase := phase, width := width, minClass := cls }

/-- An output whose fields have changed: the record's revision advances (10:R171). -/
def Output.revised (o : Output) : Output := { o with rev := o.rev + 1 }

variable {enabled : Bool} {n phase width : Nat} {cls : Grade}

theorem putOutput_settings (o : Output) (low : 1 ≤ n) (high : n ≤ 1000) (offset : phase < 4294967296) (wide : width < 4294967296) :
    putFields putOutput o (outputFields enabled n phase width cls) = some (o.withSettings enabled n phase width cls) := by
  have two (o : Output) : putOutput o ⟨2, if enabled then 1 else 0⟩ = some { o with enabled := enabled } :=
    congrArg (Option.map _) (yesNo_bool enabled)
  have three (o : Output) : putOutput o ⟨3, BitVec.ofNat 32 n⟩ = some { o with n := n } :=
    congrArg (Option.map _) (within_ofNat low high (by decide))
  have four (o : Output) : putOutput o ⟨4, BitVec.ofNat 32 phase⟩ = some { o with phase := phase } :=
    congrArg (fun v => some ({ o with phase := v } : Output)) (word_toNat offset)
  have five (o : Output) : putOutput o ⟨5, BitVec.ofNat 32 width⟩ = some { o with width := width } :=
    congrArg (fun v => some ({ o with width := v } : Output)) (word_toNat wide)
  have six (o : Output) : putOutput o ⟨6, BitVec.ofNat 32 cls.code⟩ = some { o with minClass := cls } := by
    cases cls <;> rfl
  unfold outputFields
  rw [putFields_once (by simp)]
  simp only [List.foldlM_cons, List.foldlM_nil, two, three, four, five, six, Option.bind_eq_bind, Option.bind_some, Option.pure_def]
  rfl

/-- N out of its range of values is refused, whatever the other fields (10:R171). -/
theorem putOutput_outside (o : Output) (word : n < 4294967296) (outside : ¬ (1 ≤ n ∧ n ≤ 1000)) :
    putFields putOutput o (outputFields enabled n phase width cls) = none := by
  refine putFields_refused (f := ⟨3, BitVec.ofNat 32 n⟩) (fun r => ?_) (by simp [outputFields]) o
  refine congrArg (Option.map _) (?_ : within 1 1000 ⟨3, BitVec.ofNat 32 n⟩ = none)
  unfold within
  simp [word_toNat word, outside]

theorem Output.planFits_iff (o : Output) :
    o.planFits = true ↔ o.n ∣ 1000000000 ∧ o.phase < 1000000000 / o.n ∧ 1 ≤ o.width ∧ o.width < 1000000000 / o.n := by
  simp only [planFits, Bool.and_eq_true, decide_eq_true_eq, Nat.dvd_iff_mod_eq_zero, and_assoc]
  rfl

/-! #### The effect -/

/-- What an output given the values of a CHANGE becomes: moved to the state due, the change waiting if it is RUNNING on (08:R146). -/
def Output.followed (o : Output) (cls : SiteClass) (now : SiteNs) (was : OutState) (plan : Bool) : Output :=
  let m := o.moved cls (o.entryEdge now)
  if was = .running && m.state = .running && plan then { m with changeWaiting := true } else m

theorem outputChanged_out (i j : OutIx) (was : OutState) (fs : List Field) :
    (s.outputChanged i was fs).out j =
      if i = j then (s.out j).followed s.tb.siteClass s.tb.siteTime was (namedSome fs [3, 4, 5]) else s.out j := by
  unfold State.outputChanged Output.followed
  dsimp only
  by_cases here : i = j
  · subst here
    rw [apply_ite (fun t : State => t.out i), updOut_out, if_pos rfl, if_pos rfl, moveOutput_out, if_pos rfl]
  · rw [apply_ite (fun t : State => t.out j), updOut_out, if_neg here, if_neg here, ite_self, moveOutput_out, if_neg here]

theorem setOut_retouches {o : Output} (houts : Part.outs ∈ ps) (hset : Part.outSettings ∈ ps) (h : s₀.OnlyTouches ps s) :
    s₀.OnlyTouches ps (s.setOut i o) :=
  h.trans fun q hq => by
    cases q <;> first
      | exact absurd houts hq
      | exact absurd hset hq
      | simp [State.Same]

theorem outputChanged_touches {was : OutState} {fs : List Field} (houts : Part.outs ∈ ps) (hslots : Part.slots ∈ ps)
    (hrooms : Part.rooms ∈ ps) (h : s₀.OnlyTouches ps s) : s₀.OnlyTouches ps (s.outputChanged i was fs) := by
  have moved := moveOutput_touches (i := i) (f := Output.entryEdge) houts hslots hrooms h
  unfold State.outputChanged
  dsimp only
  split
  · exact updOut_touches houts (fun _ => rfl) moved
  · exact moved

/-- What `Output.followed` gives in each state, for a change that names the plan. -/
theorem Output.followed_eq (o : Output) (cls : SiteClass) (now : SiteNs) :
    o.followed cls now o.state true =
      if o.state = o.dueState cls then
        { o with changeWaiting := if o.dueState cls = .running then true else o.changeWaiting }
      else if o.dueState cls = .running then o.toRunning (o.entryEdge now)
      else o.toStopped (o.dueState cls) := by
  unfold followed
  by_cases due : o.state = o.dueState cls
  · rw [if_pos due, moved_of_due due, ← due]
    by_cases running : o.state = .running <;> simp [running]
  · rw [if_neg due]
    by_cases running : o.dueState cls = .running
    · have away : o.state ≠ .running := running ▸ due
      rw [if_pos running, moved_to_running away running]
      simp [away]
    · rw [if_neg running, moved_to_stopped due running]
      simp [running, toStopped]

/-! #### The request -/

theorem actChangeOutput_named (named : x.req.NamesIndex i.val) (known : requestKnown x.kind x.table x.req = true)
    (fresh : x.req.revision = (s.out i).rev) (asked : x.req.fields ≠ []) : actChangeOutput x s = s.applyOutput x i := by
  unfold actChangeOutput
  rw [changing_pass named known (by simp [tableKeys]) (by simp [State.recordAt, State.recordFields, toIx])
    (by simpa [State.slotRevision, toIx] using fresh) asked, atIx_fin]

theorem applyOutput_taken {o : Output} (put : putFields putOutput (s.out i) x.req.fields = some o) (fits : o.planFits = true) :
    s.applyOutput x i =
      ((s.setOut i o.revised).outputChanged i (s.out i).state x.req.fields).done x .output i.val := by
  unfold State.applyOutput
  rw [put]
  exact if_pos fits

theorem applyOutput_unfit {o : Output} (put : putFields putOutput (s.out i) x.req.fields = some o) (unfit : ¬ o.planFits = true) :
    s.applyOutput x i = s.refuse x .badField := by
  unfold State.applyOutput
  rw [put]
  exact if_neg unfit

theorem applyOutput_refused (put : putFields putOutput (s.out i) x.req.fields = none) :
    s.applyOutput x i = s.refuse x .badField := by
  unfold State.applyOutput
  rw [put]

/-- Settles O47: the five values put into the record, the owning checks, and the state due taken (`Output.followed_eq`). -/
theorem changeOutputActs : Obligations.ChangeOutputActs := by
  unfold Obligations.ChangeOutputActs
  intro s u dt req stage i enabled n phase width cls h named fresh acts fields word offset wide fits o new due
  have asked (m : Mgmt) : actChangeOutput ⟨0x03, 0x06, req⟩ (u.setMgmt m) = (u.setMgmt m).applyOutput ⟨0x03, 0x06, req⟩ i :=
    actChangeOutput_named named (requestKnown_change named rfl) fresh (by simp [fields])
  rw [exec_changeOutput]
  refine ⟨fun fit => ?_, fun unfit => ?_⟩
  · obtain ⟨low, high, whole⟩ := id fit
    have plan : new.planFits = true := new.planFits_iff.mpr whole
    have put : putFields putOutput (u.out i) req.fields = some new := fields ▸ putOutput_settings o low high offset wide
    obtain ⟨m, t, ran, frame, answered, left⟩ := request_done (act := actChangeOutput)
      (work := fun w => (w.setOut i new.revised).outputChanged i o.state req.fields)
      (ps := [.mgmt, .outs, .outSettings, .slots, .rooms, .pins]) h acts (tab := .output) (k := i.val) (by decide) (by simp)
      (by simp)
      (fun m setup => outputChanged_touches (by simp) (by simp) (by simp) <| setOut_retouches (by simp) (by simp) <|
        setMgmt_touches (by simp) setup .rfl')
      (fun m _ => (asked m).trans (applyOutput_taken put plan))
    have record (j : OutIx) := left.out (by simp) j
    refine ⟨t, ran, frame, answered, fun j apart => ?_, ?_⟩
    · rw [record, outputChanged_out, if_neg apart.symm, setOut_out_ne _ apart.symm]
      rfl
    · have moved := new.revised.followed_eq u.tb.siteClass u.tb.siteTime
      have state : new.revised.dueState u.tb.siteClass = due := Output.dueState_eq new.revised u.tb.siteClass
      rw [state] at moved
      have names : namedSome req.fields [3, 4, 5] = true := by rw [fields]; rfl
      have twice : o.rev + 2 = o.rev + 1 + 1 := by rw [add_assoc]; rfl
      rw [record, outputChanged_out, if_pos rfl, setOut_out, names, twice]
      exact moved
  · refine request_refused h acts fun m _ => (asked m).trans ?_
    by_cases range : 1 ≤ n ∧ n ≤ 1000
    · obtain ⟨low, high⟩ := range
      refine applyOutput_unfit (o := new) (fields ▸ putOutput_settings o low high offset wide) fun plan => ?_
      exact unfit ⟨low, high, new.planFits_iff.mp plan⟩
    · exact applyOutput_refused (fields ▸ putOutput_outside o word range)

end Sys2Proof.Machine
